-- ==== Sys2Proof/Word.lean ====
section
/-! DEFINITION. The word and byte types of the module. Registers are 32 bits wide (R11); register numbers,
counts, times and addresses of the model are plain natural numbers. -/

namespace Sys2Proof

/-- A register or table word (R11). -/
abbrev Word := BitVec 32

/-- A byte of a frame, a layer buffer or an egress buffer. -/
abbrev Byte := BitVec 8

end Sys2Proof
end

