-- ==== Sys2Proof/Machine/Bits.lean ====
section
/-! DEFINITION. Bit fields, saturating counts, signed readings and byte order, in the forms the registers and
frames of the module use (R11: registers little-endian, frame fields big-endian). -/

namespace Sys2Proof.Machine

/-- The natural number as a register word, modulo 2^32. -/
def w32 (n : Nat) : Word := BitVec.ofNat 32 n

/-- Field of `w` bits from bit `lo` of a natural number. -/
def nfld (x lo w : Nat) : Nat := (x >>> lo) % 2 ^ w

/-- Field of `w` bits from bit `lo` of a word. -/
def fld (x : Word) (lo w : Nat) : Nat := nfld x.toNat lo w

/-- Bit `i` of a word. -/
def bit (x : Word) (i : Nat) : Bool := fld x i 1 = 1

/-- A truth value as a bit. -/
def b2n (b : Bool) : Nat := if b then 1 else 0

/-- A mask without bit `i`. -/
def maskOff (m i : Nat) : Nat := if m.testBit i then m - 2 ^ i else m

/-- The word with the field of `w` bits from `lo` replaced by `v`. -/
def setFld (x : Word) (lo w v : Nat) : Word :=
  w32 (x.toNat - (fld x lo w) <<< lo + (v % 2 ^ w) <<< lo)

/-- The word with bit `i` set or cleared. -/
def setBit (x : Word) (i : Nat) (b : Bool) : Word := setFld x i 1 (b2n b)

/-- A count that saturates at `2^w - 1`. -/
def satAdd (w c k : Nat) : Nat := min (c + k) (2 ^ w - 1)

/-- A natural number of `w` bits read as two's complement. -/
def toSigned (w x : Nat) : Int :=
  let y := x % 2 ^ w
  if y < 2 ^ (w - 1) then (y : Int) else (y : Int) - (2 ^ w : Nat)

/-- An integer as `w` bits of two's complement. -/
def ofSigned (w : Nat) (i : Int) : Nat := (i % ((2 ^ w : Nat) : Int)).toNat

/-- An integer limited to a range. -/
def clampI (lo hi i : Int) : Int := if i < lo then lo else if i > hi then hi else i

/-- Ceiling of a quotient. -/
def cdiv (a b : Nat) : Nat := (a + b - 1) / b

/-- Bytes, most significant first, as a number (frame fields, R11). -/
def beNat (bs : List Byte) : Nat := bs.foldl (fun a b => a * 256 + b.toNat) 0

/-- Bytes, least significant first, as a number (register words and table words, R11). -/
def leNat : List Byte → Nat
  | [] => 0
  | b :: bs => b.toNat + 256 * leNat bs

/-- A number as `k` bytes, most significant first. -/
def beBytes : Nat → Nat → List Byte
  | 0, _ => []
  | k + 1, n => BitVec.ofNat 8 (n / 256 ^ k) :: beBytes k n

/-- A number as `k` bytes, least significant first. -/
def leBytes : Nat → Nat → List Byte
  | 0, _ => []
  | k + 1, n => BitVec.ofNat 8 n :: leBytes k (n / 256)

/-- `k` bytes of a frame from offset `o`, as a big-endian number. -/
def beAt (bs : List Byte) (o k : Nat) : Nat := beNat ((bs.drop o).take k)

/-- Little-endian 32-bit words of a byte list. -/
def leWords : Nat → List Byte → List Word
  | 0, _ => []
  | k + 1, bs => w32 (leNat (bs.take 4)) :: leWords k (bs.drop 4)

/-- The positions 0, 1, … below `n` whose bit is set in `x`. -/
def bitsOf (n x : Nat) : List Nat := (List.range n).filter fun i => x.testBit i

/-- The number of set bits below position `n`. -/
def popCount (n x : Nat) : Nat := (bitsOf n x).length

/-- A list entry, or a default. -/
def lget {α : Type} (l : List α) (i : Nat) (d : α) : α := (l[i]?).getD d

end Sys2Proof.Machine
end

