-- ==== Sys2Proof/Machine/SMap.lean ====
section
/-! DEFINITION. Sparse data by key: a list of (key, value) pairs with strictly rising keys. Every sparse
store of the model (register file, tables, memories, flows, nodes) is one of these. -/

namespace Sys2Proof.Machine

/-- Sparse data by key, in one canonical form: keys strictly rising. -/
abbrev SMap (α : Type) := List (Nat × α)

/-- The entry at a key, if there is one. -/
def sget {α : Type} : SMap α → Nat → Option α
  | [], _ => none
  | (k', v) :: m, k => if k = k' then some v else sget m k

/-- The map with `v` at `k`. -/
def sset {α : Type} : SMap α → Nat → α → SMap α
  | [], k, v => [(k, v)]
  | (k', v') :: m, k, v =>
    if k < k' then (k, v) :: (k', v') :: m
    else if k = k' then (k, v) :: m
    else (k', v') :: sset m k v

/-- The map without an entry at `k`. -/
def sdel {α : Type} : SMap α → Nat → SMap α
  | [], _ => []
  | (k', v') :: m, k => if k = k' then sdel m k else (k', v') :: sdel m k

/-- The canonical form: keys strictly rising. -/
abbrev SMap.wf {α : Type} (m : SMap α) : Prop := (m.map Prod.fst).Pairwise (· < ·)

/-- The canonical form of a map whose unlisted keys read as `d` says: keys strictly rising, and no entry that equals what
its key would read as unlisted. Equal contents are equal data. -/
abbrev SMap.sparse {α : Type} (m : SMap α) (d : Nat → α) : Prop := m.wf ∧ ∀ e ∈ m, e.2 ≠ d e.1

/-- The canonical form of a byte memory: an unlisted byte is 0. -/
abbrev Memory.wf (m : SMap Byte) : Prop := m.sparse fun _ => 0#8

/-- The value at a key, or the value an unlisted key reads as. -/
def sgetD {α : Type} (m : SMap α) (k : Nat) (d : α) : α := (sget m k).getD d

/-- Write `v` at `k` where an unlisted key reads as `d`: an entry equal to `d` is not listed. -/
def sput {α : Type} [DecidableEq α] (m : SMap α) (k : Nat) (v d : α) : SMap α :=
  if v = d then sdel m k else sset m k v

/-- Change the value at `k`, an unlisted key reading as `d`. -/
def smod {α : Type} [DecidableEq α] (m : SMap α) (k : Nat) (d : α) (f : α → α) : SMap α :=
  sput m k (f (sgetD m k d)) d

/-- Remove every entry whose key meets `p`. -/
def sdelIf {α : Type} (m : SMap α) (p : Nat → Bool) : SMap α := m.filter fun e => !p e.1

end Sys2Proof.Machine
end

