-- ==== Sys2Proof/Machine/TypesCtl.lean ====
section
/-! DEFINITION. State of the control bus, the pages, the islands and the event block (chapters 1, 2, 3 and 19):
what is not itself the word of a register. -/

namespace Sys2Proof.Machine

/-- Error codes of Table 2-13. -/
inductive Err where
  | range | reserved | state | locked | align | protect | busy | unmapped | order | readonly | cycle
  deriving DecidableEq, Repr

/-- The status code of an error (Table 2-13). -/
def Err.code : Err → Nat
  | .range => 1 | .reserved => 2 | .state => 3 | .locked => 4 | .align => 5 | .protect => 6
  | .busy => 7 | .unmapped => 8 | .order => 9 | .readonly => 10 | .cycle => 11

/-- The place of an error in the reporting order of R57. -/
def Err.prio : Err → Nat
  | .unmapped => 0 | .align => 1 | .readonly => 2 | .locked => 3 | .protect => 4 | .busy => 5
  | .reserved => 6 | .range => 7 | .state => 8 | .order => 9 | .cycle => 10

/-- The answer to a register access: a status byte of Table 2-15 and the words read. -/
structure Reply where
  status : Nat
  data : List Word
  deriving DecidableEq, Repr

/-- A committed write that waits for its latch point (R50, R51), with its commit time (R88) in local-clock units, its
requester, and the domain its commit left in force (R617). `due`: an earlier commit of the register, with its time, whose
latch point has passed and is not processed yet (R224). -/
structure PendW where
  val : Word
  time : Nat
  req : Nat
  dom : Nat
  due : Option (Word × Nat)
  deriving DecidableEq, Repr

/-- A locked sequence (R83-R92): acquisition time (ns of up time), hold limit in µs at acquisition, pages held in
ascending order, and the staged writes in order. -/
structure LockSeq where
  acq : Nat
  lockUs : Nat
  pages : List Nat
  writes : List (Nat × Word)
  deriving DecidableEq, Repr

/-- Control-bus interface: staging areas, pending sets, locked sequences and the replies given. -/
structure Ctl where
  /-- Staged words by register address (R50, R53). -/
  stage : SMap Word
  /-- Pending words by register address (R51). -/
  pend : SMap PendW
  /-- Locked sequences by requester. -/
  seqs : SMap LockSeq
  /-- Writes of the management firmware that wait for the reply to its cut-off access (R81). -/
  later : List (Nat × Word)
  /-- The latest reply to each requester. -/
  replies : SMap Reply
  /-- The bytes the host port drove in its latest frame after the turnaround (R61), wait bytes left out. -/
  hostOut : List Byte
  deriving DecidableEq, Repr

/-- Arbiter state (R74-R82): contesting requesters as a mask, the present owner, the instant its tenure began, the
word in progress, the end of each backoff, and for each rank the requester granted last. -/
structure Arb where
  contest : Nat
  owner : Option Nat
  tenureStart : Nat
  word : Nat
  backoff : SMap Nat
  lastOf : SMap Nat
  /-- Requesters whose cut-off access still waits for its reply, and may not contest (R81). -/
  waiting : Nat
  /-- Requesters whose burst was cut off and has not ended yet: its remaining words are rejected (R81). -/
  cut : Nat
  deriving DecidableEq, Repr

/-- The access in progress when a tenure is cut off (R81): a word of a burst whose own command states what it did, a write
or a read that its target answers, or one that its target has not answered and that waits at the fence: a write of `v`, or
a read. -/
inductive CutWord where
  | burst
  | write (v : Word)
  | read
  | waits (v : Option Word)
  deriving DecidableEq, Repr

/-- A request that has crossed into an island's fence and has no reply yet (R81, R563): its requester, its address, the
word it writes (none: a read), and the instant it came. -/
structure OutReq where
  isl : Nat
  req : Nat
  addr : Nat
  val : Option Word
  since : Nat
  /-- Its requester's island has been reset since (R564). -/
  orphan : Bool
  deriving DecidableEq, Repr

/-- What a fence waits for beside bus accesses (R563), as ages in ns: how long ago the oldest outstanding request that is no bus
access arrived, or a bus access that an ISL_RST of this very cycle has answered, and how long ago the latest reply to a
request that is no bus access was launched. -/
structure FenceAge where
  oldest : Option Nat
  reply : Option Nat
  deriving DecidableEq, Repr

/-- Islands and fences (chapter 1, 19.4). -/
structure Isl where
  /-- Bit n: island n running and its fence open (ISL_STAT.UP). -/
  up : Nat
  /-- For an island in reset, the instant its fence answered the last outstanding request (R22). -/
  resetAt : SMap Nat
  /-- Bus accesses that wait at a fence (R81, R563). -/
  outs : List OutReq
  /-- The instant of each island's latest reply (R563). -/
  lastReply : SMap Nat
  /-- The instant of the latest write of ISL_FTO (R563). -/
  ftoWrite : Nat
  deriving DecidableEq, Repr

/-- A rise of a relayed group's pending bits that has not been sent yet (R438, R560): group, EVT_SRCg, time, and the destination
HB_EVDST named then. -/
structure EvTx where
  group : Nat
  bits : Nat
  time : Nat
  dst : Nat
  deriving DecidableEq, Repr

/-- Event block (chapter 19). -/
structure Evt where
  /-- Active software sources (EVT_SWSET). -/
  sw : Nat
  /-- Active sources of each group: EVT_SRCg (R557). -/
  src : SMap Nat
  /-- ALERT_N driven low. -/
  alert : Bool
  /-- The instant of the latest release of ALERT_N (R558). -/
  alertRel : Option Nat
  /-- When EVT_FIRST took its record: the lowest of the sources of that cycle stays in it (R559). -/
  firstAt : Option Nat
  /-- The instants of each source's journalled faults, newest first (R562). -/
  logAt : SMap (List Nat)
  /-- Rises that the Hatband relay has yet to send. -/
  relay : List EvTx
  /-- The latest instant at which raw bits were set, and those bits: register address and bit (Table 19-7). -/
  fresh : Nat × List (Nat × Nat)
  deriving DecidableEq, Repr

end Sys2Proof.Machine
end

