-- ==== Sys2Proof/Machine/TypesDrv.lean ====
section
/-! DEFINITION. State of the local drive (chapter 10) beside the registers: images, rails, strings and matrix ports.
Voltages of setpoints are in units of 10 nV, so that one unit of DRV_RAIL.SLEW is one unit per nanosecond. -/

namespace Sys2Proof.Machine

/-- A rail (10.4): setpoint at an instant of up time, the setpoint it moves to, enabled, fault latched, waiting for the
next P_k after its fault was cleared; and the end of the sub-period in which a measurement changed, when the setpoint is
recomputed (R338). -/
structure RailRt where
  v : Nat
  at_ : Nat
  target : Nat
  on : Bool
  fault : Bool
  wait : Bool
  due : Option Nat
  deriving DecidableEq, Repr

/-- A string (10.3, 10.5): latched fault (0 none, 2 OPEN, 3 SHORT), waiting for the next P_k after it was cleared, the
word presented in this epoch, the measured forward voltage (0: none) and current, ISET and forward-voltage class as the
output uses them since P_k (R334), and whether it was on in this epoch (R336). -/
structure StrRt where
  fault : Nat
  wait : Bool
  word : Nat
  vf : Nat
  imeas : Nat
  iset : Nat
  bin : Nat
  ran : Bool
  deriving DecidableEq, Repr

/-- A matrix port (10.7): present scan frame by number and start on the local clock, frames of the epoch still to start,
pass period and whether it is clamped, settings committed with the frame they are for, settings past their latch
point; and the pass period of the frames still to start, where a timing change moved P_{k+1} (R345). -/
structure MxRt where
  scanning : Bool
  frame : Nat
  start : Nat
  left : Nat
  pass : Nat
  clamped : Bool
  pend : List (Nat × Nat × Word)
  due : List (Nat × Word)
  again : Option (Nat × Bool)
  deriving DecidableEq, Repr

/-- The local drive. -/
structure DrvRt where
  /-- Current image: word by egress-word address; an unlisted word is 0. -/
  cur : SMap Nat
  /-- The image that the matrix ports present since P_k (R330). -/
  shown : SMap Nat
  /-- Pending images: presentation time and words (R328). -/
  img : List (Nat × SMap Nat)
  /-- Causes of dark-safe in force (DRV_DARK). -/
  dark : Nat
  /-- Presentation time of the epoch that is presented, and of the one after it. -/
  p : Option Nat
  next : Nat
  /-- Presentation epochs since an L push last applied. -/
  quiet : Nat
  /-- An L push has applied since the last presentation. -/
  fed : Bool
  /-- Latest presentation time of an L push that was kept (R113). -/
  lastP : Nat
  /-- String sub-periods of the present epoch: NSUB and S (R332). -/
  nsub : Nat
  sub : Nat
  rails : List RailRt
  strs : SMap StrRt
  mx : List MxRt
  deriving DecidableEq, Repr

/-- Measured outputs at a P_k: for each rail voltage (10 mV), mean power (10 mW) and mean current (mA) over the last
epoch, and voltage (10 mV) and current (mA) of the matrix supply. -/
structure DrvMeas where
  rails : List (Nat × Nat × Nat)
  vmx : Nat
  imx : Nat
  deriving DecidableEq, Repr

end Sys2Proof.Machine
end

