-- ==== Sys2Proof/Machine/TypesHtk.lean ====
section
/-! DEFINITION. State of the Hatrack (chapter 4): work items, flows, delay lists, executors and reservations. The
flow configuration of Table 4-1 is in the flow table (window HFL). -/

namespace Sys2Proof.Machine

/-- A work item: its sixteen descriptor words (R107), the attempt count of Table 4-4, whether it has already
started once, so that it starts without a new wait test and consumes nothing (R98, R102), and whether the epoch
machinery enqueued it (Table 7-6, R619). -/
structure Item where
  w : List Word
  attempt : Nat
  retried : Bool
  mach : Bool
  deriving DecidableEq, Repr

/-- Flow states of Table 4-3. -/
inductive FlowState where
  | disabled | idle | waiting | ready | reserved | inService | stopped
  deriving DecidableEq, Repr

/-- Run-time state of a flow (R96, Table 4-14). -/
structure FlowRt where
  state : FlowState
  flags : Nat
  queue : List Item
  /-- Last engine, 0-23; 31: none. -/
  lastEng : Nat
  failed : Nat
  retries : Nat
  expired : Nat
  discarded : Nat
  /-- Enqueues are refused up to and including the next item with LAST = 1 (R128). -/
  refusing : Bool
  /-- An atomic group has started and its LAST item has not (R128). -/
  underWay : Bool
  deriving DecidableEq, Repr

/-- What executes an item (Table 4-5, HTK_FAIL1.EXEC): an engine, the framer of a push port or the reader of port L
(16), or a unit. -/
inductive Exec where
  | engine (n : Nat)
  | framer (port : Nat)
  | fold | lining | cal | cue
  deriving DecidableEq, Repr

/-- How an item left the Hatrack without completing (R110): it expired (R123), failed under SKIP (R131), was
discarded (R118, R128, R132, R135), was lost with a reset of island 2 (R134), or failed
under STOP and stays at the head of its flow (R132). -/
inductive Drop where
  | expired | failed | discarded | lost | held
  deriving DecidableEq, Repr

/-- An item in service: flow, item, executor, start (ns of up time), the credits it took, for a RENDER the slot of each
layer that was SHOWN at the start (R186): layer, slot, and when that slot became SHOWN (R203); and for a CHECK, whether it
started too late to compare (R253). -/
structure Svc where
  flow : Nat
  item : Item
  exec : Exec
  start : Nat
  credits : Nat
  reads : List (Nat × Nat × Nat)
  late : Bool
  deriving DecidableEq, Repr

/-- A reservation (R125, R126): flow, engine, the end of its window in ns of up time, and since when the engine has been
without an item, where that came after the reservation. -/
structure Resv where
  flow : Nat
  eng : Nat
  until_ : Nat
  since : Option Nat
  deriving DecidableEq, Repr

/-- The Hatrack. -/
structure Htk where
  flows : SMap FlowRt
  /-- Delay lists TD0-TD3 and GEN, each in release order (R114). -/
  lists : SMap (List Item)
  svc : List Svc
  resv : List Resv
  /-- For each class, the flow dispatched last (R121). -/
  lastDisp : SMap Nat
  /-- The tick of the latest release (R116) and the dispatch slot used last (R120). -/
  lastTick : Option Nat
  lastSlot : Option Nat
  /-- Items whose completion posts were lost by a reset of island 2 (R134). -/
  orphans : List Svc
  /-- Items dropped in the present step whose effects on their blocks are still to be made (`settle`). -/
  dropped : List (Drop × Item)
  deriving DecidableEq, Repr

end Sys2Proof.Machine
end

