-- ==== Sys2Proof/Machine/TypesIng.lean ====
section
/-! DEFINITION. State of content ingest (chapter 5): receive pools, layers and their buffer slots, streams, universes.
Layer, stream and universe settings are in the registers and the layer and universe tables. -/

namespace Sys2Proof.Machine

/-- A run of bytes for the layer region: byte offset in the region and the bytes. -/
structure BytesAt where
  off : Nat
  bytes : List Byte
  deriving DecidableEq, Repr

/-- What a frame in the receive pool carries to the layer buffers: a Perfer-IN REGION (R159) with its rows, a Perfer-IN
COMMIT (R161), or the rows of an ST 2110 packet (5.4), which states the media time of the layer frame, as a count of 90 kHz
from the PTP epoch (R167), where it is the frame's last. -/
inductive IngOp where
  | region (slot fnum : Nat) (rows : List BytesAt)
  | commit (slot fnum regions : Nat)
  | video (slot : Nat) (rows : List BytesAt) (final : Option Int)
  deriving DecidableEq, Repr

/-- A frame in a receive pool: its buffers, what it carries, and whether its buffers are released (R142). -/
structure PoolFrame where
  id : Nat
  bufs : Nat
  released : Bool
  deriving DecidableEq, Repr

/-- The receive pool of a U port, in ring order, and the next frame number. -/
structure Pool where
  ring : List PoolFrame
  nextId : Nat
  deriving DecidableEq, Repr

/-- An INGEST_FIX item that is not closed yet (R144): port, layer, first frame, frames, arrival of the first, layer
frame number. -/
structure OpenItem where
  port : Nat
  layer : Nat
  first : Nat
  count : Nat
  since : Nat
  fnum : Nat
  deriving DecidableEq, Repr

/-- A frame carried by an INGEST_FIX item: pool frame, if it lies in a pool, and operation. -/
structure Carried where
  pool : Option Nat
  op : IngOp
  deriving DecidableEq, Repr

/-- A buffer slot (Table 5-4): 0 FREE, 1 FILLING, 2 PENDING, 3 SHOWN; the frame number and INCOMPLETE mark of the layer
frame it holds. -/
structure SlotRt where
  st : Nat
  fnum : Nat
  inc : Bool
  deriving DecidableEq, Repr

/-- A pending selection (R154, R169): slot, commit time in ns of the local clock, the epoch it applies in (MEDIA mode),
frame number (none for a commit through LAY_FRAMEn), INCOMPLETE mark, the media time that orders MEDIA frames
(R157), and whether a mirrored write made it (R454). -/
structure PendSel where
  slot : Nat
  time : Nat
  target : Option Nat
  fnum : Option Nat
  inc : Bool
  media : Option Int
  mir : Bool
  deriving DecidableEq, Repr

/-- An E1.31 scatter under way (R176): number, slot, items left, and whether one failed. -/
structure Scatter where
  id : Nat
  slot : Nat
  left : Nat
  bad : Bool
  deriving DecidableEq, Repr

/-- A layer (Table 5-15). -/
structure LayRt where
  slots : List SlotRt
  pend : List PendSel
  shownInc : Bool
  /-- Frame number of the shown frame; none where LAY_FRAMEn selected it (Table 5-15, FNUM). -/
  shownFnum : Option Nat
  /-- When the shown slot became SHOWN (R203). -/
  shownAt : Nat
  /-- Media time of the shown frame, where it was committed in MEDIA mode (R157). -/
  shownMedia : Option Int
  incomplete : Nat
  superseded : Nat
  dropped : Nat
  late : Nat
  /-- A universe of the layer changed since the previous scatter. -/
  changed : Bool
  scatter : List Scatter
  scatters : Nat
  /-- The scatter instant (s_k) processed last. -/
  lastPrep : Option Nat
  deriving DecidableEq, Repr

/-- The ST 2110 layer frame being received (R166): its RTP timestamp, the media time of that (R167), U port, layer and
slot. -/
structure VFrame where
  ts : Nat
  media : Int
  port : Nat
  layer : Nat
  slot : Nat
  deriving DecidableEq, Repr

/-- A stream (5.4): locked SSRC, LIVE, the latest accepted packet, the frame open, and the next extended sequence number;
the media times of frames already complete (R171), of those dropped for want of a slot (R166), and of those that lost
packets for want of a buffer before they could open (R177). -/
structure StreamRt where
  ssrc : Option Nat
  live : Bool
  lastPkt : Nat
  cur : Option VFrame
  nextSeq : Option Nat
  done : List Int
  noSlot : List Int
  noBuf : List Int
  deriving DecidableEq, Repr

/-- A sample row data segment of an ST 2110 packet: field bit, line, pixel offset, and the pixel groups. -/
structure Srd where
  field : Bool
  line : Nat
  off : Nat
  data : List Byte
  deriving DecidableEq, Repr

/-- An E1.31 data packet's frame length in bytes, and where it was sent: to an address of the module (none) or to the
multicast address of a universe (R172). -/
structure E131Packet where
  len : Nat
  dest : Option Nat
  deriving DecidableEq, Repr

/-- An E1.31 sync packet: the length of its frame in bytes, and its sync address (R174). -/
structure E131Sync where
  len : Nat
  addr : Nat
  deriving DecidableEq, Repr

/-- A source of a universe (R172, R173): component identifier, priority, sequence number of the last accepted packet, and
its arrival. -/
structure UnivSrc where
  cid : Nat
  prio : Nat
  seq : Nat
  last : Nat
  deriving DecidableEq, Repr

/-- The sources of a universe that are not lost, in the order first seen, and the one that has the universe (R173). -/
structure UnivSrcs where
  seen : List UnivSrc
  taken : Option Nat
  deriving DecidableEq, Repr

/-- A sync address (R175): the latest sync packet, and whether its universes are treated as unsynchronised. -/
structure SyncRt where
  last : Nat
  lost : Bool
  deriving DecidableEq, Repr

/-- Content ingest. -/
structure Ing where
  pools : SMap Pool
  open_ : List OpenItem
  /-- Frames carried by INGEST_FIX items, by port × 2^24 + layer × 2^16 + frame number of the item. -/
  carried : SMap Carried
  /-- The next frame number of each port and layer, by port × 2^8 + layer. -/
  nextOf : SMap Nat
  /-- REGIONs written since the previous COMMIT (R162), by port × 2^8 + layer. -/
  regions : SMap Nat
  lays : SMap LayRt
  streams : SMap StreamRt
  /-- Universe store, by universe-table entry: 512 slots (R175). -/
  univ : SMap (List Byte)
  hold : SMap (List Byte)
  srcs : SMap UnivSrcs
  syncs : SMap SyncRt
  deriving DecidableEq, Repr

end Sys2Proof.Machine
end

