-- ==== Sys2Proof/Machine/TypesLin.lean ====
section
/-! DEFINITION. State of the Lining (chapter 15): records, sectors, checkpoints and the submission queue. -/

namespace Sys2Proof.Machine

/-- A record (R476): own or mirrored stream, type and flags of Table 15-1, sequence, time and payload. -/
structure LRec where
  /-- Mirrored from the partner (magic 0x4D4C). -/
  partner : Bool
  typ : Nat
  final : Bool
  log : Bool
  base : Bool
  seq : Nat
  ns : Nat
  sec : Nat
  payload : List Byte
  deriving DecidableEq, Repr

/-- A journal sector (R479-R482): state, erase count, generation, first own sequence, next free offset, its durable records in
order, and how many of them precede the first space left without a valid mark (R487), where a replay stops (R492). -/
structure Sector where
  /-- 0 ERASED, 1 OPEN, 2 FULL, 3 retired. -/
  state : Nat
  erases : Nat
  gen : Nat
  first : Nat
  off : Nat
  recs : List LRec
  bad : Option Nat
  deriving DecidableEq, Repr

/-- A checkpoint (R488): the sequence C it covers, LIN_ACK, and its records. -/
structure Ckpt where
  c : Nat
  ack : Nat
  recs : List LRec
  /-- How far in the journal it covers mirrored records, which C does not number: a generation, and how many records of its
  sector. -/
  gen : Nat
  pos : Nat
  /-- The sequence of the last mirrored record stored by then, and whether it was marked BASE. -/
  mir : Nat
  base : Bool
  /-- The wear table (R482): erase count of each sector that is not new, and whether it is retired. -/
  wear : SMap (Nat × Bool)
  /-- LOG records that did not fit (R490). -/
  drops : Nat
  /-- The rest of the trailer: byte count and CRC of the slot. -/
  count : Nat
  crc : Nat
  deriving DecidableEq, Repr

/-- What a replay meets in the flash (R492): sectors with the position of the first record whose CRC fails, sectors found ERASED
without a header (R482), and the checkpoint slots whose trailer CRC fails (false A, true B). -/
structure ReplayScan where
  bad : List (Nat × Nat)
  bare : List Nat
  slots : List Bool
  deriving DecidableEq, Repr

/-- The Lining. The sectors and checkpoints are flash and survive device reset. -/
structure Lin where
  /-- 0 REPLAY, 1 RUN, 2 PFAIL (PG_STAT.STATE). -/
  state : Nat
  /-- Submitted records (R483); one with a number was enqueued before and lost its item. -/
  subq : List LRec
  /-- Numbered records enqueued on flow 241 and not durable yet: each holds an append place (R484). -/
  inAppend : List LRec
  /-- An own record that is durable and whose item waits for the standby (R456): its sequence and since when. -/
  waiting : Option (Nat × Nat)
  next : Nat
  dur : Nat
  ack : Nat
  sectors : SMap Sector
  /-- Index of the OPEN sector. -/
  open_ : Option Nat
  slotA : Option Ckpt
  slotB : Option Ckpt
  /-- Slot B was the last to become valid. -/
  newB : Bool
  /-- A checkpoint under way: true for slot B, and its contents. -/
  run : Option (Bool × Ckpt)
  /-- When the last checkpoint became valid (ns of up time), and bytes appended since. -/
  lastCkpt : Nat
  bytes : Nat
  /-- Highest mirrored sequence stored (R494). -/
  mirSeq : Nat
  /-- A FINAL record has become durable since the power-fail warning or an orderly reset began (R591). -/
  finalDone : Bool
  /-- The append in service when device reset came (R492). -/
  cut : Option LRec
  /-- Records were discarded at a power-fail warning, which page LIN shows after the restart (Table 19-4). -/
  pfGone : Bool
  /-- Pages with a SAVE or FORGET under way, and pages whose last one failed (R48). -/
  busy : List Nat
  failed : List Nat
  deriving DecidableEq, Repr

end Sys2Proof.Machine
end

