-- ==== Sys2Proof/Machine/TypesMac.lean ====
section
/-! DEFINITION. State of the frame MACs (chapter 9), by page: links, transmit queues, PAUSE holds, security
associations, bus contention and cages. -/

namespace Sys2Proof.Machine

/-- A frame that waits in a MAC other than a Perfer-OUT frame: its place in the order of R296 (0 PAUSE of the MAC, 1
PTP, 2 client; the Ryuward engine's order of R424 is 2 to 6), its bytes from the destination address to the end of the
payload, and of a Sync or Delay_Req its message type and sequence number, whose transmit time the time island awaits
(R306). -/
structure MacFrame where
  pri : Nat
  bytes : List Byte
  ptp : Option (Nat × Nat)
  deriving DecidableEq, Repr

/-- A PAUSE hold (R297, R298): when it took effect, from when its time is still to be counted, when it ends (ns of up
time), and whether PAUSE_LONG was set. -/
structure Hold where
  start : Nat
  from_ : Nat
  until_ : Nat
  long : Bool
  deriving DecidableEq, Repr

/-- A transmit security association (16.6): association number, next packet number, installation time in ns of up
time. -/
structure SaTx where
  an : Nat
  pn : Nat
  since : Nat
  deriving DecidableEq, Repr

/-- Replay state of a receive security association: secure channel identifier, association number, highest accepted
packet number. -/
structure SaRx where
  sci : Nat
  an : Nat
  pn : Nat
  deriving DecidableEq, Repr

/-- A frame as it arrives at a MAC (R290, R291): its bytes from the destination address on, SecTAG and ICV removed; its
length on the line from the destination address to the FCS; whether the FCS holds; of a protected frame the SCI, whether
key agreement knows it, the association number, the packet number and whether the ICV verifies; whether a multicast
destination hits the firmware's hash (R294); whether its IP destination is an address of the module, which the management
firmware holds (Table 5-1); how many frames its client has returned to the ring since the last one (R295); and the local clock in ns at its start-frame delimiter (R305). -/
structure RxFrame where
  bytes : List Byte
  len : Nat
  fcs : Bool
  sec : Option (Nat × Bool × Nat × Nat × Bool)
  hash : Bool
  own : Bool
  back : Nat
  sfd : Nat
  deriving DecidableEq, Repr

/-- The line as its MAC sees it: on a bus when carrier last dropped, and since when it is present again, in ns of up time
(R309); and how many ns after the tick of the time clock this instant lies (R410). -/
structure Medium where
  drop : Nat
  rise : Option Nat
  sub : Nat
  deriving DecidableEq, Repr

/-- A turn of a MAC to transmit: its page, and on a bus the medium. -/
structure MacTurn where
  page : Nat
  med : Medium
  deriving DecidableEq, Repr

/-- What the module of a cage draws (R581): power in mW, and for how many ns. -/
structure CageDraw where
  mw : Nat
  held : Nat
  deriving DecidableEq, Repr

/-- Kind and node flags of a POLL_REP (R280). -/
structure PollHead where
  kind : Nat
  nflags : Nat
  deriving DecidableEq, Repr

/-- A frame in the ring of its port's client: its buffers, the local clock at its SFD, and the timestamp taken there, which
stays with it (R305, R307). -/
structure RingFrame where
  bufs : Nat
  sfd : Nat
  ts : Nat
  deriving DecidableEq, Repr

/-- A MAC. -/
structure MacRt where
  link : Bool
  txFault : Bool
  rxLos : Bool
  sfp : Bool
  /-- Byte 92 bit 6 of the module's A0h page announces them (R317). -/
  diag : Bool
  hold : Option Hold
  /-- A PAUSE received during a transmission: the end of its hold, which starts at the frame boundary (R297). -/
  nextHold : Option Nat
  /-- Nanoseconds held in holds that have ended (MAC_PAUSEUS). -/
  heldNs : Nat
  /-- A PAUSE 0xFFFF stands (R300), and when the latest was sent. -/
  pausing : Bool
  pauseAt : Nat
  txq : List MacFrame
  /-- The frame in transmission that is no Perfer-OUT frame. -/
  tx : Option MacFrame
  /-- When the transmission under way began. -/
  txAt : Nat
  txSa : Option SaTx
  /-- The SAs use GCM-AES-XPN-256 (MAC_SEC.XPN). -/
  xpn : Bool
  /-- Association numbers with a receive SA installed, and the packet numbers accepted under them. -/
  rxAns : List Nat
  rxSas : List SaRx
  /-- Collisions of the frame in hand, and the end of its backoff (R309). -/
  tries : Nat
  backoff : Option Nat
  /-- Timestamps of the latest frame received and transmitted (R305, R307), in ns of the local clock. -/
  rxTs : Nat
  txTs : Nat
  /-- Bytes of the frame transmitted last, as on the line. -/
  wire : List Byte
  /-- The frames that the client's ring holds, in ring order (R295). -/
  ring : List RingFrame
  deriving DecidableEq, Repr

end Sys2Proof.Machine
end

