-- ==== Sys2Proof/Machine/TypesMtr.lean ====
section
/-! DEFINITION. State of energy metering (chapter 11) beside the registers and calibration table. -/

namespace Sys2Proof.Machine

/-- What one quantum yields (Table 11-1): codes of the converters, as signed numbers of 2^-23 of full scale (V1-V3,
I1-I3, IN) or of 2^-15 (J1 voltage and current, rail voltages and currents), and for each string that was on: number,
sink current in µA and on-time in ns. -/
structure MtrSample where
  v : List Int
  i : List Int
  n : Int
  j1 : Int × Int
  rails : List (Int × Int)
  strs : List (Nat × Nat × Nat)
  deriving DecidableEq, Repr

/-- Corrected AC samples of a quantum in µV and µA: three voltages, three currents, neutral current. -/
structure MtrPoint where
  v : List Int
  i : List Int
  n : Int
  deriving DecidableEq, Repr

/-- A quantum that waits to be folded into a set: its number, stamp, whether the clock stepped before it, and increments in units of 2^-32 mJ by accumulator. -/
structure Quant where
  num : Nat
  stamp : Nat
  step : Bool
  incs : List (Nat × Nat)
  deriving DecidableEq, Repr

/-- The buffer of a set (R370): quanta, the stamp of a first lost quantum, the latest folded stamp, and the quanta folded since
the set passed the end of the open interval (R377). -/
structure MtrSet where
  q : List Quant
  lost : Option Nat
  folded : Nat
  after_ : List Quant
  deriving DecidableEq, Repr

/-- Values of the accumulators of some sets at a boundary: the boundary, its sets done, the values, and the stamp of the
first quantum after it. -/
structure Mark where
  at_ : Nat
  done : List Nat
  vals : SMap Nat
  stamp : Nat
  deriving DecidableEq, Repr

/-- A pulse output (R374): queued spills, end of the present pulse, and the earliest next one (ns of up time). -/
structure PulseRt where
  queued : Nat
  until_ : Nat
  ready : Nat
  deriving DecidableEq, Repr

/-- A requester's snapshot (R369): values, stamp, and whether window READs use it. -/
structure Snap where
  vals : SMap Nat
  stamp : Nat
  deriving DecidableEq, Repr

/-- Metering. -/
structure MtrRt where
  /-- Accumulation runs (R384). -/
  run : Bool
  /-- Number of the newest quantum, and the corrected samples of the last 800, newest first. -/
  num : Nat
  win : List MtrPoint
  /-- When the quantum after the newest begins, in ns of up time (R356). -/
  due : Option Nat
  /-- Raw current codes of the previous quantum, for the phase correction. -/
  prev : List Int
  /-- Quanta of the present 100 ms window. -/
  pos : Nat
  /-- Stamp of the newest quantum, and a clock step since it. -/
  stamp : Nat
  stepped : Bool
  /-- The previous and an unprocessed new zero crossing of the reference voltage, in ns of the metering clock (R359). -/
  cross : Option Nat
  newCross : Option Nat
  /-- The latest cycle: frequency in mHz, and P1 and Q1 of the phases and their total (Table 11-14). -/
  freq : Nat
  cyc : List (Int × Int)
  /-- Fundamental energies of a cycle that the next quantum takes. -/
  carry : List (Nat × Nat)
  /-- Accumulators in units of 2^-32 mJ (R365). -/
  acc : SMap Nat
  sets : List MtrSet
  /-- Spills since device reset by accumulator. -/
  spills : SMap Nat
  po : List PulseRt
  gaps : Nat
  /-- The open interval: start, length code, flags of R378, counts at its start; and its end. -/
  ivlStart : Nat
  ivlCode : Nat
  ivlFlags : Nat
  ivlOpen : SMap Nat
  /-- Flags of R378 that later intervals take, by the minute of the stamps that brought them. -/
  ivlLater : SMap Nat
  ivl : Mark
  save : Mark
  snaps : SMap Snap
  /-- Freeze point of a power cut (R382), and the FINAL record submitted. -/
  freeze : Option Nat
  finalDone : Bool
  /-- Start of a gap whose end is the next quantum metered: stamp and LOSS. -/
  gap : Option (Nat × Bool)
  /-- Freeze time and FINAL flag of the ENERGY record restored at start-up (R384). -/
  restored : Option (Nat × Bool)
  /-- Since when the neutral check has exceeded its limit (NEUTRAL). -/
  neutral : Option Nat
  vloss : Bool
  changes : Nat
  deriving DecidableEq, Repr

end Sys2Proof.Machine
end

