-- ==== Sys2Proof/Machine/TypesPair.lean ====
section
/-! DEFINITION. State of an active and standby pair (chapter 14). -/

namespace Sys2Proof.Machine

/-- Roles of a pair member (Table 14-1). -/
inductive Role where
  | unbound | seeking | active | standby
  deriving DecidableEq, Repr

/-- An entry of a MIRROR message (Table 14-3): a register write with its commit time in ns of the local clock, a Lining
record, or an accumulator snapshot as words. -/
inductive MirEntry where
  | write (addr : Nat) (val : Word) (time : Nat)
  | record (r : LRec)
  | acc (ws : List Word)
  deriving DecidableEq, Repr

/-- The path of a HEARTBEAT (R445, R450): the Cuff, with the pair ID it carries and the serial of the module at its other
end; or a Ryuward frame, by arrival port, destination, source and ID. -/
inductive HbPath where
  | cuff (pairId serial : Nat)
  | ring (port dst src id : Nat)
  deriving DecidableEq, Repr

/-- A layer named by an EPOCH message: layer, frame number, INCOMPLETE. -/
structure EpLayer where
  layer : Nat
  fnum : Nat
  inc : Bool
  deriving DecidableEq, Repr

/-- A message of the ordered stream (14.3). -/
inductive StreamMsg where
  | mirror (es : List MirEntry)
  | epoch (dom k : Nat) (lays : List EpLayer)
  | resyncEnd (status : Nat)
  deriving DecidableEq, Repr

/-- A stream message that awaits its acknowledgement: sequence, message, bytes, and when it was sent (ns of up time). -/
structure Unacked where
  seq : Nat
  msg : StreamMsg
  bytes : Nat
  sent : Nat
  deriving DecidableEq, Repr

/-- A yield under way (14.5): handover time H, reference epoch h, cause, when it was sent, whether this member is the
one that yields, and whether it is accepted. -/
structure Yield where
  h : Nat
  href : Nat
  cause : Nat
  sent : Nat
  mine : Bool
  ok : Bool
  deriving DecidableEq, Repr

/-- The result of a sample tile's render at one member (R460): surface, tile, domain, epoch, the digest where the
render completed, and whether a layer it samples was divergent. -/
structure Shadow where
  surf : Nat
  tile : Nat
  epoch : Nat
  digest : Option Nat
  excluded : Bool
  deriving DecidableEq, Repr

/-- The pair block. -/
structure Pair where
  role : Role
  synced : Bool
  async : Bool
  /-- PG_STAT.PARTNER. -/
  partner : Bool
  /-- The latest accepted heartbeat on the Cuff and on the Hatband (ns of up time). -/
  hbCuff : Option Nat
  hbRing : Option Nat
  /-- SYNCED as the latest accepted heartbeat arrived (R469). -/
  syncAtHb : Bool
  /-- When SEEKING began, and when the latest HEARTBEAT left. -/
  since : Nat
  hbSent : Nat
  /-- Sender: the sequence of the next stream message, messages unacknowledged, and since when none has stayed so for
  longer than the limit. -/
  txSeq : Nat
  unacked : List Unacked
  calm : Nat
  /-- Own Lining records whose MIRROR message found the area full and was discarded (R457): no acknowledgement of them comes. -/
  unsent : List Nat
  /-- Receiver: the highest sequence received in order; stream sequences whose Lining record (second number) is not
  durable yet (R494); and a rejection since the resync request. -/
  rxSeq : Option Nat
  held : List (Nat × Nat)
  rejected : Bool
  /-- Commit time carried by the mirrored write in hand (R453). -/
  mirTime : Option Nat
  yield : Option Yield
  /-- When a blocked yield is tried again, and its cause (R464). -/
  retry : Option (Nat × Nat)
  /-- Checks failing (Table 14-6), and since when the condition of a failing check has been absent. -/
  failing : Nat
  clear : SMap Nat
  /-- Reference-domain epochs of MISMATCH results, newest first (R461). -/
  mism : List Nat
  /-- Sample renders that wait for the other member's result (R460): own and the active's. -/
  own : List Shadow
  theirs : List Shadow
  /-- Divergent layers (R455) with the domain and epoch. -/
  diverg : List (Nat × Nat × Nat)
  /-- Times of the latest failed test vector and uncorrectable scrub error (R461). -/
  testAt : Option Nat
  scrubAt : Option Nat
  /-- Since when this standby has been healthy and synced (R468). -/
  fit : Option Nat
  /-- Reference epoch of the last EPOCH message received (R469). -/
  lastRef : Option Nat
  /-- A reservation submitted to the Lining and not yet durable (R446). -/
  resvNext : Option Nat
  /-- Both U links have been down since (check 2 of Table 14-6), and instants of engine faults and uncorrectable
  errors (checks 0 and 1), newest first. -/
  uDown : Option Nat
  engFaults : List Nat
  ueErrors : List Nat
  /-- The accumulators mirrored from the metering member, as received. -/
  accs : List Word
  lastAcc : Nat
  deriving DecidableEq, Repr

end Sys2Proof.Machine
end

