-- ==== Sys2Proof/Machine/TypesRen.lean ====
section
/-! DEFINITION. State of rendering (chapter 6) beside the tables: applied and pending stack and colour settings, and
the tile digests. -/

namespace Sys2Proof.Machine

/-- A stack or colour-settings write that waits for its latch point (R205): the table, the index, the entry, the
commit time in ns of the local clock, and the domain it waits for (R617). -/
structure EngPend where
  tab : Nat
  idx : Nat
  ws : List Word
  time : Nat
  dom : Nat
  deriving DecidableEq, Repr

/-- A stack or colour-settings entry that a later one has replaced, for items of epochs up to number `until_` of the
domain it was replaced in (R205). -/
structure EngOld where
  tab : Nat
  idx : Nat
  ws : List Word
  until_ : Nat
  dom : Nat
  deriving DecidableEq, Repr

/-- Reads of the frame store that return an uncorrectable error while an item renders (R194, R196, R210): run, profile
and curve numbers, endpoints whose bin code or bin entry fails, and layer pixels (layer, column, row); and the index of
the 64-bit word that fails first. -/
structure Ue where
  runs : List Nat
  profiles : List Nat
  curves : List Nat
  bins : List Nat
  pixels : List (Nat × Nat × Nat)
  word : Nat
  deriving DecidableEq, Repr

/-- Rendering. -/
structure Ren where
  /-- Applied stack slots, by surface × 32 + slot. -/
  stack : SMap (List Word)
  /-- Applied colour settings, by surface. -/
  colour : SMap (List Word)
  pend : List EngPend
  old : List EngOld
  /-- Stored digests, by surface × 65,536 + tile (R214). -/
  digests : SMap Nat
  /-- Engines whose own reset has begun, with the instant (ns of up time). -/
  resets : SMap Nat
  deriving DecidableEq, Repr

end Sys2Proof.Machine
end

