-- ==== Sys2Proof/Machine/TypesSys.lean ====
section
/-! DEFINITION. State of the Gauntlet and the key vault (chapter 16), of firmware update (17), of self-calibration and
self-test (18), and of supply, temperature and reset (20), beside their registers. -/

namespace Sys2Proof.Machine

/-- An alarm log entry (Table 16-3), and whether it was submitted to the Lining (R506). -/
structure AlarmE where
  cause : Nat
  action : Nat
  level : Nat
  flags : Nat
  sec : Nat
  frac : Nat
  detail : Nat
  sent : Bool
  deriving DecidableEq, Repr

/-- A signed command being checked (R508): requester, the 224 bytes of block and signature, and when GO was written. -/
structure CmdRun where
  req : Nat
  bytes : List Byte
  since : Nat
  deriving DecidableEq, Repr

/-- The Gauntlet: always on (R519). The policy is in GNT_POLn, TRIP in GNT_TRIP. -/
structure Gnt where
  level : Nat
  /-- Consecutive samples with each sensor's condition. -/
  counts : SMap Nat
  /-- Newest first, at most 64. -/
  log : List AlarmE
  armed : Bool
  precomm : Nat
  /-- PROVISION has happened once (R504). -/
  provisioned : Bool
  /-- Vault slots that hold a key, 96 bytes each (R511). -/
  slots : SMap (List Byte)
  nonce : Nat
  cmd : Option CmdRun
  /-- Trips that wait for a command check to end (R509): cause, sensor conditions. -/
  waiting : List (Nat × Nat)
  /-- The cell failed without main power (R505). -/
  cellLost : Bool
  /-- The last SAK change of each MACsec port (ns of up time). -/
  rekey : SMap Nat
  /-- The factory certificate of the identity key (R501). -/
  cert : List Byte
  deriving DecidableEq, Repr

/-- An image slot (17.1, R516): image ID, security version, image, manifest, and whether it left the factory in the
module. -/
structure ImgSlot where
  id : Nat
  svn : Nat
  image : List Byte
  man : List Byte
  factory : Bool
  deriving DecidableEq, Repr

/-- Firmware update. -/
structure Upd where
  /-- 0 IDLE, 1 RECEIVING, 2 STORED, 3 APPLYING, 4 VERIFIED, 5 ACTIVATING. -/
  state : Nat
  updating : Bool
  /-- The staging area: stored chunks. -/
  chunks : SMap (List Byte)
  /-- Image slots 0 and 1 (flash), the one running, and the one secure boot takes. -/
  slots : SMap ImgSlot
  running : Nat
  /-- When APPLY began, the activation time asked for, and when the pause began. -/
  applyAt : Option Nat
  actAt : Option Nat
  pauseAt : Option Nat
  /-- Activation waits for the handover of its own yield (R533). -/
  yielding : Bool
  /-- The UPDSTATE record of an activation is not durable yet (R531). -/
  recWait : Bool
  deriving DecidableEq, Repr

/-- A calibrated quantity (Table 18-8). Values are signed taps, runs sixteenths. -/
structure Qty where
  value : Int
  target : Int
  state : Nat
  runA : Int
  runB : Int
  accept : Nat
  disagree : Nat
  due : Bool
  /-- The baseplate temperature of the last CALRES (0.1 °C), and when the last result was accepted. -/
  temp : Option Int
  last : Nat
  /-- No result has been accepted since device reset. -/
  first : Bool
  /-- Periods since the last accepted result that have made it due (R547), and a temperature trigger that came during a ramp
  (Table 18-6). -/
  tried : Nat
  again : Bool
  deriving DecidableEq, Repr

/-- Self-calibration and self-test. -/
structure Slf where
  qs : SMap Qty
  /-- For each engine, when its latest TEST item was enqueued, the next vector set, and a failure of its latest test. -/
  vecAt : SMap Nat
  vecNext : SMap Nat
  vecBad : SMap Bool
  /-- Taps that have not reached their path (Table 18-1): the instant, or for the 1PPS output delay the second, of the latest one,
  and what the path still has until the next; 0 and that value for the drive's, until a P_k ends the wait. -/
  paths : SMap (Nat × Int)
  /-- When the present scrub pass began (ns of up time). -/
  scrubFrom : Nat
  deriving DecidableEq, Repr

/-- Supply, temperature and reset. -/
structure Pwr where
  /-- 0 off, 1 device reset held, 2 device reset released. -/
  phase : Nat
  /-- Islands started in the order of Table 20-8. -/
  started : Nat
  /-- DEV PG_STAT.STARTED. -/
  ready : Bool
  /-- The power-fail warning: cause and instant (R586). -/
  pfw : Option (Nat × Nat)
  /-- An orderly reset began (R594, R595): instant and reset cause. -/
  orderly : Option (Nat × Nat)
  /-- CHARGED (R585). -/
  charged : Bool
  low36 : Bool
  low40 : Bool
  overv : Bool
  /-- Since when the baseplate has been at or above TRIP; while device reset is held for heat, the last check (R589). -/
  tripSince : Option Nat
  warn : Bool
  /-- The last power-off had cause THERMAL (R589): device reset is held while it is hot, and TRIPPED sets at the start. -/
  thermalOff : Bool
  /-- RST_N is low. -/
  rstLow : Bool
  /-- A baseplate reading and a die reading have been taken since device reset (MAX of Table 20-16). -/
  baseSeen : Bool
  dieSeen : Bool
  deriving DecidableEq, Repr

/-- Readings in 0.1 °C of the baseplate sensors and of the dies; a failed sensor gives none. -/
structure Temps where
  b0 : Option Int
  b1 : Option Int
  d0 : Int
  d1 : Int
  deriving DecidableEq, Repr

end Sys2Proof.Machine
end

