-- ==== Sys2Proof/Machine/TypesPres.lean ====
section
/-! DEFINITION. State of presentation timing (chapter 7): timing domains, surfaces and check rectangles. Settings are
in the registers and the tile, cue, action and rectangle tables. -/

namespace Sys2Proof.Machine

/-- A grid of presentation times in ns of the local clock: point j is `org + floor (j * num / den)` (R219, Table
7-1). -/
structure Grid where
  org : Nat
  num : Nat
  den : Nat
  deriving DecidableEq, Repr

/-- An epoch of a domain: number, grid index, presentation time and latch point. -/
structure EpochPt where
  k : Nat
  j : Nat
  p : Nat
  l : Nat
  deriving DecidableEq, Repr

/-- Epochs of a domain from number `k0` on, up to the next change of its timing (R218, R231): the grid index of epoch k0,
the grid, T_lead, and the latch point of epoch k0. -/
structure Seg where
  k0 : Nat
  j0 : Nat
  grid : Grid
  lead : Nat
  l0 : Nat
  deriving DecidableEq, Repr

/-- A pending timing change of a running domain (R229-R233): the grid index of P_m and P_m itself (none under R618),
the grid and T_lead of the new settings, the index of B in it, B, the bridge latch point, the number of the bridge epoch,
and the epoch that stood next under the old timing. -/
structure Bridge where
  pm : Option (Nat × Nat)
  grid : Grid
  lead : Nat
  j : Nat
  b : Nat
  l : Nat
  k : Nat
  old : EpochPt
  deriving DecidableEq, Repr

/-- A timing domain (7.1): running, its present grid, the epoch whose latch point passed last, the next one, a pending
timing change, and the timing of its epochs since it started, newest first. -/
structure DomRt where
  running : Bool
  grid : Grid
  cur : Option EpochPt
  next : EpochPt
  bridge : Option Bridge
  hist : List Seg
  deriving DecidableEq, Repr

/-- An epoch of a surface whose RENDER items have not all ended (R241): its number, presentation time and deadline of
its items, the tiles whose items have not ended with the entries they were built from, its keepalive slice with the
number of slices (R240), CHANGED tiles, and whether an item ended without completing. -/
structure OpenEp where
  k : Nat
  p : Nat
  ddl : Nat
  tiles : SMap (List Word)
  slice : Option (Nat × Nat)
  changed : Nat
  bad : Bool
  deriving DecidableEq, Repr

/-- A RENDER item of the epoch machinery that failed and stays at the head of its STOPPED flow (R132): surface, tile and
epoch, and what its PUSH is built from when RETRY completes it (R240): the tile entry, presentation time, deadline and slice of
its epoch. -/
structure HeldRender where
  surf : Nat
  tile : Nat
  k : Nat
  ws : List Word
  p : Nat
  ddl : Nat
  slice : Option (Nat × Nat)
  deriving DecidableEq, Repr

/-- A surface (7.5): state 0 DISABLED, 1 ACTIVE, 2 HOLD; static count; CHANGED of the last closed epoch; a decided
entry into HOLD (`some true`) or return to ACTIVE (`some false`) for the next latch point; and its open epochs. -/
structure SrfRt where
  state : Nat
  static : Nat
  changed : Nat
  decided : Option Bool
  open_ : List OpenEp
  deriving DecidableEq, Repr

/-- An echo request under way (R254): port, node, first endpoint, endpoints, presentation time, the CRC computed, and
the time limit on the local clock. -/
structure EchoWait where
  port : Nat
  node : Nat
  first : Nat
  count : Nat
  p : Nat
  crc : Nat
  limit : Nat
  deriving DecidableEq, Repr

/-- A check rectangle (7.8, Table 7-19). -/
structure ChkRt where
  queue : List (Nat × Nat)
  last : Nat
  elast : Nat
  epoch : Nat
  crc : Nat
  ecrc : Nat
  mismatch : Nat
  echoBad : Nat
  noexp : Nat
  stale : Nat
  echoes : List EchoWait
  deriving DecidableEq, Repr

/-- A tile window entry written and not yet applied (R236): tile, entry, commit time, and the domain it waits for
(R617). -/
structure TilePend where
  tile : Nat
  ws : List Word
  time : Nat
  dom : Nat
  deriving DecidableEq, Repr

/-- Presentation timing. -/
structure Pres where
  doms : SMap DomRt
  srfs : SMap SrfRt
  chks : SMap ChkRt
  /-- Tile window entries written and not yet applied (R236), oldest first. -/
  tilePend : List TilePend
  /-- Applied tile entries, by tile; an unlisted tile is disabled. -/
  tiles : SMap (List Word)
  /-- The epochs in which a tile was pushed or counted as missed (R243), by surface × 65,536 + tile. -/
  told : SMap (List Nat)
  held : List HeldRender
  deriving DecidableEq, Repr

end Sys2Proof.Machine
end

