-- ==== Sys2Proof/Machine/TypesTime.lean ====
section
/-! DEFINITION. State of the local clock and its servo, the PTP instances and the timing inputs (chapter 12) beside
the registers. -/

namespace Sys2Proof.Machine

/-- What a write has asked of the local clock for a following tick (R395, R396, R393): a step to a time or by a signed
amount, both in ns, a slew of signed ns, or the end of every slew. -/
inductive ClkOp where
  | stepAbs (t : Nat)
  | stepRel (d : Int)
  | slew (ns : Int)
  | raw
  deriving DecidableEq, Repr

/-- A slew under way (R395): what is left in units of 2^-24 ns, and the units per tick. -/
structure Slew where
  left : Int
  rate : Nat
  deriving DecidableEq, Repr

/-- The local clock's hidden state and the servo (12.2). -/
structure ClkRt where
  /-- Steps and slews written and not applied yet, in bus order. -/
  ops : List ClkOp
  slew : Option Slew
  /-- 0 FREE, 1 ACQUIRING, 2 LOCKED, 3 HOLDOVER. -/
  state : Nat
  valid : Bool
  inspec : Bool
  everLocked : Bool
  /-- A selected source has become available, and the firmware has written NORMAL for the first one where it had to (R393). -/
  normalSet : Bool
  /-- Source in use: 0 none, 1 PTP-U, 2 PTP-H, 3 PPS. -/
  src : Nat
  /-- Consecutive measurements below LOCKTHR, and at or above four times it. -/
  good : Nat
  bad : Nat
  /-- An offset measured and not yet acted on: local clock minus source, ns. -/
  meas : Option Int
  /-- For each source, since when it has been available (ns of up time). -/
  avail : SMap Nat
  holdStart : Nat
  /-- HOLD_EXPIRED has been reported in this holdover. -/
  expired : Bool
  /-- Increments in force while LOCKED and how many ticks each lasted, newest first, over at most 1,000 s. -/
  hist : List (Nat × Nat)
  /-- Whole second last written to the Gauntlet's seconds counter (R399). -/
  lastSec : Nat
  /-- The Gauntlet's seconds counter, in ns: its value at an instant of up time. -/
  rtc : Nat
  rtcAt : Nat
  deriving DecidableEq, Repr

/-- A data set of an Announce message (IEEE 1588-2019), with the port that sent it. -/
structure PtpData where
  gm : Nat
  prio1 : Nat
  cls : Nat
  acc : Nat
  var : Nat
  prio2 : Nat
  steps : Nat
  sender : Nat
  senderPort : Nat
  utc : Nat
  utcValid : Bool
  leap61 : Bool
  leap59 : Bool
  deriving DecidableEq, Repr

/-- A foreign time transmitter heard on a port: its latest data set, when it came, its announce interval in ns, and
whether a second Announce has qualified it. -/
structure Foreign where
  ds : PtpData
  last : Nat
  interval : Nat
  ok : Bool
  deriving DecidableEq, Repr

/-- A PTP port (Table 12-11): 0 DISABLED, 1 LISTENING, 2 UNCALIBRATED, 3 TIME_RECEIVER, 4 TIME_TRANSMITTER, 5
PASSIVE, 6 FAULTY. -/
structure PtpPort where
  state : Nat
  delay : Int
  sync : Nat
  bad : Nat
  foreign : List Foreign
  /-- A Sync that awaits its Follow_Up: sequence and receive time. -/
  sync1 : Option (Nat × Nat)
  /-- Origin and receive time of the latest Sync. -/
  t1 : Nat
  t2 : Nat
  /-- A Delay_Req that awaits its Delay_Resp: sequence and transmit time. -/
  req : Option (Nat × Nat)
  seq : Nat
  lastSync : Nat
  lastAnn : Nat
  /-- When the port began to listen or last received an Announce (ns of up time). -/
  heard : Nat
  lastReq : Nat
  /-- Interval between Delay_Req granted by the time transmitter, ns. -/
  reqInt : Nat
  deriving DecidableEq, Repr

/-- PTP. -/
structure Ptp where
  ports : SMap PtpPort
  deriving DecidableEq, Repr

/-- A timecode input or word-clock input (Table 12-3). Frames and edges are numbered from the first of the first lock;
`pred` predicts them. -/
structure InRt where
  lock : Bool
  jump : Bool
  /-- Accepted times with their numbers, newest first. -/
  times : List (Nat × Nat)
  /-- Number of the newest. -/
  idx : Nat
  pred : Option Grid
  /-- Running prediction less fit after a relock, in ns (Table 12-3). -/
  resid : Int
  /-- Frame count from 00:00:00:00 of the newest frame. -/
  tc : Nat
  /-- Frame count of frame 0, as an integer. -/
  tcBase : Int
  deriving DecidableEq, Repr

/-- Timing inputs and outputs. -/
structure Tio where
  ltc : InRt
  wclk : InRt
  ppsOk : Bool
  ppsGood : Nat
  /-- When the previous edge came, by the local clock. -/
  ppsLast : Option Nat
  /-- PPS out is high. -/
  ppsOut : Bool
  /-- The whole second of the latest pulse. -/
  ppsSec : Option Nat
  deriving DecidableEq, Repr

/-- A PTP message as a port receives it: what R406-R408 use of it. Times in ns; of an event message the local clock at its
SFD. -/
inductive PtpMsg where
  | announce (ds : PtpData) (logInterval : Int)
  | sync (seq : Nat) (t2 : Nat)
  | followUp (seq : Nat) (t1 : Nat)
  | delayReq (seq : Nat) (t4 : Nat) (reqId reqPort : Nat)
  | delayResp (seq : Nat) (t4 : Nat) (logInterval : Int)
  deriving DecidableEq, Repr

end Sys2Proof.Machine
end

