-- ==== Sys2Proof/Syntax.lean ====
section
/-! DEFINITION. The commands that reach the module, one constructor for each row of spec/opcode_table.json: accesses on the
control bus and at the host port, frames and messages received, and events of clocks, timers, executors, sensors and pins.
A command that is a register write or a window operation names its requester (Table 3-1).
Constructors with operands stand first: Lean compiles no constructor with fields past the 244th. -/

namespace Sys2Proof

open Machine

/-- A command. -/
inductive Instr where
  -- Commands of the control bus and of the islands: register accesses by each path, remote accesses, arbitration and page locks (chapters 1 to 3).
  /-- REGISTER_WRITE (R50). Requester `req` (Table 3-1) writes `v` at address `addr` (R39). -/
  | registerWrite (req addr : Nat) (v : Word)
  /-- ISL_RST (R23). Requester `req` writes `v` to ISL_RST (Table 1-2). -/
  | islRst (req : Nat) (v : Word)
  /-- ISLAND_RESET_END (R22). The fence of island `isl` finds its guard time over. -/
  | islandResetEnd (isl : Nat)
  /-- FENCE_TIMEOUT (R563). The timer of island `isl` finds its oldest outstanding request too old; `age` tells of the
  requests that are no bus accesses. -/
  | fenceTimeout (isl : Nat) (age : FenceAge)
  /-- ORPHAN_REPLY (R564). A reply reaches the fence of island `isl`. -/
  | orphanReply (isl : Nat)
  /-- SOFT_RESET (R49). Requester `req` writes PG_CTL of `page` with SRST = 1 and the given EN and FRZ. -/
  | softReset (req page : Nat) (en frz : Bool)
  /-- COMMIT (R50). Requester `req` writes PG_COMMIT.COMMIT of `page`. -/
  | commit (req page : Nat)
  /-- DISCARD (R53). Requester `req` writes PG_COMMIT.DISCARD of `page`. -/
  | discard (req page : Nat)
  /-- PERSIST_SAVE (R48). Requester `req` writes PG_PERSIST.SAVE of `page`. -/
  | persistSave (req page : Nat)
  /-- PERSIST_FORGET (R48). Requester `req` writes PG_PERSIST.FORGET of `page`. -/
  | persistForget (req page : Nat)
  /-- WINDOW_READ (R54). Requester `req` writes READ to the _OP register at address `op` (Table 2-12). -/
  | windowRead (req op : Nat)
  /-- WINDOW_WRITE (R55). Requester `req` writes WRITE to the _OP register at address `op`. -/
  | windowWrite (req op : Nat)
  /-- HOST_WR (R59). The frame WR with its address, word and CRC-16. -/
  | hostWr (addr : Nat) (v : Word) (crc : Nat)
  /-- HOST_WRB (R64). The frame WRB; `cut` is how many words the tenure allowed where it was cut off (R81). -/
  | hostWrb (addr : Nat) (ws : List Word) (cut : Option Nat) (crc : Nat)
  /-- HOST_RD (R61). The frame RD. -/
  | hostRd (addr crc : Nat)
  /-- HOST_RDB (R64). The frame RDB; `count` is words − 1, `cut` as for WRB. -/
  | hostRdb (addr count : Nat) (cut : Option Nat) (crc : Nat)
  /-- HOST_UNKNOWN_COMMAND (R62). A frame with command byte `cmd`, the bytes after it and its CRC. -/
  | hostUnknownCommand (cmd : Byte) (body : List Byte) (crc : Nat)
  /-- HOST_FRAME_ABORT (R63). HOST_CS_N rises early: `ws` are the words whose access had started, none where the
  request was not complete. -/
  | hostFrameAbort (addr : Nat) (ws : List Word)
  /-- REMOTE_READ (R66). Requester `req` writes RA_OP.READ of port `port` (0 H0, 1 H1). -/
  | remoteRead (req port : Nat)
  /-- REMOTE_WRITE (R69). Requester `req` writes RA_OP.WRITE. -/
  | remoteWrite (req port : Nat)
  /-- REMOTE_REQUEST (R68). The frame of Table 2-18 as it arrives on `port`, with its data words; `cut` as for
  HOST_WRB. -/
  | remoteRequest (port dst src id cmd count addr : Nat) (ws : List Word) (cut : Option Nat)
  /-- REMOTE_REPLY (R436). The reply frame of Table 2-18 as it arrives on `port`. -/
  | remoteReply (port dst src id cmd count addr status : Nat) (ws : List Word)
  /-- REMOTE_TIMEOUT (R67). The 2 ms of the request in the bank of `req` on `port` have run. -/
  | remoteTimeout (req port : Nat)
  /-- BUS_GRANT (R74). The requesters of the mask `contest` raise their request; `addr` is the address of the winner’s
  first word. -/
  | busGrant (contest addr : Nat)
  /-- BACKOFF_EXPIRY (R76). The backoff of `req` has run. -/
  | backoffExpiry (req : Nat)
  /-- TENURE_CUTOFF (R81). The tenure of `req` has reached HOLD_MAX with the access `w` at `addr` in progress. -/
  | tenureCutoff (req addr : Nat) (w : CutWord)
  /-- LOCK_ACQUIRE (R83). Requester `req` writes PG_LOCK.ACQ of `page`. -/
  | lockAcquire (req page : Nat)
  /-- LOCK_RELEASE (R87). Requester `req` writes PG_LOCK.REL of `page`. -/
  | lockRelease (req page : Nat)
  /-- LOCK_HOLD_EXPIRY (R91). The hold limit of the sequence of `req` has run. -/
  | lockHoldExpiry (req : Nat)
  /-- CB_CLR (R79). Requester `req` writes `v` to CB_CLR. -/
  | cbClr (req : Nat) (v : Word)
  -- Commands of the Hatrack and completions of its items (chapter 4).
  /-- ENQUEUE (R108). Requester `req` writes HTK_ENQ_OP.ENQ. -/
  | enqueue (req : Nat)
  /-- FLAG_SET (R101). Requester `req` writes `v` to HTK_FLAGSET. -/
  | flagSet (req : Nat) (v : Word)
  /-- FLAG_CLEAR (R101). Requester `req` writes `v` to HTK_FLAGCLR. -/
  | flagClear (req : Nat) (v : Word)
  /-- FLUSH (R135). Requester `req` writes HTK_FLOWCMD with CMD = FLUSH. -/
  | flush (req flow : Nat)
  /-- RESTART_RETRY (R132). Requester `req` writes HTK_FLOWCMD with CMD = RESTART_RETRY. -/
  | restartRetry (req flow : Nat)
  /-- RESTART_DISCARD (R132). Requester `req` writes HTK_FLOWCMD with CMD = RESTART_DISCARD. -/
  | restartDiscard (req flow : Nat)
  /-- ITEM_EXPIRE (R123). The deadline of the head of `flow` has come. -/
  | itemExpire (flow : Nat)
  /-- ITEM_COMPLETE (R103). Executor `x` reports the status of its item; `result` is that of a calibration run (1/16
  tap). -/
  | itemComplete (x : Exec) (error : Bool) (result : Int)
  /-- EXECUTOR_FAULT (R129). Executor `x` reports a fault. -/
  | executorFault (x : Exec)
  /-- ITEM_WATCHDOG (R133). The watchdog looks at the item of executor `x`. -/
  | itemWatchdog (x : Exec)
  /-- RENDER_COMPLETE (R214). Engine `eng` ends a RENDER item; `ue` names the frame-store reads that met an
  uncorrectable error. -/
  | renderComplete (eng : Nat) (ue : Ue)
  /-- PUSH_HANDOFF (R112). The framer of push port `port` (0–7 P0–P7, 8–15 B0–B7) ends a PUSH item. -/
  | pushHandoff (port : Nat)
  /-- CHECK_COMPLETE (R252). Engine `eng` ends a CHECK item. -/
  | checkComplete (eng : Nat)
  /-- INGEST_FIX_COMPLETE (R145). Engine `eng` ends an INGEST_FIX item. -/
  | ingestFixComplete (eng : Nat)
  /-- CAL_STEP_COMPLETE (R543). The calibration unit ends a CAL_STEP item; `result` is that of a run in 1/16 tap, none
  an error. -/
  | calStepComplete (result : Option Int)
  /-- NODE_POLL (R280). The framer of push port `port` ends a NODE_POLL item. -/
  | nodePoll (port : Nat)
  /-- TEST_COMPLETE (R552). Engine `eng` ends a TEST item with the CRC-32C it computed. -/
  | testComplete (eng crc : Nat)
  -- Commands of content ingest, of the endpoint map and of the engines (chapters 5 and 6).
  /-- PERFER_IN_REGION (R159). Port U`u` takes a Perfer-IN REGION datagram `m` in a frame of `len` bytes (R140). -/
  | perferInRegion (u len : Nat) (m : List Byte)
  /-- PERFER_IN_COMMIT (R161). Port U`u` takes a Perfer-IN COMMIT datagram. -/
  | perferInCommit (u len : Nat) (m : List Byte)
  /-- ST2110_PACKET (R166). A packet of stream `n`: frame length (R140), SSRC, extended sequence number, RTP
  timestamp, marker and row data segments. -/
  | st2110Packet (n len ssrc seq ts : Nat) (marker : Bool) (rs : List Srd)
  /-- E131_DATA (R172). Port U`u` takes the E1.31 data packet `pkt`: universe, component identifier, priority,
  sequence, PREVIEW and TERMINATED options, start code and slots. -/
  | e131Data (u : Nat) (pkt : E131Packet) (univ cid prio seq : Nat) (preview term : Bool) (start : Nat) (slots : List Byte)
  /-- E131_SYNC (R175). Port U`u` takes the E1.31 sync packet `pkt`. -/
  | e131Sync (u : Nat) (pkt : E131Sync)
  /-- INGEST_ITEM_CLOSE (R144). The 20 µs of the open item of port U`u` and `layer` have run. -/
  | ingestItemClose (u layer : Nat)
  /-- STREAM_LOSS (R170). The loss timer of stream `n`. -/
  | streamLoss (n : Nat)
  /-- E131_SOURCE_TIMEOUT (R173). The 2.5 s of the source of universe entry `e`. -/
  | e131SourceTimeout (e : Nat)
  /-- E131_SYNC_TIMEOUT (R175). The 2.5 s of sync address `addr`. -/
  | e131SyncTimeout (addr : Nat)
  /-- E131_SCATTER (R176). The scatter instant s_k of domain `dom`. -/
  | e131Scatter (dom : Nat)
  /-- MAP_RUN_WRITE (R190). Requester `req` writes MAP_OP.WRITE. -/
  | mapRunWrite (req : Nat)
  /-- MAP_RUN_CLEAR (R191). Requester `req` writes MAP_OP.CLEAR. -/
  | mapRunClear (req : Nat)
  /-- ENG_RST (R129). Requester `req` writes `v` to ENG_RST. -/
  | engRst (req : Nat) (v : Word)
  /-- ENG_CLR (R196). Requester `req` writes ENG_CLR.CNT. -/
  | engClr (req : Nat)
  -- Commands of presentation timing, cues and picture checks (chapter 7).
  /-- LATCH_POINT (R227). A latch point of domain `dom` has come. -/
  | latchPoint (dom : Nat)
  /-- CUE_ARM (R245). Requester `req` writes TDM_QARMOP.GO. -/
  | cueArm (req : Nat)
  /-- EXPECTED_PUSH (R251). Requester `req` writes CHK_XOP.PUSH. -/
  | expectedPush (req : Nat)
  /-- EXPECTED_FLUSH (R251). Requester `req` writes CHK_XOP.FLUSH. -/
  | expectedFlush (req : Nat)
  /-- ECHO_REP (R254). A node’s ECHO_REP on push port `port`: node, first endpoint, count, presentation time, CRC and
  the fencing epoch it holds. -/
  | echoRep (port node first count p crc fep : Nat)
  /-- ECHO_TIMEOUT (R254). The echo limit of rectangle `rect`. -/
  | echoTimeout (rect : Nat)
  -- Commands of the push ports and the frame MACs (chapters 8 and 9).
  /-- FRAME_TX_START (R277). A frame boundary of a MAC. -/
  | frameTxStart (x : MacTurn)
  /-- FRAME_TX_END (R127). The frame in transmission on `page` has left. -/
  | frameTxEnd (page : Nat)
  /-- POLL_REP (R280). A node’s POLL_REP: node, sequence, kind and node flags, epoch and sequence it holds, serial,
  source MAC, fencing epoch of the frame. -/
  | pollRep (port node seq : Nat) (hd : PollHead) (fenceHeld lastSeq serial mac fep : Nat)
  /-- ENUM_REP (R265). A node’s ENUM_REP: serial, present address, source MAC, fencing epoch. -/
  | enumRep (port serial addr mac fep : Nat)
  /-- ASSIGN_ACK (R266). A node’s ASSIGN_ACK. -/
  | assignAck (port serial addr fep : Nat)
  /-- ASSIGN_TIMEOUT (R266). The 10 ms of an ASSIGN on `port`. -/
  | assignTimeout (port : Nat)
  /-- POLL_TIMEOUT (R280). The limit of a poll on `port`. -/
  | pollTimeout (port : Nat)
  /-- ENUM_DONE (R267). The enumeration window of `port` has ended. -/
  | enumDone (port : Nat)
  /-- PP_CLR_CNT (R287). Requester `req` writes PPn_CLR.CNT. -/
  | ppClrCnt (req port : Nat)
  /-- PP_CLR_CREDMIN (R275). Requester `req` writes PPn_CLR.CREDMIN. -/
  | ppClrCredmin (req port : Nat)
  /-- FRAME_RECEIVE (R291). Frame `f` arrives at the MAC of `page`. -/
  | frameReceive (page : Nat) (f : RxFrame)
  /-- PAUSE_RECEIVE (R297). A PAUSE with pause_time `quanta` has passed the checks at the MAC of `page`. -/
  | pauseReceive (page quanta : Nat)
  /-- PAUSE_HOLD_END (R297). The hold of `page` has run. -/
  | pauseHoldEnd (page : Nat)
  /-- PAUSE_LONG (R298). The hold of `page` reaches MAC_PAUSE.LONG. -/
  | pauseLong (page : Nat)
  /-- PAUSE_REPEAT (R300). The 0.5 ms of the PAUSE of `page`. -/
  | pauseRepeat (page : Nat)
  /-- BUS_COLLISION (R309). A collision on the bus of `page`. -/
  | busCollision (page : Nat)
  /-- LATE_COLLISION (R310). A collision after 512 bit times. -/
  | lateCollision (page : Nat)
  /-- BUS_BACKOFF_END (R309). The backoff of a bus port and the deferral after it have run. -/
  | busBackoffEnd (x : MacTurn)
  /-- LINK_UP (R314). The link of `page` has had block lock without a fault for 50 ms; the PHY of a bus is ready. -/
  | linkUp (page : Nat)
  /-- LINK_DOWN (R314). The link of `page` has been without lock or faulty for 1 ms. -/
  | linkDown (page : Nat)
  /-- SFP_INSERT (R317). A module is in the cage of `page` since 300 ms; `a0` and `a2` are its A0h and A2h pages. -/
  | sfpInsert (page : Nat) (a0 a2 : List Byte)
  /-- SFP_REMOVE (R317). The module of the cage of `page` is removed. -/
  | sfpRemove (page : Nat)
  /-- SFP_DIAG_REFRESH (R317). The A2h page of the module of `page` is read. -/
  | sfpDiagRefresh (page : Nat) (a2 : List Byte)
  /-- TX_FAULT (R318). The TX_FAULT and RX_LOS pins of the cage of `page`. -/
  | txFault (page : Nat) (level rxLos : Bool)
  /-- MAC_CLR_CNT (R291). Requester `req` writes MAC_CLR.CNT of `page`. -/
  | macClrCnt (req page : Nat)
  /-- MAC_CLR_RINGMIN (R295). Requester `req` writes MAC_CLR.RINGMIN of `page`. -/
  | macClrRingmin (req page : Nat)
  /-- SAK_REKEY (R514). Key agreement on MACsec port `port` (U0, U1, H0, H1, M) with a peer of key server priority
  `peer`. -/
  | sakRekey (port peer : Nat)
  -- Commands of the local drive (chapter 10).
  /-- DRIVE_PRESENTATION (R330). The presentation time P_k of the drive’s domain; `m` are the measured outputs. -/
  | drivePresentation (m : DrvMeas)
  /-- STRING_MEASUREMENT (R336). The end of an on-interval of string `n`: rail and sink voltage in 10 mV, current in
  mA, ticks of the interval. -/
  | stringMeasurement (n vrail vsink imeas ticks : Nat)
  /-- STRING_FAULT (R341). The sink of string `n` detects OPEN, or SHORT where `short`. -/
  | stringFault (n : Nat) (short : Bool)
  /-- RAIL_FAULT (R340). The monitor of rail `r` (A–D) detects over voltage or over current. -/
  | railFault (r : Nat)
  /-- DRV_FCLR_RAIL (R340). Requester `req` writes DRV_FCLR.RAIL. -/
  | drvFclrRail (req mask : Nat)
  /-- DRV_FCLR_MXSUP (R351). Requester `req` writes DRV_FCLR.MXSUP. -/
  | drvFclrMxsup (req : Nat)
  /-- STR_FCLR (R341). Requester `req` writes STR_FCLR0 or STR_FCLR1. -/
  | strFclr (req half : Nat) (v : Word)
  /-- DRV_CLR (R327). Requester `req` writes DRV_CLR.CNT. -/
  | drvClr (req : Nat)
  /-- MX_FRAME_LATCH (R349). The last line of pass 31 of matrix port `x` has ended. -/
  | mxFrameLatch (x : Nat)
  /-- MX_FRAME_CUT (R350). P_{k+1} has come on matrix port `x`. -/
  | mxFrameCut (x : Nat)
  /-- MX_COLUMN_FAULT (R351). Column `c` of matrix port `x` is seen open, or shorted, in three consecutive frames. -/
  | mxColumnFault (x c : Nat) (short : Bool)
  /-- MX_LINE_SHORT (R351). Line `l` of matrix port `x` is shorted. -/
  | mxLineShort (x l : Nat)
  /-- MX_FCLR_COL (R351). Requester `req` writes MXn_FCLR.COL. -/
  | mxFclrCol (req x : Nat)
  /-- MX_FCLR_LINE (R351). Requester `req` writes MXn_FCLR.LINE. -/
  | mxFclrLine (req x : Nat)
  -- Commands of energy metering (chapter 11).
  /-- METER_QUANTUM (R356). A quantum of 125 µs ends with the converter codes `x`. -/
  | meterQuantum (x : MtrSample)
  /-- PULSE_EMIT (R374). Pulse output PO`k` looks for a spill. -/
  | pulseEmit (k : Nat)
  /-- SEAL_CLOSE (R387). Requester `req` writes MTR_SEAL.CLOSE. -/
  | sealClose (req : Nat)
  /-- SNAPSHOT_TAKE (R369). Requester `req` writes ACC_SNAP.TAKE with the given USE. -/
  | snapshotTake (req : Nat) (use : Bool)
  -- Commands of the local clock, PTP and the timing inputs (chapter 12).
  /-- CLOCK_STEP_ABS (R396). Requester `req` writes CLK_STEPOP.ABS. -/
  | clockStepAbs (req : Nat)
  /-- CLOCK_STEP_REL (R396). Requester `req` writes CLK_STEPOP.REL. -/
  | clockStepRel (req : Nat)
  /-- CLOCK_SLEW (R395). Requester `req` writes `v` to CLK_SLEW. -/
  | clockSlew (req : Nat) (v : Word)
  /-- CLOCK_INC (R394). Requester `req` writes `v` to CLK_INC. -/
  | clockInc (req : Nat) (v : Word)
  /-- CLOCK_MODE (R393). Requester `req` writes `v` to CLK_CTL with the MODE it wants. -/
  | clockMode (req : Nat) (v : Word)
  /-- SETVALID (R398). Requester `req` writes `v` to CLK_CTL with SETVALID = 1. -/
  | setvalid (req : Nat) (v : Word)
  /-- CLOCK_READ (R397). Requester `req` reads CLK_NOWNS. -/
  | clockRead (req : Nat)
  /-- SERVO_MEASUREMENT (R402). The servo takes the offset measured; `inc` is the CLK_INC the firmware writes with it,
  if any. -/
  | servoMeasurement (inc : Option Nat)
  /-- PTP_MESSAGE_RECEIVE (R406). A PTP message of domain `dom` arrives on PTP port `port` (Table 12-11). -/
  | ptpMessageReceive (port dom : Nat) (m : PtpMsg)
  /-- PTP_SYNC_SEND (R407). The Sync interval of PTP port `port`. -/
  | ptpSyncSend (port : Nat)
  /-- PTP_ANNOUNCE_SEND (R407). The Announce interval of PTP port `port`. -/
  | ptpAnnounceSend (port : Nat)
  /-- PTP_DELAY_REQ_SEND (R406). The Delay_Req interval of PTP port `port`. -/
  | ptpDelayReqSend (port : Nat)
  /-- ANNOUNCE_TIMEOUT (R407). The announce receipt timer of PTP port `port`. -/
  | announceTimeout (port : Nat)
  /-- PPS_IN_EDGE (R412). An edge of the PPS input at `t` ns of the local clock. -/
  | ppsInEdge (t : Nat) (falling : Bool)
  /-- LTC_FRAME (R413). An LTC frame decoded at `t` ns of the local clock, with its timecode. -/
  | ltcFrame (t h m sec f : Nat)
  /-- WCLK_EDGE (R415). A rising edge of the word clock at `t` ns of the local clock. -/
  | wclkEdge (t : Nat)
  -- Commands of the Hatband (chapter 13).
  /-- HELLO_SEND (R425). The HELLO interval of port `port` (0 H0, 1 H1). -/
  | helloSend (port : Nat)
  /-- HELLO (R425). A HELLO arrives on `port`, sent by the neighbour’s port `sender` with source address `src`, its
  serial and RXOK. -/
  | hello (port sender src serial : Nat) (rxok : Bool)
  /-- HELLO_LOSS (R426). The HELLO loss timer of `port`. -/
  | helloLoss (port : Nat)
  /-- BREAK (R427). A BREAK arrives: the sender’s port that left UP and its lost neighbour. -/
  | breakFrame (port dst src id lost nbr : Nat)
  /-- ANNOUNCE (R432). An ANNOUNCE arrives: serial or pair ID, claim time in ns, SERVICE, REGISTRAR, fencing epoch. -/
  | announce (port dst src id serial claim : Nat) (svc reg : Bool) (fep : Nat)
  /-- JOIN (R429). A JOIN arrives: serial or pair ID, address requested, SERVICE. -/
  | join (port dst src id serial want : Nat) (svc : Bool)
  /-- ASSIGN (R428). An ASSIGN arrives: serial or pair ID, address (0: none), SERVICE. -/
  | assign (port dst src id serial addr : Nat) (svc : Bool)
  /-- PRESENT_EXPIRE (R429). The PRESENT lifetime of ring-table entry `addr`. -/
  | presentExpire (addr : Nat)
  /-- LEAVE (R433). Requester `req` writes HB_CTL with JOIN = 0 and its other fields as they are. -/
  | leave (req : Nat)
  /-- LEAVE_RECEIVE (R433). A LEAVE arrives. -/
  | leaveReceive (port dst src id serial : Nat)
  /-- HB_FORGET (R433). Requester `req` writes HB_TOP.FORGET on page HB0 or HB1. -/
  | hbForget (req page : Nat)
  /-- FORGET (R433). A FORGET arrives that names entry `addr`. -/
  | forget (port dst src id addr : Nat)
  /-- EVENT (R438). An EVENT arrives: group, pending bits and time. -/
  | event (port dst src id group bits ns sec : Nat)
  /-- HB_EVPOP (R438). Requester `req` writes HB_EVPOP.POP. -/
  | hbEvpop (req page : Nat)
  /-- HB_CLR (R423). Requester `req` writes HB_CLR.CNT. -/
  | hbClr (req page : Nat)
  /-- UPD_SEG (R439). An UPD_SEG arrives: image ID, chunk index, segment and its 1,024 bytes. -/
  | updSeg (port img chunk seg : Nat) (data : List Byte)
  /-- UPD_ACK (R439). An UPD_ACK arrives. -/
  | updAck (port img chunk status : Nat)
  /-- UPD_ACK_TIMEOUT (R439). The 20 ms of a chunk sent on `port`. -/
  | updAckTimeout (port img chunk : Nat)
  -- Commands of the active and standby pair (chapter 14).
  /-- PAIR_BIND (R448). Requester `req` writes `v` to MIR_CFG with the BIND it wants. -/
  | pairBind (req : Nat) (v : Word)
  /-- HEARTBEAT (R448). A HEARTBEAT arrives by `path`: role (0 standby, 1 active, 2 seeking), HEALTH word and fencing
  epoch. -/
  | heartbeat (path : HbPath) (role health fep : Nat)
  /-- MIRROR (R453). A MIRROR message of the stream: fencing epoch, stream sequence and entries. -/
  | mirror (fep seq : Nat) (es : List MirEntry)
  /-- MIRROR_ACK (R456). An ACK: the highest sequence received in order. -/
  | mirrorAck (fep seq : Nat)
  /-- EPOCH (R454). An EPOCH message: domain, epoch number and the layers shown. -/
  | epoch (fep seq dom k : Nat) (lays : List EpLayer)
  /-- EPOCH_WAIT_TIMEOUT (R454). The limit of the EPOCH message of domain `dom`. -/
  | epochWaitTimeout (dom : Nat)
  /-- YIELD (R463). Requester `req` writes MIR_CMD.YIELD. -/
  | yield (req : Nat)
  /-- YIELD_RECEIVE (R464). A YIELD: H in ns, reference epoch and cause. -/
  | yieldReceive (fep h k cause : Nat)
  /-- YIELD_ACK (R464). A YIELD_ACK. -/
  | yieldAck (fep status : Nat)
  /-- DIGEST (R460). A DIGEST of epoch `k`: surface, tile, failed or expired, digest. -/
  | digest (fep k : Nat) (ts : List (Nat × Nat × Bool × Nat))
  /-- RESYNC (R457). Requester `req` writes MIR_CMD.RESYNC. -/
  | resync (req : Nat)
  /-- RESYNC_REQ (R458). A RESYNC_REQ: the highest record sequence the standby holds. -/
  | resyncReq (fep sq : Nat)
  /-- RESYNC_END (R458). A RESYNC_END. -/
  | resyncEnd (fep seq status : Nat)
  /-- DIAG_CHECK_FAIL (R462). Self-diagnosis check `n` is evaluated for failure. -/
  | diagCheckFail (n : Nat)
  /-- DIAG_CHECK_PASS (R462). Self-diagnosis check `n` is evaluated for its end. -/
  | diagCheckPass (n : Nat)
  /-- MIR_CLR (R460). Requester `req` writes MIR_CLR.CNT. -/
  | mirClr (req : Nat)
  -- Commands of the Lining (chapter 15).
  /-- LINING_APPEND_COMPLETE (R486). The Lining ends a LINING_APPEND item whose record failed verification `fails`
  times. -/
  | liningAppendComplete (fails : Nat)
  /-- LIN_CKPT (R488). Requester `req` writes LIN_CMD.CKPT. -/
  | linCkpt (req : Nat)
  /-- CHECKPOINT_COMPLETE (R488). A checkpoint’s trailer has been written and verifies, or not. -/
  | checkpointComplete (ok : Bool)
  /-- SECTOR_ERASE (R481). The background erase of sector `n` ends, having failed verification `fails` times. -/
  | sectorErase (n fails : Nat)
  /-- LINING_REPLAY (R492). The Lining reads its flash: what the scan meets, and whether the append cut off by the
  reset left a valid body without its mark. -/
  | liningReplay (scan : ReplayScan) (torn : Bool)
  /-- LIN_ACK (R490). Requester `req` writes `v` to LIN_ACKHI. -/
  | linAck (req : Nat) (v : Word)
  /-- LINING_READ (R490). Requester `req` writes LIN_ROP.READ. -/
  | liningRead (req : Nat)
  -- Commands of the Gauntlet and the key vault (chapter 16).
  /-- SENSOR_SAMPLE (R497). A sample of sensors 0–5: the mask of those whose condition is met. -/
  | sensorSample (conds : Nat)
  /-- GLITCH_TRIP (R497). The condition of glitch detector `n` (6–8) occurs or ends. -/
  | glitchTrip (n : Nat) (present : Bool)
  /-- POLICY_WRITE (R500). Requester `req` writes `v` to GNT_POLn. -/
  | policyWrite (req n : Nat) (v : Word)
  /-- COMMAND_GO (R508). Requester `req` writes GNT_CMDOP.GO. -/
  | commandGo (req : Nat)
  /-- KEY_READ (R511). Requester `req` writes KEY_OP.READ. -/
  | keyRead (req : Nat)
  /-- KEY_WRITE (R512). Requester `req` writes KEY_OP.WRITE. -/
  | keyWrite (req : Nat)
  /-- KEY_ERASE (R512). Requester `req` writes KEY_OP.ERASE. -/
  | keyErase (req : Nat)
  -- Commands of firmware update (chapter 17).
  /-- UPD_SUBMIT (R524). Requester `req` writes UPD_BOP.SUBMIT. -/
  | updSubmit (req : Nat)
  /-- APPLY (R528). Requester `req` writes UPD_CMD.APPLY. -/
  | apply (req : Nat)
  /-- APPLY_COMPLETE (R529). The apply ends: 0 the flash took the image and reads back, 1 flash failure, 2 it reads
  back different. -/
  | applyComplete (outcome : Nat)
  /-- ACTIVATE (R530). Requester `req` writes UPD_CMD.ACTIVATE. -/
  | activate (req : Nat)
  /-- CANCEL (R527). Requester `req` writes UPD_CMD.CANCEL. -/
  | cancel (req : Nat)
  -- Commands of self-calibration, self-test and the event block (chapters 18 and 19).
  /-- CAL_DUE (R547). Quantity `q` (Table 18-1) is looked at; `off` says that its outputs were off for a whole epoch.
  -/
  | calDue (q : Nat) (off : Bool)
  /-- SCL_ALL (R547). Requester `req` writes SCL_CMD.ALL. -/
  | sclAll (req : Nat)
  /-- SCL_ONE (R547). Requester `req` writes SCL_CMD.ONE with QTY = `q`. -/
  | sclOne (req q : Nat)
  /-- POST (R549). The self-test ends: the failed blocks (bits 2–6 of BST_POST) and the engines that failed vector set
  0. -/
  | post (fails engs : Nat)
  /-- TEST_VECTOR_ENQUEUE (R551). The test period of engine `eng`. -/
  | testVectorEnqueue (eng : Nat)
  /-- SCRUB_ERROR (R553). The scrubber meets a word with a corrected, or an uncorrectable, error. -/
  | scrubError (word : Nat) (ue : Bool)
  /-- FST_CLR_PORT (R143). Requester `req` writes FST_CLR.PORT`u`. -/
  | fstClrPort (req u : Nat)
  /-- FST_CLR_ECC (R565). Requester `req` writes FST_CLR.ECC. -/
  | fstClrEcc (req : Nat)
  /-- EVT_SWSET (R556). Requester `req` writes `v` to EVT_SWSET. -/
  | evtSwset (req : Nat) (v : Word)
  /-- EVT_SWCLR (R556). Requester `req` writes `v` to EVT_SWCLR. -/
  | evtSwclr (req : Nat) (v : Word)
  -- Commands of supply, temperature, start-up and reset (chapter 20).
  /-- POWER_ON (R583). J1 stands at `v` (10 mV) for `held` ns; `off`: it was off before; `base`: the baseplate in 0.1
  °C. -/
  | powerOn (v held : Nat) (off : Bool) (base : Int)
  /-- SUPPLY_BAND (R582). The J1 voltage (10 mV) and current (10 mA), and for how long (ns) it has been outside its
  band. -/
  | supplyBand (v n held : Nat)
  /-- POWER_FAIL_WARNING (R586). J1 stands at `v` (10 mV) below its limit for `held` ns. -/
  | powerFailWarning (v held : Nat)
  /-- OVERVOLTAGE_CUT (R582). J1 stands at `v` (10 mV) above its limit for `held` ns. -/
  | overvoltageCut (v held : Nat)
  /-- THERMAL_RESTART_CHECK (R589). The 10 s check of a device held in reset by heat; `base` in 0.1 °C. -/
  | thermalRestartCheck (base : Int)
  /-- RST_N_LOW (R593). RST_N has been low for `held` ns. -/
  | rstNLow (held : Nat)
  /-- RST_N_HIGH (R593). RST_N rises; `base` is the baseplate in 0.1 °C. -/
  | rstNHigh (base : Int)
  /-- DEV_RESET (R594). Requester `req` writes DEV_RESET with the key, GO and ORDERLY. -/
  | devReset (req : Nat) (orderly : Bool)
  /-- CAGE_OVERCURRENT (R581). What the module of cage `c` has drawn. -/
  | cageOvercurrent (c : Nat) (draw : CageDraw)
  /-- CAGE_POWER_ON (R581). Requester `req` writes PWR_CAGE.OFF with the bits of `mask`. -/
  | cagePowerOn (req mask : Nat)
  /-- HOLDUP_MEASURE (R585). The hold-up bank has been measured: voltage (10 mV) and capacity (10 µF). -/
  | holdupMeasure (v cap : Nat)
  /-- THM_CLR (R574). Requester `req` writes THM_CLR.MAX. -/
  | thmClr (req : Nat)
  /-- THERMAL_WARN (R574). A set of temperature readings. -/
  | thermalWarn (t : Temps)
  /-- BASEPLATE_SENSOR_FAIL (R574). Readings of the baseplate sensors, and for how long (ns) they have differed. -/
  | baseplateSensorFail (t : Temps) (held : Nat)
  -- Commands of the Hatrack and completions of its items (chapter 4). Those without operands.
  /-- TICK_RELEASE (R116). The 1 µs tick. -/
  | tickRelease
  /-- DISPATCH (R121). A dispatch slot. -/
  | dispatch
  /-- RESERVATION_EXPIRE (R126). The window of a reservation has ended. -/
  | reservationExpire
  /-- METER_FOLD_COMPLETE (R369). The metering island ends a METER_FOLD item. -/
  | meterFoldComplete
  /-- CUE_RUN (R246). The cue unit runs its CUE item. -/
  | cueRun
  -- Commands of the local drive (chapter 10). Those without operands.
  /-- L_PUSH_READ (R327). The reader of port L reads its PUSH item. -/
  | lPushRead
  /-- IMAGE_APPLY (R329). A presentation time of the drive’s images has come. -/
  | imageApply
  /-- MX_SUPPLY_FAULT (R351). The matrix supply is out of its limits. -/
  | mxSupplyFault
  -- Commands of energy metering (chapter 11). Those without operands.
  /-- METER_FOLD_ENQUEUE (R371). The metering island looks for room in flow 240. -/
  | meterFoldEnqueue
  /-- LINE_CYCLE (R359). A positive zero crossing of the reference voltage has been sampled. -/
  | lineCycle
  /-- ENERGY_SAVE (R380). A save time has come. -/
  | energySave
  -- Commands of the local clock, PTP and the timing inputs (chapter 12). Those without operands.
  /-- SLEW_END (R395). The last tick of a slew. -/
  | slewEnd
  /-- SOURCE_CHANGE (R401). The servo looks for a more preferred source. -/
  | sourceChange
  /-- SOURCE_LOSS (R402). The servo looks for the loss of every source. -/
  | sourceLoss
  /-- HOLD_EXPIRED (R402). The holdover timer. -/
  | holdExpired
  /-- SECONDS_COUNTER_SYNC (R399). A whole second of the local clock. -/
  | secondsCounterSync
  /-- PPS_OUT (R411). PPS out looks at the local clock. -/
  | ppsOut
  /-- PPS_LOST (R412). The 1.1 s of the PPS input. -/
  | ppsLost
  /-- LTC_FRAME_MISSING (R414). Four consecutive LTC frames are missing. -/
  | ltcFrameMissing
  /-- WCLK_MISSING (R414). No word-clock edge for 4 periods. -/
  | wclkMissing
  -- Commands of the Hatband (chapter 13). Those without operands.
  /-- ANNOUNCE_SEND (R431). The ANNOUNCE interval. -/
  | announceSend
  /-- JOIN_SEND (R428). The JOIN interval. -/
  | joinSend
  /-- SELF_ASSIGN (R430). A JOINING module looks at its unanswered JOINs. -/
  | selfAssign
  /-- EVENT_SEND (R438). The relay sends its oldest rise. -/
  | eventSend
  -- Commands of the active and standby pair (chapter 14). Those without operands.
  /-- HEARTBEAT_SEND (R450). The heartbeat interval. -/
  | heartbeatSend
  /-- PARTNER_LOSS (R469). The heartbeat timer. -/
  | partnerLoss
  /-- SEEK_TIMEOUT (R448). The SEEK timer. -/
  | seekTimeout
  /-- MIRROR_ACK_TIMEOUT (R456). The ACKTO timer. -/
  | mirrorAckTimeout
  /-- YIELD_TIMEOUT (R464). The 1 ms of a YIELD. -/
  | yieldTimeout
  /-- YIELD_RETRY (R464). The 100 ms of a blocked yield. -/
  | yieldRetry
  /-- HANDOVER (R465). The handover time H. -/
  | handover
  /-- RECLAIM (R468). The reclaim timer. -/
  | reclaim
  -- Commands of the Lining (chapter 15). Those without operands.
  /-- LINING_APPEND_ENQUEUE (R484). The Lining looks for a free append place. -/
  | liningAppendEnqueue
  /-- CHECKPOINT_START (R488). The Lining looks for the cause of a checkpoint. -/
  | checkpointStart
  -- Commands of the Gauntlet and the key vault (chapter 16). Those without operands.
  /-- COMMAND_FAIL (R508). The check of a command block ends with a failure. -/
  | commandFail
  /-- SET_POLICY (R500). The check of a SET_POLICY block ends. -/
  | setPolicy
  /-- SET_LEVEL (R499). The check of a SET_LEVEL block ends. -/
  | setLevel
  /-- UNSEAL_METER (R387). The check of an UNSEAL_METER block ends. -/
  | unsealMeter
  /-- DISARM (R503). The check of a DISARM block ends. -/
  | disarm
  /-- SET_PUBKEY (R507). The check of a SET_PUBKEY block ends. -/
  | setPubkey
  /-- PROVISION (R510). The check of a PROVISION block ends. -/
  | provision
  /-- CELL_LOW (R505). The Gauntlet’s cell falls below 2.5 V. -/
  | cellLow
  -- Commands of firmware update (chapter 17). Those without operands.
  /-- ACTIVATION_START (R531). A tick at which an activation may begin. -/
  | activationStart
  /-- ACTIVATED (R531). The new image reports that it runs. -/
  | activated
  /-- ACTIVATION_REVERT (R532). The 140 ms of the activation pause. -/
  | activationRevert
  -- Commands of self-calibration, self-test and the event block (chapters 18 and 19). Those without operands.
  /-- PASS_DONE (R553). The scrubber completes a pass. -/
  | passDone
  /-- ALERT_RELEASE (R558). The alert output looks at its sources. -/
  | alertRelease
  -- Commands of supply, temperature, start-up and reset (chapter 20). Those without operands.
  /-- ISLAND_START (R587). The next island of Table 20-8 is ready to leave reset. -/
  | islandStart
  /-- STARTED (R588). Start-up looks for its end. -/
  | started
  /-- THERMAL_TRIP (R574). The trip timer of the baseplate. -/
  | thermalTrip
  /-- POWER_OFF_END (R591). The power-off sequence looks for its end. -/
  | powerOffEnd
  /-- FIRMWARE_WATCHDOG (R595). The firmware watchdog expires. -/
  | firmwareWatchdog
  /-- HEALTH_HOLD_EXPIRY (R461). The 60 s of the HEALTH bits TEST and SCRUB. -/
  | healthHoldExpiry
  /-- CELL_FAILURE (R505). The Gauntlet’s cell fails. -/
  | cellFailure
  /-- LOGIC_POWER_LOSS (R598). The hold-up bank can no longer carry the logic. -/
  | logicPowerLoss
  deriving DecidableEq, Repr

end Sys2Proof
end

