-- ==== Sys2Proof/Decode.lean ====
section
/-! DEFINITION. Commands spelt by the bits of spec/opcode_table.json. The table gives no row any bits: the commands are
register accesses, frames, messages and events, not instruction words. -/

namespace Sys2Proof

/-- The command that a word spells by the table's bits: no row has any, so no word spells one. -/
def decodeTableWord (_nbits _w : Nat) : Option Instr := none

end Sys2Proof
end

