-- ==== Sys2Proof/Config.lean ====
section
/-! DEFINITION. What the manual leaves open and a run still needs: constants with no body. Nothing in Lean can
evaluate them or prove a value of them, so a statement holds whatever they are. Each takes the plain counter
`State.freeCtr` (a fresh value at each use) or the operands it depends on; the assumption log names each one. -/

namespace Sys2Proof.Config

/-- A 64-bit random number of the Gauntlet (nonces, R508; back-off draws, R309). -/
opaque freeWord64 : Nat → BitVec 64

/-- Bytes of a value the manual does not fix, such as a generated identity key (R510). -/
opaque freeByte : Nat → Nat → BitVec 8

/-- Outcome of an ECDSA P-384 verification of a message against a public key (R508, R525): the manual names the
algorithm and leaves its arithmetic to the standard it cites. Arguments: key bytes, message bytes, signature bytes. -/
opaque ecdsaP384 : List (BitVec 8) → List (BitVec 8) → List (BitVec 8) → Bool

/-- Bytes x ‖ y of the ECDSA P-384 public key of a private key (R511): the curve is cited by name. -/
opaque publicKey : List (BitVec 8) → Nat → BitVec 8

/-- SHA-384 digest of a byte string, as a number (R508, R522): cited by name, not restated in the manual. -/
opaque sha384 : List (BitVec 8) → Nat

/-- The CRC-32C an engine obtains from a test vector set (R551): the vectors are not given in the manual. -/
opaque testVectorCrc : Nat → Nat → BitVec 32

/-- How long the reset of a single engine lasts beyond 20 ns, by engine and the instant it began (ns): the manual shows an
engine still in reset 20 ns after its fault (Table 4-9) and gives no duration. -/
opaque engReset : Nat → Nat → Nat

/-- A measured or derived quantity the manual does not fix, by use and by argument. -/
opaque freeNat : Nat → Nat → Nat

/-- A byte of the top 16 MiB of the egress-buffer region, or past its end (R195, R38), by the digests held: the manual
gives the place of no digest there, and no bytes past the end. -/
opaque digestByte : List (Nat × Nat) → Nat → BitVec 8

/-- A byte of a protected frame after its SecTAG, ICV included (R302): the manual names the cipher suites. Arguments: the
transmit SA (association number, packet number, installation time), the frame, and the byte's place. -/
opaque sealedByte : Nat × Nat × Nat → List (BitVec 8) → Nat → BitVec 8

/-- Full scale of a metering channel (Table 11-1, by calibration index), in µV or µA: the manual gives ranges and
fractions of full scale, and no full scale. -/
opaque fullScale : Nat → Nat

/-- A current sample delayed by a fraction of a sample (11.2, Table 11-13): the manual names no interpolation. Arguments:
PHASE, the previous and the present code. -/
opaque delaySample : Int → Int → Int → Int

end Sys2Proof.Config
end

