-- ==== Sys2Proof/Machine/Reg.lean ====
section
/-! DEFINITION. The addresses of the module's registers (R39: page in bits 23..16, offset in bits 11..0), each under
the name the manual gives it. Push-port registers take the port number 0..15 (P0..P7 on pages 0x12..0x19, B0..B7 on
pages 0x1A..0x21), Hatband and matrix registers the port number 0..1, and MAC registers the page number. -/

namespace Sys2Proof.Machine.R

abbrev ISL_RST : Nat := 0x010040
abbrev ISL_STAT : Nat := 0x010044
abbrev ISL_ABORT : Nat := 0x010048
abbrev ISL_FTO : Nat := 0x01004C
abbrev DEV_UNMAP : Nat := 0x0000C0
abbrev DEV_SER (n : Nat) : Nat := 0x000040 + 0x4 * n
abbrev DEV_HWREV : Nat := 0x000048
abbrev DEV_FWID : Nat := 0x00004C
abbrev DEV_RESET : Nat := 0x000050
abbrev DEV_RSTCAUSE : Nat := 0x000054
abbrev DEV_RELAY : Nat := 0x000058
abbrev DEV_LED : Nat := 0x00005C
abbrev DEV_UPTIME : Nat := 0x000060
abbrev CB_PRI (n : Nat) : Nat := 0x020040 + 0x4 * n
abbrev CB_LOSS (n : Nat) : Nat := 0x020060 + 0x4 * n
abbrev CB_BACKOFF : Nat := 0x020080
abbrev CB_HOLD : Nat := 0x020084
abbrev CB_LOSSLIM : Nat := 0x020088
abbrev CB_CUT : Nat := 0x02008C
abbrev CB_BROKEN : Nat := 0x020090
abbrev CB_BARRIER : Nat := 0x020094
abbrev CB_CLR : Nat := 0x020098
abbrev HTK_DISP : Nat := 0x040040
abbrev HTK_WDOG : Nat := 0x040044
abbrev HTK_ENG : Nat := 0x040048
abbrev HTK_QFREE : Nat := 0x04004C
abbrev HTK_CNT : Nat := 0x040050
abbrev HTK_FLAGFLOW : Nat := 0x0400C4
abbrev HTK_FLAGSET : Nat := 0x0400C8
abbrev HTK_FLAGCLR : Nat := 0x0400CC
abbrev HTK_FLOWCMD : Nat := 0x0400D0
abbrev HTK_FAIL0 : Nat := 0x0400D4
abbrev HTK_FAIL1 : Nat := 0x0400D8
abbrev FST_RXCFG (n : Nat) : Nat := 0x080040 + 0x4 * n
abbrev FST_RXSTAT (n : Nat) : Nat := 0x080048 + 0x4 * n
abbrev FST_ECC : Nat := 0x080050
abbrev FST_UEADDR : Nat := 0x080054
abbrev FST_LAYUSE : Nat := 0x080058
abbrev FST_CLR : Nat := 0x08005C
abbrev LAY_PIN : Nat := 0x090090
abbrev LAY_E131CTL : Nat := 0x090094
abbrev LAY_FRAME (n : Nat) : Nat := 0x090100 + 0x4 * n
abbrev LAY_SCTL (n : Nat) : Nat := 0x090400 + 0x40 * n
abbrev LAY_SGEOM (n : Nat) : Nat := 0x090414 + 0x40 * n
abbrev LAY_SRATE (n : Nat) : Nat := 0x090418 + 0x40 * n
abbrev LAY_SMOFS (n : Nat) : Nat := 0x09041C + 0x40 * n
abbrev LAY_SSTAT (n : Nat) : Nat := 0x090420 + 0x40 * n
abbrev LAY_SCNT (n : Nat) : Nat := 0x090424 + 0x40 * n
abbrev LAY_SADDR0 (n : Nat) : Nat := 0x090404 + 0x40 * n
abbrev LAY_SADDR1 (n : Nat) : Nat := 0x090408 + 0x40 * n
abbrev LAY_SADDR2 (n : Nat) : Nat := 0x09040C + 0x40 * n
abbrev LAY_SADDR3 (n : Nat) : Nat := 0x090410 + 0x40 * n
abbrev ENG_RST : Nat := 0x060040
abbrev ENG_UP : Nat := 0x060044
abbrev ENG_FAULT : Nat := 0x060048
abbrev ENG_CNT0 : Nat := 0x06004C
abbrev ENG_CNT1 : Nat := 0x060050
abbrev ENG_CLR : Nat := 0x060054
abbrev MAP_STAT : Nat := 0x0B0070
abbrev MAP_EPUSE : Nat := 0x0B0074
abbrev TDM_CTL (n : Nat) : Nat := 0x0D0040 + 0x40 * n
abbrev TDM_RATE (n : Nat) : Nat := 0x0D0044 + 0x40 * n
abbrev TDM_LEAD (n : Nat) : Nat := 0x0D0048 + 0x40 * n
abbrev TDM_GUARD (n : Nat) : Nat := 0x0D004C + 0x40 * n
abbrev TDM_PHASE (n : Nat) : Nat := 0x0D0050 + 0x40 * n
abbrev TDM_ACT_NS (n : Nat) : Nat := 0x0D0054 + 0x40 * n
abbrev TDM_ACT_S (n : Nat) : Nat := 0x0D0058 + 0x40 * n
abbrev TDM_STAT (n : Nat) : Nat := 0x0D005C + 0x40 * n
abbrev TDM_LATE (n : Nat) : Nat := 0x0D0070 + 0x40 * n
abbrev TDM_EP_LO (n : Nat) : Nat := 0x0D0060 + 0x40 * n
abbrev TDM_EP_HI (n : Nat) : Nat := 0x0D0064 + 0x40 * n
abbrev TDM_LATEREC : Nat := 0x0D0140
abbrev TDM_QARM0 : Nat := 0x0D01C0
abbrev TDM_QARM1 : Nat := 0x0D01C4
abbrev TDM_QARM2 : Nat := 0x0D01C8
abbrev TDM_QARMOP : Nat := 0x0D01CC
abbrev TDM_QPEND : Nat := 0x0D01D0
abbrev SRF_CTL (n : Nat) : Nat := 0x0A0100 + 0x10 * n
abbrev SRF_HOLD (n : Nat) : Nat := 0x0A0104 + 0x10 * n
abbrev SRF_STAT (n : Nat) : Nat := 0x0A0108 + 0x10 * n
abbrev SRF_CNT (n : Nat) : Nat := 0x0A010C + 0x10 * n
abbrev CHK_XRECT : Nat := 0x0E0060
abbrev CHK_XEP : Nat := 0x0E0064
abbrev CHK_XCRC : Nat := 0x0E0068
abbrev CHK_XOP : Nat := 0x0E006C
abbrev CHK_ECHOTO : Nat := 0x0E0070
abbrev PP_CFG (p : Nat) : Nat := 0x120040 + 0x10000 * p
abbrev PP_CREDIT (p : Nat) : Nat := 0x120044 + 0x10000 * p
abbrev PP_CREDSTAT (p : Nat) : Nat := 0x120048 + 0x10000 * p
abbrev PP_ENUM (p : Nat) : Nat := 0x12004C + 0x10000 * p
abbrev PP_CLR (p : Nat) : Nat := 0x120050 + 0x10000 * p
abbrev PP_LOSS (p : Nat) : Nat := 0x120054 + 0x10000 * p
abbrev MAC_CFG (p : Nat) : Nat := 0x000400 + 0x10000 * p
abbrev MAC_PAUSE (p : Nat) : Nat := 0x000404 + 0x10000 * p
abbrev MAC_SEC (p : Nat) : Nat := 0x000418 + 0x10000 * p
abbrev MAC_SWLAT (p : Nat) : Nat := 0x00041C + 0x10000 * p
abbrev MAC_SFPCTL (p : Nat) : Nat := 0x000420 + 0x10000 * p
abbrev MAC_ADDRLO (p : Nat) : Nat := 0x000428 + 0x10000 * p
abbrev MAC_ADDRHI (p : Nat) : Nat := 0x00042C + 0x10000 * p
abbrev MAC_EVRAW (p : Nat) : Nat := 0x000408 + 0x10000 * p
abbrev MAC_EVMSK (p : Nat) : Nat := 0x00040C + 0x10000 * p
abbrev MAC_STAT (p : Nat) : Nat := 0x000410 + 0x10000 * p
abbrev MAC_RING (p : Nat) : Nat := 0x000414 + 0x10000 * p
abbrev MAC_CLR (p : Nat) : Nat := 0x000424 + 0x10000 * p
abbrev DRV_CTL : Nat := 0x300040
abbrev DRV_RAIL : Nat := 0x300044
abbrev DRV_PWM : Nat := 0x300048
abbrev DRV_VMX : Nat := 0x30004C
abbrev DRV_DERATE : Nat := 0x300050
abbrev DRV_FACTOR : Nat := 0x300054
abbrev DRV_DARK : Nat := 0x300058
abbrev DRV_FCLR : Nat := 0x30005C
abbrev DRV_RAILS (n : Nat) : Nat := 0x300060 + 0x4 * n
abbrev DRV_RPWR (n : Nat) : Nat := 0x300070 + 0x4 * n
abbrev DRV_MXSUP : Nat := 0x300080
abbrev DRV_LCNT0 : Nat := 0x300084
abbrev DRV_LCNT1 : Nat := 0x300088
abbrev DRV_LCNT2 : Nat := 0x30008C
abbrev DRV_CLR : Nat := 0x300090
abbrev MX_CFG (p : Nat) : Nat := 0x320040 + 0x10000 * p
abbrev MX_BLANK (p : Nat) : Nat := 0x320044 + 0x10000 * p
abbrev MX_ICOL (p : Nat) : Nat := 0x320048 + 0x10000 * p
abbrev MX_BASE (p : Nat) : Nat := 0x32004C + 0x10000 * p
abbrev MX_STAT (p : Nat) : Nat := 0x320060 + 0x10000 * p
abbrev MX_PASS (p : Nat) : Nat := 0x320064 + 0x10000 * p
abbrev MX_CNT (p : Nat) : Nat := 0x320068 + 0x10000 * p
abbrev MX_LSHORT (p : Nat) : Nat := 0x3200A0 + 0x10000 * p
abbrev MX_FCLR (p : Nat) : Nat := 0x3200A4 + 0x10000 * p
abbrev MX_COPEN (p n : Nat) : Nat := 0x320070 + 0x10000 * p + 0x4 * n
abbrev MX_CSHORT (p n : Nat) : Nat := 0x320088 + 0x10000 * p + 0x4 * n
abbrev MTR_CTL : Nat := 0x380040
abbrev MTR_NOM : Nat := 0x380044
abbrev MTR_NOLOAD : Nat := 0x380048
abbrev MTR_SEAL : Nat := 0x380054
abbrev MTR_BUF : Nat := 0x380058
abbrev MTR_LOST : Nat := 0x38005C
abbrev MTR_PO (n : Nat) : Nat := 0x38004C + 0x4 * n
abbrev MEA_CTL : Nat := 0x390040
abbrev MEA_VRMS (n : Nat) : Nat := 0x390060 + 0x20 * n
abbrev MEA_IRMS (n : Nat) : Nat := 0x390064 + 0x20 * n
abbrev MEA_P (n : Nat) : Nat := 0x390068 + 0x20 * n
abbrev MEA_P1 (n : Nat) : Nat := 0x39006C + 0x20 * n
abbrev MEA_Q1 (n : Nat) : Nat := 0x390070 + 0x20 * n
abbrev MEA_S (n : Nat) : Nat := 0x390074 + 0x20 * n
abbrev MEA_PF (n : Nat) : Nat := 0x390078 + 0x20 * n
abbrev MEA_FREQ : Nat := 0x3900E0
abbrev MEA_INRMS : Nat := 0x3900E4
abbrev MEA_J1V : Nat := 0x3900E8
abbrev MEA_J1I : Nat := 0x3900EC
abbrev MEA_J1P : Nat := 0x3900F0
abbrev CLK_CTL : Nat := 0x280040
abbrev CLK_SEL : Nat := 0x280044
abbrev CLK_SERVO : Nat := 0x280048
abbrev CLK_INC : Nat := 0x28004C
abbrev CLK_SLEW : Nat := 0x280050
abbrev CLK_SLEWCFG : Nat := 0x280054
abbrev CLK_SLEWLEFT : Nat := 0x280058
abbrev CLK_STEPNS : Nat := 0x28005C
abbrev CLK_STEPSLO : Nat := 0x280060
abbrev CLK_STEPSHI : Nat := 0x280064
abbrev CLK_STEPOP : Nat := 0x280068
abbrev CLK_NOWNS : Nat := 0x280070
abbrev CLK_OFS : Nat := 0x28007C
abbrev CLK_INCAVG : Nat := 0x280080
abbrev CLK_HOLDS : Nat := 0x280084
abbrev PTP_U : Nat := 0x290040
abbrev PTP_H : Nat := 0x290044
abbrev PTP_N : Nat := 0x290048
abbrev PTP_BDLY : Nat := 0x29004C
abbrev PTP_GMQ : Nat := 0x290068
abbrev PTP_UTC : Nat := 0x29006C
abbrev PTP_GMID (n : Nat) : Nat := 0x290060 + 0x4 * n
abbrev TIO_LTC : Nat := 0x2A0040
abbrev TIO_LTCSTAT : Nat := 0x2A0044
abbrev TIO_LTCERR : Nat := 0x2A0048
abbrev TIO_WCLK : Nat := 0x2A004C
abbrev TIO_WCLKPER : Nat := 0x2A0050
abbrev TIO_PPSIN : Nat := 0x2A0054
abbrev TIO_PPSOUT : Nat := 0x2A0058
abbrev TIO_PPSERR : Nat := 0x2A005C
abbrev HB_PORT (p : Nat) : Nat := 0x220040 + 0x10000 * p
abbrev HB_NSER (p n : Nat) : Nat := 0x220044 + 0x10000 * p + 0x4 * n
abbrev HB_CLR (p : Nat) : Nat := 0x22004C + 0x10000 * p
abbrev HB_CTL (p : Nat) : Nat := 0x220100 + 0x10000 * p
abbrev HB_ADDR (p : Nat) : Nat := 0x220104 + 0x10000 * p
abbrev HB_SVC (p : Nat) : Nat := 0x220108 + 0x10000 * p
abbrev HB_RING (p : Nat) : Nat := 0x22010C + 0x10000 * p
abbrev HB_EVDST (p : Nat) : Nat := 0x220110 + 0x10000 * p
abbrev HB_EVLOST (p : Nat) : Nat := 0x220114 + 0x10000 * p
abbrev HB_EVQ0 (p : Nat) : Nat := 0x220160 + 0x10000 * p
abbrev HB_EVQ1 (p : Nat) : Nat := 0x220164 + 0x10000 * p
abbrev HB_EVQ2 (p : Nat) : Nat := 0x220168 + 0x10000 * p
abbrev HB_EVQ3 (p : Nat) : Nat := 0x22016C + 0x10000 * p
abbrev HB_EVPOP (p : Nat) : Nat := 0x220170 + 0x10000 * p
abbrev HB_RA_DST (p : Nat) : Nat := 0x220800 + 0x10000 * p
abbrev HB_RA_ADDR (p : Nat) : Nat := 0x220804 + 0x10000 * p
abbrev HB_RA_OP (p : Nat) : Nat := 0x220808 + 0x10000 * p
abbrev HB_RA_STAT (p : Nat) : Nat := 0x22080C + 0x10000 * p
abbrev HB_RA_DATA (p n : Nat) : Nat := 0x220840 + 0x10000 * p + 0x4 * n
abbrev MIR_CFG : Nat := 0x240040
abbrev MIR_TIMING : Nat := 0x240054
abbrev MIR_REVERT : Nat := 0x240058
abbrev MIR_DIAG : Nat := 0x24005C
abbrev MIR_CMD : Nat := 0x240060
abbrev MIR_PAIR (n : Nat) : Nat := 0x240044 + 0x4 * n
abbrev MIR_PEER (n : Nat) : Nat := 0x24004C + 0x4 * n
abbrev MIR_EPOCH : Nat := 0x240070
abbrev MIR_RESV : Nat := 0x240074
abbrev MIR_HEALTH : Nat := 0x240078
abbrev MIR_PHEALTH : Nat := 0x24007C
abbrev MIR_TKOVER : Nat := 0x240080
abbrev MIR_CNT0 : Nat := 0x240084
abbrev MIR_CNT1 : Nat := 0x240088
abbrev MIR_LAG : Nat := 0x24008C
abbrev MIR_CLR : Nat := 0x240090
abbrev LIN_CFG : Nat := 0x400040
abbrev LIN_PLACE : Nat := 0x400044
abbrev LIN_USE : Nat := 0x400070
abbrev LIN_FAIL : Nat := 0x400074
abbrev LIN_CNT0 : Nat := 0x400078
abbrev LIN_CNT1 : Nat := 0x40007C
abbrev LIN_CMD : Nat := 0x400080
abbrev LIN_RSLO : Nat := 0x4000A0
abbrev LIN_RSHI : Nat := 0x4000A4
abbrev LIN_ROP : Nat := 0x4000A8
abbrev LIN_RSTAT : Nat := 0x4000AC
abbrev LIN_RDATA (n : Nat) : Nat := 0x4000C0 + 0x4 * n
abbrev GNT_LEVEL : Nat := 0x440040
abbrev GNT_SENSE : Nat := 0x440044
abbrev GNT_TRIP : Nat := 0x440048
abbrev GNT_CTL : Nat := 0x44004C
abbrev GNT_SVN : Nat := 0x440058
abbrev GNT_BOOT : Nat := 0x44005C
abbrev GNT_CMDOP : Nat := 0x440098
abbrev GNT_CMDSTAT : Nat := 0x44009C
abbrev GNT_POL (n : Nat) : Nat := 0x440060 + 0x4 * n
abbrev GNT_NONCE (n : Nat) : Nat := 0x440090 + 0x4 * n
abbrev GNT_CDATA (n : Nat) : Nat := 0x440100 + 0x4 * n
abbrev KEY_STAT : Nat := 0x4500B0
abbrev SEC_CFG (n : Nat) : Nat := 0x460040 + 0x10 * n
abbrev SEC_STAT (n : Nat) : Nat := 0x460044 + 0x10 * n
abbrev UPD_CTL : Nat := 0x480040
abbrev UPD_CMD : Nat := 0x480044
abbrev UPD_ACTNS : Nat := 0x480048
abbrev UPD_ACTS : Nat := 0x48004C
abbrev UPD_STAT : Nat := 0x480050
abbrev UPD_IMG : Nat := 0x480054
abbrev UPD_SVN : Nat := 0x480058
abbrev UPD_PROG : Nat := 0x48005C
abbrev SCL_CFG : Nat := 0x4C0060
abbrev SCL_STEP : Nat := 0x4C0064
abbrev SCL_CMD : Nat := 0x4C0068
abbrev BST_POST : Nat := 0x4D0040
abbrev BST_VEC : Nat := 0x4D0044
abbrev BST_SCRUB : Nat := 0x4D0048
abbrev BST_VCNT : Nat := 0x4D004C
abbrev BST_SCNT : Nat := 0x4D0050
abbrev BST_SPOS : Nat := 0x4D0054
abbrev PWR_CFG : Nat := 0x500040
abbrev PWR_J1 : Nat := 0x500044
abbrev PWR_HOLDUP : Nat := 0x500048
abbrev PWR_LAST : Nat := 0x50004C
abbrev PWR_CAGE : Nat := 0x500050
abbrev PWR_CNT : Nat := 0x500054
abbrev THM_BASE : Nat := 0x510040
abbrev THM_DIE : Nat := 0x510044
abbrev THM_LIMIT : Nat := 0x510048
abbrev THM_CLR : Nat := 0x51004C
abbrev EVT_SRC (n : Nat) : Nat := 0x030040 + 0x4 * n
abbrev EVT_AMSK (n : Nat) : Nat := 0x030060 + 0x4 * n
abbrev EVT_LOG (n : Nat) : Nat := 0x030080 + 0x4 * n
abbrev EVT_SUM : Nat := 0x0300A0
abbrev EVT_ALERT : Nat := 0x0300A4
abbrev EVT_SWSET : Nat := 0x0300A8
abbrev EVT_SWCLR : Nat := 0x0300AC
abbrev EVT_LOGCNT : Nat := 0x0300B0
abbrev EVT_FIRST : Nat := 0x0300B4
abbrev TDM_LN_NS (n : Nat) : Nat := 0x0D0068 + 0x40 * n
abbrev TDM_LN_S (n : Nat) : Nat := 0x0D006C + 0x40 * n
abbrev MEA_TNS : Nat := 0x390044
abbrev MEA_TS : Nat := 0x390048
abbrev ACC_SNAP : Nat := 0x3A0070
abbrev ACC_SNAPNS : Nat := 0x3A0074
abbrev ACC_SNAPS : Nat := 0x3A0078
abbrev CLK_NOWSLO : Nat := 0x280074
abbrev CLK_NOWSHI : Nat := 0x280078
abbrev LIN_NEXTLO : Nat := 0x400048
abbrev LIN_NEXTHI : Nat := 0x40004C
abbrev LIN_DURLO : Nat := 0x400050
abbrev LIN_DURHI : Nat := 0x400054
abbrev LIN_CKLO : Nat := 0x400058
abbrev LIN_CKHI : Nat := 0x40005C
abbrev LIN_OLDLO : Nat := 0x400068
abbrev LIN_OLDHI : Nat := 0x40006C
abbrev LIN_ACKLO : Nat := 0x400060
abbrev LIN_ACKHI : Nat := 0x400064
abbrev GNT_TIMELO : Nat := 0x440050
abbrev GNT_TIMEHI : Nat := 0x440054
abbrev FST_NOBUF (n : Nat) : Nat := 0x080060 + 0x20 * n
abbrev FST_QFULL (n : Nat) : Nat := 0x080064 + 0x20 * n
abbrev FST_PARSE (n : Nat) : Nat := 0x080068 + 0x20 * n
abbrev FST_BUSY (n : Nat) : Nat := 0x08006C + 0x20 * n
abbrev FST_NOSRC (n : Nat) : Nat := 0x080070 + 0x20 * n
abbrev FST_SEQ (n : Nat) : Nat := 0x080074 + 0x20 * n
abbrev PP_SENT (p : Nat) : Nat := 0x120060 + 0x10000 * p
abbrev PP_DEFERRED (p : Nat) : Nat := 0x120064 + 0x10000 * p
abbrev PP_MISSED (p : Nat) : Nat := 0x120068 + 0x10000 * p
abbrev PP_LATE0 (p : Nat) : Nat := 0x12006C + 0x10000 * p
abbrev PP_ORDER (p : Nat) : Nat := 0x120070 + 0x10000 * p
abbrev PP_DOWN (p : Nat) : Nat := 0x120074 + 0x10000 * p
abbrev PP_NOREPLY (p : Nat) : Nat := 0x120078 + 0x10000 * p
abbrev PP_DUP (p : Nat) : Nat := 0x12007C + 0x10000 * p
abbrev PP_NOROOM (p : Nat) : Nat := 0x120080 + 0x10000 * p
abbrev MAC_RXOK (p : Nat) : Nat := 0x000440 + 0x10000 * p
abbrev MAC_RXRUNT (p : Nat) : Nat := 0x000444 + 0x10000 * p
abbrev MAC_RXGIANT (p : Nat) : Nat := 0x000448 + 0x10000 * p
abbrev MAC_RXFCS (p : Nat) : Nat := 0x00044C + 0x10000 * p
abbrev MAC_RXFILT (p : Nat) : Nat := 0x000450 + 0x10000 * p
abbrev MAC_RXPAUSE (p : Nat) : Nat := 0x000454 + 0x10000 * p
abbrev MAC_RXAUTH (p : Nat) : Nat := 0x000458 + 0x10000 * p
abbrev MAC_RXETYPE (p : Nat) : Nat := 0x00045C + 0x10000 * p
abbrev MAC_RXFENCE (p : Nat) : Nat := 0x000460 + 0x10000 * p
abbrev MAC_RXNOBUF (p : Nat) : Nat := 0x000464 + 0x10000 * p
abbrev MAC_TXOK (p : Nat) : Nat := 0x000468 + 0x10000 * p
abbrev MAC_TXPAUSE (p : Nat) : Nat := 0x00046C + 0x10000 * p
abbrev MAC_TXDROP (p : Nat) : Nat := 0x000470 + 0x10000 * p
abbrev MAC_PAUSEUS (p : Nat) : Nat := 0x000474 + 0x10000 * p
abbrev MAC_COLL (p : Nat) : Nat := 0x000478 + 0x10000 * p
abbrev MAC_LATECOLL (p : Nat) : Nat := 0x00047C + 0x10000 * p
abbrev MAC_EXCOLL (p : Nat) : Nat := 0x000480 + 0x10000 * p
abbrev HB_FWD (p : Nat) : Nat := 0x220060 + 0x10000 * p
abbrev HB_DUP (p : Nat) : Nat := 0x220064 + 0x10000 * p
abbrev HB_WRAP (p : Nat) : Nat := 0x220068 + 0x10000 * p
abbrev HB_LATE (p : Nat) : Nat := 0x22006C + 0x10000 * p
abbrev HB_UPDRTY (p : Nat) : Nat := 0x220070 + 0x10000 * p
abbrev HB_MISWIRE (p : Nat) : Nat := 0x220074 + 0x10000 * p
abbrev STR_FCLR (n : Nat) : Nat := 0x310090 + 0x4 * n

/-- Common header of page `p` (2.2). -/
abbrev PG_ID (p : Nat) : Nat := 0x10000 * p
abbrev PG_CAP (p : Nat) : Nat := 0x000004 + 0x10000 * p
abbrev PG_CTL (p : Nat) : Nat := 0x000008 + 0x10000 * p
abbrev PG_STAT (p : Nat) : Nat := 0x00000C + 0x10000 * p
abbrev PG_EVRAW (p : Nat) : Nat := 0x000010 + 0x10000 * p
abbrev PG_EVMSK (p : Nat) : Nat := 0x000014 + 0x10000 * p
abbrev PG_EVPND (p : Nat) : Nat := 0x000018 + 0x10000 * p
abbrev PG_ERR (p : Nat) : Nat := 0x00001C + 0x10000 * p
abbrev PG_LOCK (p : Nat) : Nat := 0x000020 + 0x10000 * p
abbrev PG_COMMIT (p : Nat) : Nat := 0x000024 + 0x10000 * p
abbrev PG_SEQ (p : Nat) : Nat := 0x000028 + 0x10000 * p
abbrev PG_PERSIST (p : Nat) : Nat := 0x00002C + 0x10000 * p

end Sys2Proof.Machine.R
end

