-- ==== Sys2Proof/Machine/RegDesc.lean ====
section
/-! DEFINITION. How the register tables of the manual are written down: a field with its access code, reset value
and legal set, and a register or register array of a page. -/

namespace Sys2Proof.Machine

/-- Register access codes (Table 0-6). -/
inductive Acc where
  | ro | rw | rw1c | wo | st
  deriving DecidableEq, Repr

/-- One field of a register or of a table entry. Bits that no field covers are reserved (R12). -/
structure FieldD where
  lo : Nat
  width : Nat
  acc : Acc
  reset : Nat
  /-- The legal values as ranges; an empty list leaves every value legal. -/
  legal : List (Nat × Nat)
  /-- The field takes part in a SAVE (R48). -/
  persisted : Bool
  deriving DecidableEq, Repr

/-- A register of a page, or an array of registers at a fixed stride. -/
structure RegD where
  off : Nat
  count : Nat
  stride : Nat
  /-- Held once per requester (R54). -/
  banked : Bool
  fields : List FieldD
  deriving DecidableEq, Repr

/-- A field whose every value is legal and which no SAVE records. -/
def fd (lo width : Nat) (acc : Acc) (reset : Nat) : FieldD := ⟨lo, width, acc, reset, [], false⟩

/-- A field with a legal set or a part in a SAVE. -/
def fdx (lo width : Nat) (acc : Acc) (reset : Nat) (legal : List (Nat × Nat)) (persisted : Bool) : FieldD :=
  ⟨lo, width, acc, reset, legal, persisted⟩

/-- A register or register array. -/
def rd (off count stride : Nat) (banked : Bool) (fields : List FieldD) : RegD :=
  ⟨off, count, stride, banked, fields⟩

/-- The bits a field covers. -/
def FieldD.mask (f : FieldD) : Nat := (2 ^ f.width - 1) <<< f.lo

/-- The value a field has in a word. -/
def FieldD.get (f : FieldD) (w : Word) : Nat := fld w f.lo f.width

/-- Whether a field value lies in the field's legal set. -/
def FieldD.ok (f : FieldD) (v : Nat) : Bool :=
  f.legal.isEmpty || f.legal.any fun r => r.1 ≤ v && v ≤ r.2

/-- Whether a write may give the field a value: every access code but RO. -/
def FieldD.writable (f : FieldD) : Bool := f.acc != .ro

/-- The reset word of a list of fields. -/
def resetOf (fs : List FieldD) : Word :=
  w32 (fs.foldl (fun a f => a + (f.reset % 2 ^ f.width) <<< f.lo) 0)

/-- The bits of a list of fields. -/
def maskOf (fs : List FieldD) : Nat := fs.foldl (fun a f => a ||| f.mask) 0

/-- A value sets a bit that no field covers (R12). -/
def setsReserved (fs : List FieldD) (v : Word) : Bool := v.toNat &&& maskOf fs != v.toNat

/-- Every field of a register is read only: a write is rejected with READONLY (Table 2-13). -/
def allRo (fs : List FieldD) : Bool := !fs.isEmpty && fs.all fun f => f.acc == .ro

/-- A written value outside the legal set of a writable field (RANGE). -/
def outOfRange (fs : List FieldD) (v : Word) : Bool := fs.any fun f => f.writable && !f.ok (f.get v)

end Sys2Proof.Machine
end

