-- ==== Sys2Proof/Machine/RegEntries.lean ====
section
/-! DEFINITION. The entry words of the windowed tables, field by field, from the entry tables of the manual. -/

namespace Sys2Proof.Machine

/-- Entry words of the HFL window (Table 4-13). -/
def entryHFL : List (List FieldD) := [
  [fdx 0 1 .rw 0 [] true, fdx 1 2 .rw 3 [] true, fdx 3 1 .rw 0 [] true, fdx 4 1 .rw 0 [] true, fdx 5 1 .rw 0 [] true, fdx 6 1 .rw 1 [] true, fdx 8 6 .rw 0 [] true, fdx 16 2 .rw 1 [] true] /- DATA0 -/,
  [fdx 0 32 .rw 0 [] true] /- DATA1 -/,
  [fdx 0 17 .rw 0x100 [(1, 65536)] true] /- DATA2 -/,
  [fdx 0 8 .rw 0 [] true, fdx 8 1 .rw 0 [] true] /- DATA(3+2n) -/,
  [fdx 0 32 .rw 0 [] true] /- DATA(4+2n) -/,
  [fdx 0 8 .rw 0 [] true, fdx 8 1 .rw 0 [] true] /- DATA(3+2n) -/,
  [fdx 0 32 .rw 0 [] true] /- DATA(4+2n) -/,
  [fdx 0 8 .rw 0 [] true, fdx 8 1 .rw 0 [] true] /- DATA(3+2n) -/,
  [fdx 0 32 .rw 0 [] true] /- DATA(4+2n) -/,
  [fdx 0 8 .rw 0 [] true, fdx 8 1 .rw 0 [] true] /- DATA(3+2n) -/,
  [fdx 0 32 .rw 0 [] true] /- DATA(4+2n) -/,
  [fdx 0 8 .rw 0 [] true, fdx 8 1 .rw 0 [] true] /- DATA(3+2n) -/,
  [fdx 0 32 .rw 0 [] true] /- DATA(4+2n) -/,
  [fdx 0 8 .rw 0 [] true, fdx 8 1 .rw 0 [] true] /- DATA(3+2n) -/,
  [fdx 0 32 .rw 0 [] true] /- DATA(4+2n) -/,
  [fdx 0 8 .rw 0 [] true, fdx 8 1 .rw 0 [] true] /- DATA(3+2n) -/,
  [fdx 0 32 .rw 0 [] true] /- DATA(4+2n) -/,
  [fdx 0 8 .rw 0 [] true, fdx 8 1 .rw 0 [] true] /- DATA(3+2n) -/,
  [fdx 0 32 .rw 0 [] true] /- DATA(4+2n) -/]

/-- Entry words of the LAY window (Table 5-14). -/
def entryLAY : List (List FieldD) := [
  [fdx 0 1 .rw 0 [] true, fdx 1 2 .rw 0 [(0, 2)] true, fdx 8 8 .rw 1 [(1, 3), (16, 20)] true, fdx 16 3 .rw 2 [(2, 4)] true, fdx 20 2 .rw 0 [] true, fdx 22 1 .rw 0 [] true, fdx 24 2 .rw 1 [(0, 2)] true, fdx 26 1 .rw 0 [] true, fdx 27 1 .rw 0 [] true] /- DATA0 -/,
  [fdx 0 14 .rw 1 [(1, 8192)] true, fdx 16 14 .rw 1 [(1, 8192)] true] /- DATA1 -/,
  [fdx 0 18 .rw 0 [] true] /- DATA(2+m) -/,
  [fdx 0 18 .rw 0 [] true] /- DATA(2+m) -/,
  [fdx 0 18 .rw 0 [] true] /- DATA(2+m) -/,
  [fdx 0 18 .rw 0 [] true] /- DATA(2+m) -/]

/-- Entry words of the LAYU window (Table 5-17). -/
def entryLAYU : List (List FieldD) := [
  [fdx 0 16 .rw 0 [(0, 63999)] true, fdx 16 8 .rw 0 [(0, 191)] true, fdx 24 2 .rw 1 [(0, 2)] true] /- UDATA0 -/,
  [fdx 0 14 .rw 0 [] true, fdx 16 14 .rw 0 [] true] /- UDATA1 -/,
  [fdx 0 10 .rw 1 [(1, 512)] true, fdx 16 10 .rw 1 [(1, 512)] true] /- UDATA2 -/,
  [fdx 0 16 .rw 0 [(0, 63999)] true] /- UDATA3 -/]

/-- Entry words of the ENGK window (Table 6-11). -/
def entryENGK : List (List FieldD) := [
  [fd 0 1 .rw 0, fdx 1 3 .rw 0 [(0, 4)] false, fdx 4 8 .rw 0 [(0, 191)] false] /- KDATA0 -/,
  [fdx 0 17 .rw 0x10000 [(0, 65536)] false] /- KDATA1 -/,
  [fd 0 14 .rw 0, fd 16 14 .rw 0] /- KDATA2 -/]

/-- Entry words of the ENGC window (Table 6-12). -/
def entryENGC : List (List FieldD) := [
  [fd 0 2 .rw 0, fd 2 1 .rw 0, fd 3 1 .rw 0, fdx 4 2 .rw 1 [(0, 2)] false, fd 6 1 .rw 1] /- DATA0 -/]

/-- Entry words of the CALP window (Table 6-20). -/
def entryCALP : List (List FieldD) := [
  [fd 0 1 .rw 0, fdx 1 3 .rw 1 [(1, 6)] false, fd 4 1 .rw 1, fdx 5 7 .rw 0x7f [(0, 63), (127, 127)] false, fdx 12 2 .rw 0 [(0, 1)] false, fdx 14 2 .rw 0 [(0, 2)] false, fdx 16 2 .rw 0 [(0, 2)] false] /- PDATA0 -/,
  [fd 0 18 .rw 0] /- PDATA1 -/,
  [fdx 0 16 .rw 0x8000 [(0, 32768)] false, fd 16 16 .rw 0] /- PDATA2 -/,
  [fd 0 16 .rw 0] /- PDATA3 -/]

/-- Entry words of the CALB window (Table 6-21). -/
def entryCALB : List (List FieldD) := [
  [fdx 0 32 .rw 0 [(0, 262143), (4294705152, 4294967295)] false] /- BDATA0..BDATA8 -/,
  [fdx 0 32 .rw 0 [(0, 262143), (4294705152, 4294967295)] false] /- BDATA0..BDATA8 -/,
  [fdx 0 32 .rw 0 [(0, 262143), (4294705152, 4294967295)] false] /- BDATA0..BDATA8 -/,
  [fdx 0 32 .rw 0 [(0, 262143), (4294705152, 4294967295)] false] /- BDATA0..BDATA8 -/,
  [fdx 0 32 .rw 0 [(0, 262143), (4294705152, 4294967295)] false] /- BDATA0..BDATA8 -/,
  [fdx 0 32 .rw 0 [(0, 262143), (4294705152, 4294967295)] false] /- BDATA0..BDATA8 -/,
  [fdx 0 32 .rw 0 [(0, 262143), (4294705152, 4294967295)] false] /- BDATA0..BDATA8 -/,
  [fdx 0 32 .rw 0 [(0, 262143), (4294705152, 4294967295)] false] /- BDATA0..BDATA8 -/,
  [fdx 0 32 .rw 0 [(0, 262143), (4294705152, 4294967295)] false] /- BDATA0..BDATA8 -/,
  [fdx 0 32 .rw 0 [(0, 262143), (4294705152, 4294967295)] false] /- BDATA9..BDATA11 -/,
  [fdx 0 32 .rw 0 [(0, 262143), (4294705152, 4294967295)] false] /- BDATA9..BDATA11 -/,
  [fdx 0 32 .rw 0 [(0, 262143), (4294705152, 4294967295)] false] /- BDATA9..BDATA11 -/,
  [fdx 0 16 .rw 0x8000 [(0, 32768)] false, fdx 16 16 .rw 0x8000 [(0, 32768)] false] /- BDATA12 -/,
  [fdx 0 16 .rw 0x8000 [(0, 32768)] false, fdx 16 16 .rw 0x8000 [(0, 32768)] false] /- BDATA13 -/,
  [fdx 0 2 .rw 0 [(0, 2)] false, fd 2 1 .rw 0, fd 3 1 .rw 0, fd 4 6 .rw 0] /- BDATA14 -/,
  [] /- BDATA15 -/]

/-- Entry words of the CALC window (Table 6-22). -/
def entryCALC : List (List FieldD) := [
  [fd 0 16 .rw 0] /- DATA0 -/]

/-- Entry words of the TDMQ window (Table 7-11). -/
def entryTDMQ : List (List FieldD) := [
  [fd 0 1 .rw 0, fd 1 1 .rw 0, fdx 2 3 .rw 0 [(0, 4)] false, fdx 8 7 .rw 0 [(0, 64)] false] /- QDATA0 -/,
  [fd 0 16 .rw 0] /- QDATA1 -/,
  [fd 0 12 .rw 0, fd 12 1 .rw 0, fd 16 16 .rw 0] /- QDATA2 -/]

/-- Entry words of the TDMA window (Table 7-11). -/
def entryTDMA : List (List FieldD) := [
  [fd 0 24 .rw 0] /- ADATA0 -/,
  [fd 0 32 .rw 0] /- ADATA1 -/]

/-- Entry words of the SRFT window (Table 7-14). -/
def entrySRFT : List (List FieldD) := [
  [fd 0 1 .rw 0, fd 1 6 .rw 0, fdx 8 8 .rw 0 [(0, 239)] false, fdx 16 8 .rw 0 [(0, 239)] false, fd 24 8 .rw 0] /- TDATA0 -/,
  [fd 0 24 .rw 0, fd 24 8 .rw 0] /- TDATA1 -/,
  [fdx 0 13 .rw 1 [(1, 4096)] false, fdx 16 16 .rw 1 [(1, 65535)] false] /- TDATA2 -/,
  [fd 0 24 .rw 0] /- TDATA3 -/,
  [fdx 0 5 .rw 0 [(0, 16)] false, fd 16 12 .rw 0] /- TDATA4 -/,
  [fdx 0 16 .rw 1 [(1, 65535)] false] /- TDATA5 -/]

/-- Entry words of the CHKR window (Table 7-17). -/
def entryCHKR : List (List FieldD) := [
  [fd 0 1 .rw 0, fdx 1 1 .rw 0 [] true, fdx 2 1 .rw 0 [] true, fdx 3 6 .rw 0 [] true, fdx 16 8 .rw 0 [(0, 239)] true, fdx 24 8 .rw 0 [] true] /- RDATA0 -/,
  [fdx 0 32 .rw 0 [] true] /- RDATA1 -/,
  [fdx 0 32 .rw 0 [] true] /- RDATA2 -/,
  [fdx 0 5 .rw 0 [] true, fdx 16 12 .rw 0 [] true] /- RDATA3 -/,
  [fdx 0 16 .rw 1 [(1, 65535)] true] /- RDATA4 -/]

/-- Entry words of the PPN window (Table 8-14). -/
def entryPPN : List (List FieldD) := [
  [fdx 0 1 .rw 0 [] true, fdx 16 16 .rw 0 [] true] /- NDATA0 -/,
  [fdx 0 32 .rw 0 [] true] /- NDATA1 -/,
  [fdx 0 32 .rw 0 [] true] /- NDATA2 -/,
  [fdx 0 32 .rw 0 [] true] /- NDATA3 -/]

/-- Entry words of the STR window (Table 10-11). -/
def entrySTR : List (List FieldD) := [
  [fdx 0 1 .rw 0 [] true, fdx 8 10 .rw 0xa [(10, 1000)] true] /- DATA0 -/,
  [fdx 0 27 .rw 0 [(0, 125829119)] true] /- DATA1 -/,
  [fdx 0 16 .rw 0 [] true] /- DATA2 -/]

/-- Entry words of the STRV window (Table 10-11). -/
def entrySTRV : List (List FieldD) := [
  [fdx 0 14 .rw 0x1388 [(0, 11000)] true, fdx 16 16 .rw 0 [] true] /- VDATA0 -/]

/-- Entry words of the MTRC window (Table 11-13). -/
def entryMTRC : List (List FieldD) := [
  [fdx 0 24 .rw 0x800000 [(6291456, 10485760)] true] /- CALDATA0 -/,
  [fdx 0 16 .rw 0 [(0, 5000), (60536, 65535)] true, fdx 16 16 .rw 0 [] true] /- CALDATA1 -/]

/-- Entry words of the ACC window (Table 11-15). -/
def entryACC : List (List FieldD) := [
  [fd 0 32 .rw 0] /- DATA0, DATA1 -/,
  [fd 0 32 .rw 0] /- DATA0, DATA1 -/,
  [fd 0 32 .rw 0] /- DATA2 -/,
  [fd 0 32 .rw 0] /- DATA3, DATA4 -/,
  [fd 0 32 .rw 0] /- DATA3, DATA4 -/,
  [fdx 0 17 .rw 0x3e8 [(1, 100000)] true] /- DATA5 -/,
  [fd 0 32 .rw 0] /- DATA6 -/,
  [fd 0 16 .rw 0, fd 16 5 .rw 0] /- DATA7 -/]

/-- Entry words of the SCLQ window (Table 18-8). -/
def entrySCLQ : List (List FieldD) := [
  [fd 0 16 .ro 0, fd 16 16 .ro 0] /- QDATA0 -/,
  [fdx 0 8 .rw 2 [(1, 64)] true, fdx 8 1 .rw 1 [] true, fd 9 3 .ro 0] /- QDATA1 -/,
  [fd 0 32 .ro 0] /- QDATA2 -/,
  [fd 0 32 .ro 0] /- QDATA3 -/,
  [fd 0 16 .ro 0, fd 16 16 .ro 0] /- QDATA4 -/]


end Sys2Proof.Machine
end

