-- ==== Sys2Proof/Machine/RegTable.lean ====
section
/-! DEFINITION. The block registers of the pages, field by field, from the register tables of the manual. Bits listed
nowhere are reserved (R12). The common header, the MAC block and the push-port control registers, whose fields
depend on the page, are in RegPages.lean. -/

namespace Sys2Proof.Machine

/-- Block registers of page 0x01, in offset order. -/
def islRegs : List RegD := [
  rd 0x40 1 0x4 false [ -- ISL_RST (Table 1-2)
      fd 0 14 .wo 0],
  rd 0x44 1 0x4 false [ -- ISL_STAT (Table 1-3)
      fd 0 14 .ro 0x2000,
      fd 16 5 .ro 0x1f],
  rd 0x48 1 0x4 false [ -- ISL_ABORT (Table 1-4)
      fd 0 16 .ro 0,
      fd 16 4 .ro 0xf],
  rd 0x4c 1 0x4 false [ -- ISL_FTO (Table 19-10)
      fdx 0 16 .rw 0x3e8 [(0, 0), (100, 65535)] true,
      fd 16 4 .ro 0xf,
      fd 20 6 .ro 0,
      fd 26 6 .ro 0]]

/-- Block registers of page 0x00, in offset order. -/
def devRegs : List RegD := [
  rd 0x40 2 0x4 false [ -- DEV_SER (Table 20-14)
      fd 0 32 .ro 0],
  rd 0x48 1 0x4 false [ -- DEV_HWREV (Table 20-14)
      fd 0 16 .ro 0],
  rd 0x4c 1 0x4 false [ -- DEV_FWID (Table 20-14)
      fd 0 32 .ro 0],
  rd 0x50 1 0x4 false [ -- DEV_RESET (Table 20-14)
      fd 0 1 .wo 0,
      fd 1 1 .wo 0,
      fd 16 16 .wo 0],
  rd 0x54 1 0x4 false [ -- DEV_RSTCAUSE (Table 20-14)
      fd 0 3 .ro 0,
      fd 16 16 .ro 0],
  rd 0x58 1 0x4 false [ -- DEV_RELAY (Table 20-14)
      fdx 0 2 .rw 0 [(0, 2)] true,
      fd 8 1 .ro 0],
  rd 0x5c 1 0x4 false [ -- DEV_LED (Table 20-14)
      fdx 0 1 .rw 0 [] true,
      fd 1 1 .rw 0],
  rd 0x60 1 0x4 false [ -- DEV_UPTIME (Table 20-14)
      fd 0 32 .ro 0],
  rd 0xc0 1 0x4 false [ -- DEV_UNMAP (Table 2-1)
      fd 0 24 .ro 0,
      fd 24 4 .ro 0,
      fd 31 1 .rw1c 0]]

/-- Block registers of page 0x02, in offset order. -/
def cbusRegs : List RegD := [
  rd 0x40 8 0x4 false [ -- CB_PRI (Table 3-4)
      fdx 0 4 .rw 0 [] true],
  rd 0x60 8 0x4 false [ -- CB_LOSS (Table 3-4)
      fd 0 16 .ro 0,
      fd 16 16 .ro 0],
  rd 0x80 1 0x4 false [ -- CB_BACKOFF (Table 3-5)
      fdx 0 4 .rw 4 [(1, 15)] true,
      fdx 4 4 .rw 0xa [(0, 12)] true],
  rd 0x84 1 0x4 false [ -- CB_HOLD (Table 3-5)
      fdx 0 16 .rw 0x100 [(64, 4096)] true,
      fdx 16 16 .rw 0x3e8 [(10, 10000)] true],
  rd 0x88 1 0x4 false [ -- CB_LOSSLIM (Table 3-5)
      fdx 0 16 .rw 0 [] true],
  rd 0x8c 1 0x4 false [ -- CB_CUT (Table 3-6)
      fd 0 4 .ro 0xf,
      fd 8 8 .ro 0,
      fd 16 16 .ro 0],
  rd 0x90 1 0x4 false [ -- CB_BROKEN (Table 3-6)
      fd 0 4 .ro 0xf,
      fd 4 2 .ro 0,
      fd 8 8 .ro 0,
      fd 16 16 .ro 0],
  rd 0x94 1 0x4 false [ -- CB_BARRIER (Table 3-6)
      fd 0 8 .rw1c 0],
  rd 0x98 1 0x4 false [ -- CB_CLR (Table 3-6)
      fd 0 8 .wo 0]]

/-- Block registers of page 0x04, in offset order. -/
def htkRegs : List RegD := [
  rd 0x40 1 0x4 false [ -- HTK_DISP (Table 4-11)
      fdx 0 14 .rw 0x7d0 [(0, 10000)] true,
      fdx 16 13 .rw 0x400 [(0, 4096)] true],
  rd 0x44 1 0x4 false [ -- HTK_WDOG (Table 4-11)
      fdx 0 16 .rw 0x7d0 [(10, 65535)] true],
  rd 0x48 1 0x4 false [ -- HTK_ENG (Table 4-11)
      fdx 0 24 .rw 0xffffff [] true],
  rd 0x4c 1 0x4 false [ -- HTK_QFREE (Table 4-11)
      fd 0 17 .ro 0x10000],
  rd 0x50 1 0x4 false [ -- HTK_CNT (Table 4-11)
      fd 0 16 .ro 0,
      fd 16 16 .ro 0],
  rd 0xc4 1 0x4 true [ -- HTK_FLAGFLOW (Table 4-12)
      fdx 0 8 .rw 0 [(0, 239)] false],
  rd 0xc8 1 0x4 false [ -- HTK_FLAGSET (Table 4-12)
      fd 0 32 .wo 0],
  rd 0xcc 1 0x4 false [ -- HTK_FLAGCLR (Table 4-12)
      fd 0 32 .wo 0],
  rd 0xd0 1 0x4 false [ -- HTK_FLOWCMD (Table 4-12)
      fdx 0 8 .wo 0 [(0, 247)] false,
      fdx 8 2 .wo 0 [(1, 3)] false],
  rd 0xd4 1 0x4 false [ -- HTK_FAIL0 (Table 4-12)
      fd 0 8 .ro 0,
      fd 8 8 .ro 0,
      fd 16 16 .ro 0],
  rd 0xd8 1 0x4 false [ -- HTK_FAIL1 (Table 4-12)
      fd 0 4 .ro 0,
      fd 4 5 .ro 0x1f,
      fd 16 16 .ro 0]]

/-- Block registers of page 0x08, in offset order. -/
def fstRegs : List RegD := [
  rd 0x40 2 0x4 false [ -- FST_RXCFG (Table 5-11)
      fdx 0 14 .rw 0x1000 [(512, 8192)] true],
  rd 0x48 2 0x4 false [ -- FST_RXSTAT (Table 5-11)
      fd 0 14 .ro 0x1000,
      fd 16 14 .ro 0x1000],
  rd 0x50 1 0x4 false [ -- FST_ECC (Table 5-11)
      fd 0 16 .ro 0,
      fd 16 16 .ro 0],
  rd 0x54 1 0x4 false [ -- FST_UEADDR (Table 5-11)
      fd 0 28 .ro 0,
      fd 31 1 .rw1c 0],
  rd 0x58 1 0x4 false [ -- FST_LAYUSE (Table 5-11)
      fd 0 19 .ro 0],
  rd 0x5c 1 0x4 false [ -- FST_CLR (Table 5-11)
      fd 0 1 .wo 0,
      fd 1 1 .wo 0,
      fd 2 1 .wo 0],
  rd 0x60 2 0x20 false [ -- FST_NOBUF (Table 5-12)
      fd 0 32 .ro 0],
  rd 0x64 2 0x20 false [ -- FST_QFULL (Table 5-12)
      fd 0 32 .ro 0],
  rd 0x68 2 0x20 false [ -- FST_PARSE (Table 5-12)
      fd 0 32 .ro 0],
  rd 0x6c 2 0x20 false [ -- FST_BUSY (Table 5-12)
      fd 0 32 .ro 0],
  rd 0x70 2 0x20 false [ -- FST_NOSRC (Table 5-12)
      fd 0 32 .ro 0],
  rd 0x74 2 0x20 false [ -- FST_SEQ (Table 5-12)
      fd 0 32 .ro 0]]

/-- Block registers of page 0x09, in offset order. -/
def layRegs : List RegD := [
  rd 0x90 1 0x4 false [ -- LAY_PIN (Table 5-16)
      fdx 0 16 .rw 0x52c6 [(1, 65535)] true,
      fdx 16 1 .rw 0 [] true,
      fdx 17 1 .rw 0 [] true],
  rd 0x94 1 0x4 false [ -- LAY_E131CTL (Table 5-16)
      fdx 0 1 .rw 0 [] true,
      fdx 1 1 .rw 0 [] true,
      fdx 16 13 .rw 0x1f4 [(100, 5000)] true],
  rd 0x100 192 0x4 false [ -- LAY_FRAME (Table 5-18)
      fd 0 2 .st 0],
  rd 0x400 4 0x40 false [ -- LAY_SCTL (Table 5-19)
      fdx 0 1 .rw 0 [] true,
      fdx 1 1 .rw 0 [] true,
      fdx 2 8 .rw 0 [(0, 191)] true,
      fdx 10 2 .rw 0 [(0, 2)] true,
      fdx 12 2 .rw 1 [(0, 1)] true,
      fdx 14 1 .rw 0 [] true,
      fdx 15 1 .rw 0 [] true,
      fdx 16 16 .rw 0 [] true],
  rd 0x404 4 0x40 false [ -- LAY_SADDR0 (Table 5-19)
      fdx 0 32 .rw 0 [] true],
  rd 0x408 4 0x40 false [ -- LAY_SADDR1 (Table 5-19)
      fdx 0 32 .rw 0 [] true],
  rd 0x40c 4 0x40 false [ -- LAY_SADDR2 (Table 5-19)
      fdx 0 32 .rw 0 [] true],
  rd 0x410 4 0x40 false [ -- LAY_SADDR3 (Table 5-19)
      fdx 0 32 .rw 0 [] true],
  rd 0x414 4 0x40 false [ -- LAY_SGEOM (Table 5-19)
      fdx 0 14 .rw 0xf00 [(16, 3840)] true,
      fdx 16 14 .rw 0x870 [(16, 2160)] true],
  rd 0x418 4 0x40 false [ -- LAY_SRATE (Table 5-19)
      fdx 0 4 .rw 6 [(0, 7)] true],
  rd 0x41c 4 0x40 false [ -- LAY_SMOFS (Table 5-19)
      fdx 0 20 .rw 0 [(0, 1000000)] true],
  rd 0x420 4 0x40 false [ -- LAY_SSTAT (Table 5-19)
      fd 0 1 .ro 0,
      fd 16 16 .ro 0],
  rd 0x424 4 0x40 false [ -- LAY_SCNT (Table 5-19)
      fd 0 16 .ro 0,
      fd 16 16 .ro 0]]

/-- Block registers of page 0x06, in offset order. -/
def engRegs : List RegD := [
  rd 0x40 1 0x4 false [ -- ENG_RST (Table 6-10)
      fd 0 24 .wo 0],
  rd 0x44 1 0x4 false [ -- ENG_UP (Table 6-10)
      fd 0 24 .ro 0xffffff],
  rd 0x48 1 0x4 false [ -- ENG_FAULT (Table 6-10)
      fd 0 5 .ro 0x1f,
      fd 5 3 .ro 0,
      fd 16 16 .ro 0],
  rd 0x4c 1 0x4 false [ -- ENG_CNT0 (Table 6-10)
      fd 0 16 .ro 0,
      fd 16 16 .ro 0],
  rd 0x50 1 0x4 false [ -- ENG_CNT1 (Table 6-10)
      fd 0 16 .ro 0,
      fd 16 16 .ro 0],
  rd 0x54 1 0x4 false [ -- ENG_CLR (Table 6-10)
      fd 0 1 .wo 0]]

/-- Block registers of page 0x0B, in offset order. -/
def mapRegs : List RegD := [
  rd 0x70 1 0x4 false [ -- MAP_STAT (Table 6-13)
      fd 0 25 .ro 0],
  rd 0x74 1 0x4 false [ -- MAP_EPUSE (Table 6-13)
      fd 0 26 .ro 0]]

/-- Block registers of page 0x0D, in offset order. -/
def tdmRegs : List RegD := [
  rd 0x40 4 0x40 false [ -- TDM_CTL (Table 7-9)
      fdx 0 1 .st 0 [] true,
      fdx 1 2 .st 0 [(0, 2)] true],
  rd 0x44 4 0x40 false [ -- TDM_RATE (Table 7-9)
      fdx 0 8 .st 0x3c [(1, 240)] true,
      fdx 8 1 .st 0 [] true,
      fdx 16 16 .st 0x320 [(1, 65535)] true],
  rd 0x48 4 0x40 false [ -- TDM_LEAD (Table 7-9)
      fdx 0 17 .st 0x2ee0 [(2000, 100000)] true],
  rd 0x4c 4 0x40 false [ -- TDM_GUARD (Table 7-9)
      fdx 0 11 .st 0x1f4 [(100, 2000)] true,
      fdx 16 16 .st 0x7d0 [(500, 50000)] true],
  rd 0x50 4 0x40 false [ -- TDM_PHASE (Table 7-9)
      fdx 0 30 .st 0 [(0, 999999999)] true],
  rd 0x54 4 0x40 false [ -- TDM_ACT_NS (Table 7-9)
      fdx 0 30 .st 0 [(0, 999999999)] false],
  rd 0x58 4 0x40 false [ -- TDM_ACT_S (Table 7-9)
      fd 0 32 .st 0],
  rd 0x5c 4 0x40 false [ -- TDM_STAT (Table 7-9)
      fd 0 1 .ro 0,
      fd 1 1 .ro 0,
      fd 2 1 .ro 0,
      fd 16 16 .ro 0],
  rd 0x60 4 0x40 false [ -- TDM_EP_LO (Table 7-9)
      fd 0 32 .ro 0],
  rd 0x64 4 0x40 false [ -- TDM_EP_HI (Table 7-9)
      fd 0 32 .ro 0],
  rd 0x68 4 0x40 false [ -- TDM_LN_NS (Table 7-9)
      fd 0 30 .ro 0],
  rd 0x6c 4 0x40 false [ -- TDM_LN_S (Table 7-9)
      fd 0 32 .ro 0],
  rd 0x70 4 0x40 false [ -- TDM_LATE (Table 7-9)
      fd 0 16 .ro 0],
  rd 0x140 1 0x4 false [ -- TDM_LATEREC (Table 7-10)
      fd 0 2 .ro 0,
      fd 8 8 .ro 0,
      fd 16 4 .ro 0,
      fd 31 1 .rw1c 0],
  rd 0x1c0 1 0x4 true [ -- TDM_QARM0 (Table 7-12)
      fd 0 12 .rw 0,
      fdx 12 3 .rw 0 [(0, 4)] false],
  rd 0x1c4 1 0x4 true [ -- TDM_QARM1 (Table 7-12)
      fd 0 32 .rw 0],
  rd 0x1c8 1 0x4 true [ -- TDM_QARM2 (Table 7-12)
      fd 0 32 .rw 0],
  rd 0x1cc 1 0x4 false [ -- TDM_QARMOP (Table 7-12)
      fd 0 1 .wo 0],
  rd 0x1d0 1 0x4 false [ -- TDM_QPEND (Table 7-12)
      fd 0 13 .ro 0]]

/-- Block registers of page 0x0A, in offset order. -/
def srfRegs : List RegD := [
  rd 0x100 64 0x10 false [ -- SRF_CTL (Table 7-15)
      fd 0 1 .st 0,
      fdx 1 1 .st 1 [] true,
      fdx 2 2 .st 0 [] true,
      fdx 16 7 .st 0x10 [(1, 64)] true],
  rd 0x104 64 0x10 false [ -- SRF_HOLD (Table 7-15)
      fdx 0 16 .st 0x78 [(1, 65535)] true,
      fdx 16 16 .st 0x3c [(1, 65535)] true],
  rd 0x108 64 0x10 false [ -- SRF_STAT (Table 7-15)
      fd 0 2 .ro 0,
      fd 2 1 .rw1c 0,
      fd 8 8 .ro 0,
      fd 16 16 .ro 0],
  rd 0x10c 64 0x10 false [ -- SRF_CNT (Table 7-15)
      fd 0 16 .ro 0,
      fd 16 16 .ro 0]]

/-- Block registers of page 0x0E, in offset order. -/
def chkRegs : List RegD := [
  rd 0x60 1 0x4 true [ -- CHK_XRECT (Table 7-18)
      fd 0 6 .rw 0],
  rd 0x64 1 0x4 true [ -- CHK_XEP (Table 7-18)
      fd 0 32 .rw 0],
  rd 0x68 1 0x4 true [ -- CHK_XCRC (Table 7-18)
      fd 0 32 .rw 0],
  rd 0x6c 1 0x4 false [ -- CHK_XOP (Table 7-18)
      fd 0 1 .wo 0,
      fd 1 1 .wo 0],
  rd 0x70 1 0x4 false [ -- CHK_ECHOTO (Table 7-18)
      fdx 0 16 .rw 0x7d0 [(100, 50000)] true]]

/-- Block registers of pages PB, in offset order. -/
def portCounterRegs : List RegD := [
  rd 0x60 1 0x4 false [ -- PP_SENT (Table 8-13)
      fd 0 32 .ro 0],
  rd 0x64 1 0x4 false [ -- PP_DEFERRED (Table 8-13)
      fd 0 32 .ro 0],
  rd 0x68 1 0x4 false [ -- PP_MISSED (Table 8-13)
      fd 0 32 .ro 0],
  rd 0x6c 1 0x4 false [ -- PP_LATE0 (Table 8-13)
      fd 0 32 .ro 0],
  rd 0x70 1 0x4 false [ -- PP_ORDER (Table 8-13)
      fd 0 32 .ro 0],
  rd 0x74 1 0x4 false [ -- PP_DOWN (Table 8-13)
      fd 0 32 .ro 0],
  rd 0x78 1 0x4 false [ -- PP_NOREPLY (Table 8-13)
      fd 0 32 .ro 0],
  rd 0x7c 1 0x4 false [ -- PP_DUP (Table 8-13)
      fd 0 32 .ro 0],
  rd 0x80 1 0x4 false [ -- PP_NOROOM (Table 8-13)
      fd 0 32 .ro 0]]

/-- Block registers of pages MAC, in offset order. -/
def macCounterRegs : List RegD := [
  rd 0x440 1 0x4 false [ -- MAC_RXOK (Table 9-10)
      fd 0 32 .ro 0],
  rd 0x444 1 0x4 false [ -- MAC_RXRUNT (Table 9-10)
      fd 0 32 .ro 0],
  rd 0x448 1 0x4 false [ -- MAC_RXGIANT (Table 9-10)
      fd 0 32 .ro 0],
  rd 0x44c 1 0x4 false [ -- MAC_RXFCS (Table 9-10)
      fd 0 32 .ro 0],
  rd 0x450 1 0x4 false [ -- MAC_RXFILT (Table 9-10)
      fd 0 32 .ro 0],
  rd 0x454 1 0x4 false [ -- MAC_RXPAUSE (Table 9-10)
      fd 0 32 .ro 0],
  rd 0x458 1 0x4 false [ -- MAC_RXAUTH (Table 9-10)
      fd 0 32 .ro 0],
  rd 0x45c 1 0x4 false [ -- MAC_RXETYPE (Table 9-10)
      fd 0 32 .ro 0],
  rd 0x460 1 0x4 false [ -- MAC_RXFENCE (Table 9-10)
      fd 0 32 .ro 0],
  rd 0x464 1 0x4 false [ -- MAC_RXNOBUF (Table 9-10)
      fd 0 32 .ro 0],
  rd 0x468 1 0x4 false [ -- MAC_TXOK (Table 9-10)
      fd 0 32 .ro 0],
  rd 0x46c 1 0x4 false [ -- MAC_TXPAUSE (Table 9-10)
      fd 0 32 .ro 0],
  rd 0x470 1 0x4 false [ -- MAC_TXDROP (Table 9-10)
      fd 0 32 .ro 0],
  rd 0x474 1 0x4 false [ -- MAC_PAUSEUS (Table 9-10)
      fd 0 32 .ro 0],
  rd 0x478 1 0x4 false [ -- MAC_COLL (Table 9-10)
      fd 0 32 .ro 0],
  rd 0x47c 1 0x4 false [ -- MAC_LATECOLL (Table 9-10)
      fd 0 32 .ro 0],
  rd 0x480 1 0x4 false [ -- MAC_EXCOLL (Table 9-10)
      fd 0 32 .ro 0]]

/-- Block registers of page 0x30, in offset order. -/
def drvRegs : List RegD := [
  rd 0x40 1 0x4 false [ -- DRV_CTL (Table 10-9)
      fdx 0 2 .rw 0 [] true,
      fd 2 1 .rw 0,
      fdx 16 16 .rw 0 [] true],
  rd 0x44 1 0x4 false [ -- DRV_RAIL (Table 10-9)
      fdx 0 6 .rw 0xa [(5, 50)] true,
      fdx 8 6 .rw 0x32 [(5, 50)] true],
  rd 0x48 1 0x4 false [ -- DRV_PWM (Table 10-9)
      fdx 0 11 .rw 0x190 [(16, 1024)] true],
  rd 0x4c 1 0x4 false [ -- DRV_VMX (Table 10-9)
      fdx 0 10 .rw 0x1f4 [(300, 550)] true],
  rd 0x50 1 0x4 false [ -- DRV_DERATE (Table 10-9)
      fdx 0 7 .rw 0x41 [(40, 74)] true,
      fdx 8 7 .rw 0x4b [(41, 75)] true,
      fdx 16 9 .rw 0x1e0 [(0, 480)] true],
  rd 0x54 1 0x4 false [ -- DRV_FACTOR (Table 10-9)
      fd 0 9 .ro 0x100,
      fd 9 1 .ro 0,
      fd 10 1 .ro 0,
      fd 11 1 .ro 0],
  rd 0x58 1 0x4 false [ -- DRV_DARK (Table 10-9)
      fd 0 6 .ro 1],
  rd 0x5c 1 0x4 false [ -- DRV_FCLR (Table 10-9)
      fd 0 4 .wo 0,
      fd 4 1 .wo 0],
  rd 0x60 4 0x4 false [ -- DRV_RAILS (Table 10-10)
      fd 0 14 .ro 0,
      fd 14 1 .ro 0,
      fd 15 1 .ro 0,
      fd 16 14 .ro 0],
  rd 0x70 4 0x4 false [ -- DRV_RPWR (Table 10-10)
      fd 0 16 .ro 0,
      fd 16 16 .ro 0],
  rd 0x80 1 0x4 false [ -- DRV_MXSUP (Table 10-10)
      fd 0 10 .ro 0,
      fd 15 1 .ro 0,
      fd 16 14 .ro 0],
  rd 0x84 1 0x4 false [ -- DRV_LCNT0 (Table 10-10)
      fd 0 16 .ro 0,
      fd 16 16 .ro 0],
  rd 0x88 1 0x4 false [ -- DRV_LCNT1 (Table 10-10)
      fd 0 16 .ro 0,
      fd 16 16 .ro 0],
  rd 0x8c 1 0x4 false [ -- DRV_LCNT2 (Table 10-10)
      fd 0 16 .ro 0,
      fd 16 16 .ro 0],
  rd 0x90 1 0x4 false [ -- DRV_CLR (Table 10-10)
      fd 0 1 .wo 0]]

/-- Block registers of pages MX, in offset order. -/
def mxRegs : List RegD := [
  rd 0x40 1 0x4 false [ -- MX_CFG (Table 10-13)
      fdx 0 1 .st 0 [] true,
      fdx 1 6 .st 0x20 [(1, 32)] true,
      fdx 8 4 .st 2 [(1, 8)] true,
      fdx 16 1 .st 1 [] true],
  rd 0x44 1 0x4 false [ -- MX_BLANK (Table 10-13)
      fdx 0 11 .st 0x190 [(100, 2000)] true],
  rd 0x48 1 0x4 false [ -- MX_ICOL (Table 10-13)
      fdx 0 8 .st 0x50 [(8, 160)] true,
      fdx 8 8 .st 0x50 [(8, 160)] true,
      fdx 16 8 .st 0x50 [(8, 160)] true],
  rd 0x4c 1 0x4 false [ -- MX_BASE (Table 10-13)
      fdx 0 27 .st 0 [] true],
  rd 0x60 1 0x4 false [ -- MX_STAT (Table 10-13)
      fd 16 16 .ro 0],
  rd 0x64 1 0x4 false [ -- MX_PASS (Table 10-13)
      fd 0 18 .ro 0],
  rd 0x68 1 0x4 false [ -- MX_CNT (Table 10-13)
      fd 0 16 .ro 0,
      fd 16 16 .ro 0],
  rd 0x70 6 0x4 false [ -- MX_COPEN (Table 10-13)
      fd 0 32 .ro 0],
  rd 0x88 6 0x4 false [ -- MX_CSHORT (Table 10-13)
      fd 0 32 .ro 0],
  rd 0xa0 1 0x4 false [ -- MX_LSHORT (Table 10-13)
      fd 0 32 .ro 0],
  rd 0xa4 1 0x4 false [ -- MX_FCLR (Table 10-13)
      fd 0 1 .wo 0,
      fd 1 1 .wo 0]]

/-- Block registers of page 0x38, in offset order. -/
def mtrRegs : List RegD := [
  rd 0x40 1 0x4 false [ -- MTR_CTL (Table 11-12)
      fdx 0 1 .rw 0 [] true,
      fdx 1 3 .rw 3 [(0, 5)] true,
      fdx 16 16 .rw 0x64 [(25, 6000)] true],
  rd 0x44 1 0x4 false [ -- MTR_NOM (Table 11-12)
      fdx 0 16 .rw 0x8fc [(577, 2770)] true,
      fdx 16 16 .rw 0x64 [(1, 6000)] true],
  rd 0x48 1 0x4 false [ -- MTR_NOLOAD (Table 11-12)
      fdx 0 10 .rw 0x64 [(1, 1000)] true,
      fdx 16 10 .rw 0x64 [(1, 1000)] true],
  rd 0x4c 2 0x4 false [ -- MTR_PO (Table 11-12)
      fdx 0 7 .rw 0x7f [(0, 31), (127, 127)] true,
      fdx 8 8 .rw 0x32 [(30, 100)] true,
      fd 16 16 .ro 0],
  rd 0x54 1 0x4 false [ -- MTR_SEAL (Table 11-12)
      fd 0 1 .ro 1,
      fd 1 1 .wo 0,
      fd 16 16 .ro 0],
  rd 0x58 1 0x4 false [ -- MTR_BUF (Table 11-12)
      fd 0 17 .ro 0],
  rd 0x5c 1 0x4 false [ -- MTR_LOST (Table 11-12)
      fd 0 32 .ro 0]]

/-- Block registers of page 0x39, in offset order. -/
def meaRegs : List RegD := [
  rd 0x40 1 0x4 false [ -- MEA_CTL (Table 11-14)
      fd 0 1 .rw 0],
  rd 0x44 1 0x4 false [ -- MEA_TNS (Table 11-14)
      fd 0 30 .ro 0],
  rd 0x48 1 0x4 false [ -- MEA_TS (Table 11-14)
      fd 0 32 .ro 0],
  rd 0x60 4 0x20 false [ -- MEA_VRMS (Table 11-14)
      fd 0 32 .ro 0],
  rd 0x64 4 0x20 false [ -- MEA_IRMS (Table 11-14)
      fd 0 32 .ro 0],
  rd 0x68 4 0x20 false [ -- MEA_P (Table 11-14)
      fd 0 32 .ro 0],
  rd 0x6c 4 0x20 false [ -- MEA_P1 (Table 11-14)
      fd 0 32 .ro 0],
  rd 0x70 4 0x20 false [ -- MEA_Q1 (Table 11-14)
      fd 0 32 .ro 0],
  rd 0x74 4 0x20 false [ -- MEA_S (Table 11-14)
      fd 0 32 .ro 0],
  rd 0x78 4 0x20 false [ -- MEA_PF (Table 11-14)
      fd 0 16 .ro 0],
  rd 0xe0 1 0x4 false [ -- MEA_FREQ (Table 11-14)
      fd 0 20 .ro 0,
      fd 20 1 .ro 0],
  rd 0xe4 1 0x4 false [ -- MEA_INRMS (Table 11-14)
      fd 0 32 .ro 0],
  rd 0xe8 1 0x4 false [ -- MEA_J1V (Table 11-14)
      fd 0 32 .ro 0],
  rd 0xec 1 0x4 false [ -- MEA_J1I (Table 11-14)
      fd 0 32 .ro 0],
  rd 0xf0 1 0x4 false [ -- MEA_J1P (Table 11-14)
      fd 0 32 .ro 0]]

/-- Block registers of page 0x28, in offset order. -/
def clkRegs : List RegD := [
  rd 0x40 1 0x4 false [ -- CLK_CTL (Table 12-8)
      fd 0 1 .rw 0,
      fdx 1 1 .rw 0 [] true,
      fdx 2 1 .rw 0 [] true,
      fd 3 1 .wo 0],
  rd 0x44 1 0x4 false [ -- CLK_SEL (Table 12-8)
      fdx 0 3 .rw 1 [(0, 3)] true,
      fdx 4 3 .rw 2 [(0, 3)] true,
      fdx 8 3 .rw 0 [(0, 3)] true,
      fdx 16 12 .rw 0xa [(0, 3600)] true],
  rd 0x48 1 0x4 false [ -- CLK_SERVO (Table 12-8)
      fdx 0 16 .rw 0x3e8 [(10, 65535)] true,
      fdx 16 16 .rw 0x258 [(60, 65535)] true],
  rd 0x4c 1 0x4 false [ -- CLK_INC (Table 12-8)
      fdx 0 32 .rw 0x8000000 [(134150619, 134284837)] false],
  rd 0x50 1 0x4 false [ -- CLK_SLEW (Table 12-8)
      fdx 0 32 .wo 0 [(0, 100000000), (4194967296, 4294967295)] false],
  rd 0x54 1 0x4 false [ -- CLK_SLEWCFG (Table 12-8)
      fdx 0 9 .rw 0x64 [(1, 500)] true],
  rd 0x58 1 0x4 false [ -- CLK_SLEWLEFT (Table 12-8)
      fd 0 32 .ro 0],
  rd 0x5c 1 0x4 true [ -- CLK_STEPNS (Table 12-9)
      fdx 0 30 .rw 0 [(0, 999999999)] false],
  rd 0x60 1 0x4 true [ -- CLK_STEPSLO (Table 12-9)
      fd 0 32 .rw 0],
  rd 0x64 1 0x4 true [ -- CLK_STEPSHI (Table 12-9)
      fd 0 16 .rw 0],
  rd 0x68 1 0x4 false [ -- CLK_STEPOP (Table 12-9)
      fd 0 1 .wo 0,
      fd 1 1 .wo 0],
  rd 0x70 1 0x4 false [ -- CLK_NOWNS (Table 12-9)
      fd 0 30 .ro 0],
  rd 0x74 1 0x4 true [ -- CLK_NOWSLO (Table 12-9)
      fd 0 32 .ro 0],
  rd 0x78 1 0x4 true [ -- CLK_NOWSHI (Table 12-9)
      fd 0 16 .ro 0],
  rd 0x7c 1 0x4 false [ -- CLK_OFS (Table 12-9)
      fd 0 32 .ro 0],
  rd 0x80 1 0x4 false [ -- CLK_INCAVG (Table 12-9)
      fd 0 32 .ro 0x8000000],
  rd 0x84 1 0x4 false [ -- CLK_HOLDS (Table 12-9)
      fd 0 32 .ro 0]]

/-- Block registers of page 0x29, in offset order. -/
def ptpRegs : List RegD := [
  rd 0x40 1 0x4 false [ -- PTP_U (Table 12-10)
      fdx 0 8 .rw 0x7f [] true,
      fdx 8 1 .rw 0 [] true,
      fdx 9 1 .rw 0 [] true,
      fdx 10 1 .rw 0 [] true],
  rd 0x44 1 0x4 false [ -- PTP_H (Table 12-10)
      fdx 0 8 .rw 0 [] true,
      fdx 8 8 .rw 0x80 [] true,
      fdx 16 8 .rw 0x80 [] true,
      fdx 24 1 .rw 0 [] true,
      fdx 25 1 .rw 0 [] true,
      fdx 26 1 .rw 0 [] true],
  rd 0x48 1 0x4 false [ -- PTP_N (Table 12-10)
      fdx 0 8 .rw 0 [] true,
      fdx 8 4 .rw 0xc [(0, 0), (9, 15)] true,
      fdx 12 4 .rw 0 [(0, 1), (14, 15)] true,
      fdx 16 8 .rw 0 [] true,
      fdx 24 8 .rw 0 [] true],
  rd 0x4c 1 0x4 false [ -- PTP_BDLY (Table 12-10)
      fdx 0 10 .rw 0x7d [(0, 1000)] true],
  rd 0x60 2 0x4 false [ -- PTP_GMID (Table 12-10)
      fd 0 32 .ro 0],
  rd 0x68 1 0x4 false [ -- PTP_GMQ (Table 12-10)
      fd 0 8 .ro 0xf8,
      fd 8 8 .ro 0xfe,
      fd 16 16 .ro 0],
  rd 0x6c 1 0x4 false [ -- PTP_UTC (Table 12-10)
      fd 0 16 .ro 0,
      fd 16 1 .ro 0,
      fd 17 1 .ro 0,
      fd 18 1 .ro 0]]

/-- Block registers of page 0x2A, in offset order. -/
def tioRegs : List RegD := [
  rd 0x40 1 0x4 false [ -- TIO_LTC (Table 12-12)
      fdx 0 1 .rw 0 [] true,
      fdx 1 2 .rw 1 [] true,
      fdx 16 16 .rw 0 [] true],
  rd 0x44 1 0x4 false [ -- TIO_LTCSTAT (Table 12-12)
      fd 0 22 .ro 0,
      fd 22 1 .ro 0,
      fd 23 1 .ro 0],
  rd 0x48 1 0x4 false [ -- TIO_LTCERR (Table 12-12)
      fd 0 32 .ro 0],
  rd 0x4c 1 0x4 false [ -- TIO_WCLK (Table 12-12)
      fdx 0 1 .rw 0 [] true,
      fdx 16 16 .rw 0 [] true],
  rd 0x50 1 0x4 false [ -- TIO_WCLKPER (Table 12-12)
      fd 0 24 .ro 0,
      fd 24 1 .ro 0,
      fd 25 1 .ro 0],
  rd 0x54 1 0x4 false [ -- TIO_PPSIN (Table 12-12)
      fdx 0 1 .rw 0 [] true,
      fdx 1 1 .rw 0 [] true,
      fdx 16 16 .rw 0 [] true],
  rd 0x58 1 0x4 false [ -- TIO_PPSOUT (Table 12-12)
      fdx 0 1 .rw 0 [] true,
      fdx 1 1 .rw 0 [] true,
      fdx 2 10 .rw 0x64 [(1, 500)] true,
      fdx 16 16 .rw 0 [] true],
  rd 0x5c 1 0x4 false [ -- TIO_PPSERR (Table 12-12)
      fd 0 32 .ro 0]]

/-- Block registers of pages HB, in offset order. -/
def hbRegs : List RegD := [
  rd 0x40 1 0x4 false [ -- HB_PORT (Table 13-9)
      fd 0 2 .ro 0,
      fd 8 8 .ro 0],
  rd 0x44 2 0x4 false [ -- HB_NSER (Table 13-9)
      fd 0 32 .ro 0],
  rd 0x4c 1 0x4 false [ -- HB_CLR (Table 13-9)
      fd 0 1 .wo 0],
  rd 0x60 1 0x4 false [ -- HB_FWD (Table 13-10)
      fd 0 32 .ro 0],
  rd 0x64 1 0x4 false [ -- HB_DUP (Table 13-10)
      fd 0 32 .ro 0],
  rd 0x68 1 0x4 false [ -- HB_WRAP (Table 13-10)
      fd 0 32 .ro 0],
  rd 0x6c 1 0x4 false [ -- HB_LATE (Table 13-10)
      fd 0 32 .ro 0],
  rd 0x70 1 0x4 false [ -- HB_UPDRTY (Table 13-10)
      fd 0 32 .ro 0],
  rd 0x74 1 0x4 false [ -- HB_MISWIRE (Table 13-10)
      fd 0 32 .ro 0],
  rd 0x100 1 0x4 false [ -- HB_CTL (Table 13-11)
      fdx 0 1 .rw 0 [] true,
      fdx 1 1 .rw 0 [] true,
      fdx 16 16 .rw 0x88b5 [(1536, 65535)] true],
  rd 0x104 1 0x4 false [ -- HB_ADDR (Table 13-11)
      fd 0 8 .ro 0,
      fdx 8 8 .ro 0 [] true,
      fd 16 2 .ro 0,
      fd 18 1 .ro 0],
  rd 0x108 1 0x4 false [ -- HB_SVC (Table 13-11)
      fd 0 8 .ro 0,
      fd 8 1 .ro 0],
  rd 0x10c 1 0x4 false [ -- HB_RING (Table 13-11)
      fd 0 2 .ro 0,
      fd 8 8 .ro 0,
      fd 16 8 .ro 0,
      fd 24 1 .ro 0],
  rd 0x110 1 0x4 false [ -- HB_EVDST (Table 13-11)
      fdx 0 8 .rw 0 [] true,
      fdx 8 8 .rw 0 [] true],
  rd 0x114 1 0x4 false [ -- HB_EVLOST (Table 13-11)
      fd 0 32 .ro 0],
  rd 0x160 1 0x4 false [ -- HB_EVQ0 (Table 13-12)
      fd 0 8 .ro 0,
      fd 8 3 .ro 0,
      fd 31 1 .ro 0],
  rd 0x164 1 0x4 false [ -- HB_EVQ1 (Table 13-12)
      fd 0 32 .ro 0],
  rd 0x168 1 0x4 false [ -- HB_EVQ2 (Table 13-12)
      fd 0 30 .ro 0],
  rd 0x16c 1 0x4 false [ -- HB_EVQ3 (Table 13-12)
      fd 0 32 .ro 0],
  rd 0x170 1 0x4 false [ -- HB_EVPOP (Table 13-12)
      fd 0 1 .wo 0],
  rd 0x800 1 0x4 true [ -- HB_RA_DST (Table 2-17)
      fdx 0 8 .rw 0 [(1, 255)] false],
  rd 0x804 1 0x4 true [ -- HB_RA_ADDR (Table 2-17)
      fd 0 24 .rw 0,
      fd 24 4 .rw 0],
  rd 0x808 1 0x4 false [ -- HB_RA_OP (Table 2-17)
      fd 0 1 .wo 0,
      fd 1 1 .wo 0],
  rd 0x80c 1 0x4 true [ -- HB_RA_STAT (Table 2-17)
      fd 0 8 .ro 0,
      fd 8 1 .ro 0,
      fd 16 16 .ro 0],
  rd 0x840 16 0x4 true [ -- HB_RA_DATA (Table 2-17)
      fd 0 32 .rw 0]]

/-- Block registers of page 0x24, in offset order. -/
def mirRegs : List RegD := [
  rd 0x40 1 0x4 false [ -- MIR_CFG (Table 14-11)
      fdx 0 1 .rw 0 [] true,
      fdx 1 1 .rw 0 [] true,
      fdx 2 1 .rw 0 [] true,
      fdx 3 2 .rw 0 [] true,
      fdx 16 16 .rw 0x88b5 [(1536, 65535)] true],
  rd 0x44 2 0x4 false [ -- MIR_PAIR (Table 14-11)
      fdx 0 32 .rw 0 [] true],
  rd 0x4c 2 0x4 false [ -- MIR_PEER (Table 14-11)
      fdx 0 32 .rw 0 [] true],
  rd 0x54 1 0x4 false [ -- MIR_TIMING (Table 14-11)
      fdx 0 11 .rw 0x1f4 [(50, 2000)] true,
      fdx 16 16 .rw 0x7d0 [(100, 60000)] true],
  rd 0x58 1 0x4 false [ -- MIR_REVERT (Table 14-11)
      fdx 0 17 .rw 0x12c [(30, 86400)] true],
  rd 0x5c 1 0x4 false [ -- MIR_DIAG (Table 14-11)
      fdx 0 7 .rw 0x7f [] true,
      fdx 8 8 .rw 8 [(1, 255)] true,
      fdx 16 8 .rw 1 [(1, 255)] true],
  rd 0x60 1 0x4 false [ -- MIR_CMD (Table 14-11)
      fd 0 1 .wo 0,
      fd 1 1 .wo 0],
  rd 0x70 1 0x4 false [ -- MIR_EPOCH (Table 14-12)
      fd 0 32 .ro 0],
  rd 0x74 1 0x4 false [ -- MIR_RESV (Table 14-12)
      fd 0 32 .ro 0],
  rd 0x78 1 0x4 false [ -- MIR_HEALTH (Table 14-12)
      fd 0 32 .ro 0x800],
  rd 0x7c 1 0x4 false [ -- MIR_PHEALTH (Table 14-12)
      fd 0 32 .ro 0],
  rd 0x80 1 0x4 false [ -- MIR_TKOVER (Table 14-12)
      fd 0 3 .ro 0,
      fd 8 2 .ro 0],
  rd 0x84 1 0x4 false [ -- MIR_CNT0 (Table 14-12)
      fd 0 16 .ro 0,
      fd 16 16 .ro 0],
  rd 0x88 1 0x4 false [ -- MIR_CNT1 (Table 14-12)
      fd 0 8 .ro 0,
      fd 8 8 .ro 0,
      fd 16 8 .ro 0,
      fd 24 8 .ro 0],
  rd 0x8c 1 0x4 false [ -- MIR_LAG (Table 14-12)
      fd 0 16 .ro 0,
      fd 16 16 .ro 0],
  rd 0x90 1 0x4 false [ -- MIR_CLR (Table 14-12)
      fd 0 1 .wo 0]]

/-- Block registers of page 0x40, in offset order. -/
def linRegs : List RegD := [
  rd 0x40 1 0x4 false [ -- LIN_CFG (Table 15-7)
      fdx 0 11 .rw 0x3c [(10, 1440)] true,
      fdx 16 5 .rw 8 [(1, 16)] true],
  rd 0x44 1 0x4 false [ -- LIN_PLACE (Table 15-7)
      fd 0 2 .ro 2,
      fd 2 2 .ro 1],
  rd 0x48 1 0x4 false [ -- LIN_NEXTLO (Table 15-7)
      fd 0 32 .ro 0],
  rd 0x4c 1 0x4 false [ -- LIN_NEXTHI (Table 15-7)
      fd 0 16 .ro 0],
  rd 0x50 1 0x4 false [ -- LIN_DURLO (Table 15-7)
      fd 0 32 .ro 0],
  rd 0x54 1 0x4 false [ -- LIN_DURHI (Table 15-7)
      fd 0 16 .ro 0],
  rd 0x58 1 0x4 false [ -- LIN_CKLO (Table 15-7)
      fd 0 32 .ro 0],
  rd 0x5c 1 0x4 false [ -- LIN_CKHI (Table 15-7)
      fd 0 16 .ro 0],
  rd 0x60 1 0x4 false [ -- LIN_ACKLO (Table 15-7)
      fd 0 32 .rw 0],
  rd 0x64 1 0x4 false [ -- LIN_ACKHI (Table 15-7)
      fd 0 16 .rw 0],
  rd 0x68 1 0x4 false [ -- LIN_OLDLO (Table 15-7)
      fd 0 32 .ro 0],
  rd 0x6c 1 0x4 false [ -- LIN_OLDHI (Table 15-7)
      fd 0 16 .ro 0],
  rd 0x70 1 0x4 false [ -- LIN_USE (Table 15-7)
      fd 0 11 .ro 0,
      fd 16 6 .ro 0],
  rd 0x74 1 0x4 false [ -- LIN_FAIL (Table 15-7)
      fd 0 4 .ro 0,
      fd 8 8 .ro 0,
      fd 31 1 .rw1c 0],
  rd 0x78 1 0x4 false [ -- LIN_CNT0 (Table 15-7)
      fd 0 16 .ro 0,
      fd 16 16 .ro 0],
  rd 0x7c 1 0x4 false [ -- LIN_CNT1 (Table 15-7)
      fd 0 16 .ro 0,
      fd 16 16 .ro 0],
  rd 0x80 1 0x4 false [ -- LIN_CMD (Table 15-7)
      fd 0 1 .wo 0],
  rd 0xa0 1 0x4 true [ -- LIN_RSLO (Table 15-8)
      fd 0 32 .rw 0],
  rd 0xa4 1 0x4 true [ -- LIN_RSHI (Table 15-8)
      fd 0 16 .rw 0,
      fdx 16 7 .rw 0 [(0, 64)] false,
      fd 23 1 .rw 0],
  rd 0xa8 1 0x4 false [ -- LIN_ROP (Table 15-8)
      fd 0 1 .wo 0],
  rd 0xac 1 0x4 true [ -- LIN_RSTAT (Table 15-8)
      fd 0 1 .ro 0,
      fd 8 8 .ro 0,
      fd 16 13 .ro 0],
  rd 0xc0 16 0x4 true [ -- LIN_RDATA (Table 15-8)
      fd 0 32 .ro 0]]

/-- Block registers of page 0x44, in offset order. -/
def gntRegs : List RegD := [
  rd 0x40 1 0x4 false [ -- GNT_LEVEL (Table 16-9)
      fd 0 3 .ro 0],
  rd 0x44 1 0x4 false [ -- GNT_SENSE (Table 16-9)
      fd 0 9 .ro 0],
  rd 0x48 1 0x4 false [ -- GNT_TRIP (Table 16-9)
      fd 0 9 .rw1c 0],
  rd 0x4c 1 0x4 false [ -- GNT_CTL (Table 16-9)
      fd 0 1 .ro 0,
      fd 8 8 .ro 0],
  rd 0x50 1 0x4 false [ -- GNT_TIMELO (Table 16-9)
      fd 0 32 .ro 0],
  rd 0x54 1 0x4 false [ -- GNT_TIMEHI (Table 16-9)
      fd 0 16 .ro 0],
  rd 0x58 1 0x4 false [ -- GNT_SVN (Table 16-9)
      fd 0 32 .ro 0],
  rd 0x5c 1 0x4 false [ -- GNT_BOOT (Table 16-9)
      fd 0 1 .ro 0,
      fd 1 1 .ro 0,
      fd 2 1 .ro 0],
  rd 0x60 9 0x4 false [ -- GNT_POL (Table 16-9)
      fdx 0 3 .rw 0 [(0, 4)] false,
      fd 16 10 .rw 0],
  rd 0x90 2 0x4 false [ -- GNT_NONCE (Table 16-9)
      fd 0 32 .ro 0],
  rd 0x98 1 0x4 false [ -- GNT_CMDOP (Table 16-9)
      fd 0 1 .wo 0],
  rd 0x9c 1 0x4 false [ -- GNT_CMDSTAT (Table 16-9)
      fd 0 8 .ro 0],
  rd 0x100 56 0x4 true [ -- GNT_CDATA (Table 16-9)
      fd 0 32 .rw 0]]

/-- Block registers of page 0x45, in offset order. -/
def keyRegs : List RegD := [
  rd 0xb0 1 0x4 false [ -- KEY_STAT (Table 16-10)
      fd 0 32 .ro 0]]

/-- Block registers of page 0x46, in offset order. -/
def secRegs : List RegD := [
  rd 0x40 5 0x10 false [ -- SEC_CFG (Table 16-11)
      fdx 0 1 .rw 0 [] true,
      fdx 8 8 .rw 0x10 [] true,
      fdx 16 16 .rw 0 [(0, 0), (60, 65535)] true],
  rd 0x44 5 0x10 false [ -- SEC_STAT (Table 16-11)
      fd 0 3 .ro 0,
      fd 3 1 .ro 0,
      fd 8 2 .ro 0,
      fd 16 16 .ro 0]]

/-- Block registers of page 0x48, in offset order. -/
def updRegs : List RegD := [
  rd 0x40 1 0x4 false [ -- UPD_CTL (Table 17-9)
      fdx 0 1 .rw 0 [] true],
  rd 0x44 1 0x4 false [ -- UPD_CMD (Table 17-9)
      fd 0 1 .wo 0,
      fd 1 1 .wo 0,
      fd 2 1 .wo 0],
  rd 0x48 1 0x4 false [ -- UPD_ACTNS (Table 17-9)
      fdx 0 30 .rw 0 [(0, 999999999)] false],
  rd 0x4c 1 0x4 false [ -- UPD_ACTS (Table 17-9)
      fd 0 32 .rw 0],
  rd 0x50 1 0x4 false [ -- UPD_STAT (Table 17-9)
      fd 0 4 .ro 0,
      fd 8 4 .ro 0],
  rd 0x54 1 0x4 false [ -- UPD_IMG (Table 17-9)
      fd 0 32 .ro 0],
  rd 0x58 1 0x4 false [ -- UPD_SVN (Table 17-9)
      fd 0 32 .ro 0],
  rd 0x5c 1 0x4 false [ -- UPD_PROG (Table 17-9)
      fd 0 16 .ro 0,
      fd 16 16 .ro 0]]

/-- Block registers of page 0x4C, in offset order. -/
def sclRegs : List RegD := [
  rd 0x60 1 0x4 false [ -- SCL_CFG (Table 18-9)
      fdx 0 14 .rw 0x3c [(0, 0), (10, 10080)] true,
      fdx 16 5 .rw 5 [(0, 0), (1, 20)] true],
  rd 0x64 1 0x4 false [ -- SCL_STEP (Table 18-9)
      fdx 0 14 .rw 0x64 [(10, 10000)] true],
  rd 0x68 1 0x4 false [ -- SCL_CMD (Table 18-9)
      fd 0 1 .wo 0,
      fd 1 1 .wo 0,
      fd 8 8 .wo 0]]

/-- Block registers of page 0x4D, in offset order. -/
def bstRegs : List RegD := [
  rd 0x40 1 0x4 false [ -- BST_POST (Table 18-10)
      fd 0 1 .ro 0,
      fd 1 1 .ro 0,
      fd 2 5 .ro 0,
      fd 8 24 .ro 0],
  rd 0x44 1 0x4 false [ -- BST_VEC (Table 18-10)
      fdx 0 10 .rw 0xa [(1, 1000)] true,
      fdx 10 10 .rw 1 [(1, 1000)] true,
      fdx 20 1 .rw 0 [] true],
  rd 0x48 1 0x4 false [ -- BST_SCRUB (Table 18-10)
      fdx 0 17 .rw 0xe10 [(600, 86400)] true,
      fdx 17 15 .rw 0x12c [(150, 32767)] true],
  rd 0x4c 1 0x4 false [ -- BST_VCNT (Table 18-10)
      fd 0 16 .ro 0,
      fd 16 16 .ro 0],
  rd 0x50 1 0x4 false [ -- BST_SCNT (Table 18-10)
      fd 0 16 .ro 0,
      fd 16 16 .ro 0],
  rd 0x54 1 0x4 false [ -- BST_SPOS (Table 18-10)
      fd 0 28 .ro 0]]

/-- Block registers of page 0x50, in offset order. -/
def pwrRegs : List RegD := [
  rd 0x40 1 0x4 false [ -- PWR_CFG (Table 20-15)
      fdx 0 7 .rw 0x3c [(20, 75)] true],
  rd 0x44 1 0x4 false [ -- PWR_J1 (Table 20-15)
      fd 0 16 .ro 0,
      fd 16 16 .ro 0],
  rd 0x48 1 0x4 false [ -- PWR_HOLDUP (Table 20-15)
      fd 0 14 .ro 0,
      fd 16 16 .ro 0],
  rd 0x4c 1 0x4 false [ -- PWR_LAST (Table 20-15)
      fd 0 3 .ro 0,
      fd 3 1 .ro 0,
      fd 16 16 .ro 0],
  rd 0x50 1 0x4 false [ -- PWR_CAGE (Table 20-15)
      fd 0 13 .rw1c 0],
  rd 0x54 1 0x4 false [ -- PWR_CNT (Table 20-15)
      fd 0 16 .ro 0]]

/-- Block registers of page 0x51, in offset order. -/
def thmRegs : List RegD := [
  rd 0x40 1 0x4 false [ -- THM_BASE (Table 20-16)
      fd 0 16 .ro 0,
      fd 16 16 .ro 0],
  rd 0x44 1 0x4 false [ -- THM_DIE (Table 20-16)
      fd 0 16 .ro 0,
      fd 16 16 .ro 0],
  rd 0x48 1 0x4 false [ -- THM_LIMIT (Table 20-16)
      fdx 0 7 .rw 0x46 [(40, 85)] true,
      fdx 8 7 .rw 0x55 [(76, 90)] true],
  rd 0x4c 1 0x4 false [ -- THM_CLR (Table 20-16)
      fd 0 1 .wo 0]]

/-- Block registers of page 0x03, in offset order. -/
def evtRegs : List RegD := [
  rd 0x40 8 0x4 false [ -- EVT_SRC (Table 19-9)
      fd 0 32 .ro 0],
  rd 0x60 8 0x4 false [ -- EVT_AMSK (Table 19-9)
      fdx 0 32 .rw 0 [] true],
  rd 0x80 8 0x4 false [ -- EVT_LOG (Table 19-9)
      fdx 0 32 .rw 0 [] true],
  rd 0xa0 1 0x4 false [ -- EVT_SUM (Table 19-9)
      fd 0 8 .ro 0],
  rd 0xa4 1 0x4 false [ -- EVT_ALERT (Table 19-9)
      fdx 0 1 .rw 1 [] true],
  rd 0xa8 1 0x4 false [ -- EVT_SWSET (Table 19-9)
      fd 0 16 .wo 0],
  rd 0xac 1 0x4 false [ -- EVT_SWCLR (Table 19-9)
      fd 0 16 .wo 0],
  rd 0xb0 1 0x4 false [ -- EVT_LOGCNT (Table 19-9)
      fd 0 16 .ro 0,
      fd 16 16 .ro 0],
  rd 0xb4 1 0x4 false [ -- EVT_FIRST (Table 19-9)
      fd 0 8 .ro 0,
      fd 31 1 .rw1c 0]]

/-- Block registers of page 0x3A, in offset order. -/
def accRegs : List RegD := [
  rd 0x70 1 0x4 true [ -- ACC_SNAP (Table 11-15)
      fd 0 1 .wo 0,
      fd 1 1 .rw 0],
  rd 0x74 1 0x4 true [ -- ACC_SNAPNS (Table 11-15)
      fd 0 30 .ro 0],
  rd 0x78 1 0x4 true [ -- ACC_SNAPS (Table 11-15)
      fd 0 32 .ro 0]]

/-- Block registers of page 0x31, in offset order. -/
def strRegs : List RegD := [
  rd 0x90 2 0x4 false [ -- STR_FCLR (Table 10.9)
      fd 0 32 .wo 0]]


end Sys2Proof.Machine
end

