-- ==== Sys2Proof/Machine/RegPages.lean ====
section
/-! DEFINITION. The page map of Table 2-19, the common page header of 2.2, the windowed register groups, and the
registers whose fields depend on the page (MAC block, push ports): from an address to its register. -/

namespace Sys2Proof.Machine

/-- A page of Table 2-19: number, PG_ID.TYPE, instance, LATCH staging, core page, PG_CAP, the island that holds the
block, the legal bits of PG_EVRAW.BLK, and whether the block is absent on a ZT9H-48E (R3). -/
structure PageD where
  num : Nat
  typ : Nat
  inst : Nat
  latch : Bool
  core : Bool
  cap : Nat
  isl : Nat
  ev : Nat
  drive : Bool
  deriving DecidableEq, Repr

/-- Pages 0x00-0x0E. PG_CAP of DEV is computed (R8). The island of a page is the island of its block in Table 1-1,
and island 12 where the manual names none (DEDUCED, log 7). -/
def pages0 : List PageD := [
  ⟨0x00, 0x5300, 0, false, true, 0, 12, 0x1, false⟩, ⟨0x01, 0x5301, 0, false, true, 0xD, 12, 0x7FFF, false⟩,
  ⟨0x02, 0x5302, 0, false, true, 0x147, 12, 0x7, false⟩, ⟨0x03, 0x5303, 0, false, true, 0x71F, 12, 0x1, false⟩,
  ⟨0x04, 0x5304, 0, false, false, 0x00F098FF, 2, 0xFF, false⟩, ⟨0x05, 0x5305, 0, false, false, 0xF0FF, 2, 0, false⟩,
  ⟨0x06, 0x5306, 0, false, false, 0x0007FE77, 12, 0x1F, false⟩, ⟨0x08, 0x5308, 0, false, false, 0x20000400, 12, 0x1F, false⟩,
  ⟨0x09, 0x5309, 0, true, false, 0x007FFFBF, 12, 0x7F, false⟩, ⟨0x0A, 0x530A, 0, true, false, 0x003FFFFF, 12, 0xF, false⟩,
  ⟨0x0B, 0x530B, 0, false, false, 0x00FFFFFF, 12, 0, false⟩, ⟨0x0C, 0x530C, 0, false, false, 0x0003FFFF, 12, 0, false⟩,
  ⟨0x0D, 0x530D, 0, true, false, 0xFFFF3FFF, 12, 0x1F, false⟩, ⟨0x0E, 0x530E, 0, false, false, 0x1FF, 12, 0xF, false⟩]

/-- Port pages 0x10-0x24. -/
def pages1 : List PageD :=
  (List.range 2).map (fun i => ⟨0x10 + i, 0x5310, i, false, false, 0xE, 4, 0, false⟩) ++
  (List.range 8).map (fun i => ⟨0x12 + i, 0x5312, i, false, false, 0xFFE00, 5, 0x3FF, false⟩) ++
  (List.range 8).map (fun i => ⟨0x1A + i, 0x531A, i, false, false, 0x2001, 6, 0x3FF, false⟩) ++
  (List.range 2).map (fun i => ⟨0x22 + i, 0x5322, i, false, false, 0x140FE, 7, 0x7FF, false⟩) ++
  [⟨0x24, 0x5324, 0, false, false, 0x4001, 8, 0x1FFF, false⟩]

/-- Pages 0x28-0x51. The capabilities of MTR, MEA, ACC and SCL are those of a ZT9A-48E here. -/
def pages2 : List PageD := [
  ⟨0x28, 0x5328, 0, false, true, 0x1803, 9, 0x7F, false⟩, ⟨0x29, 0x5329, 0, false, false, 0x14, 9, 0x7, false⟩,
  ⟨0x2A, 0x532A, 0, false, false, 0xF, 9, 0x3F, false⟩,
  ⟨0x30, 0x5330, 0, false, false, 0x3FB, 11, 0x7FF, true⟩, ⟨0x31, 0x5331, 0, true, false, 0x3FFF, 11, 0, true⟩,
  ⟨0x32, 0x5332, 0, true, false, 0x17FF, 11, 0x1F, true⟩, ⟨0x33, 0x5332, 1, true, false, 0x17FF, 11, 0x1F, true⟩,
  ⟨0x38, 0x5338, 0, false, false, 0x16407, 10, 0x1FF, false⟩, ⟨0x39, 0x5339, 0, false, false, 6, 10, 0, false⟩,
  ⟨0x3A, 0x533A, 0, false, false, 0x164, 10, 0, false⟩,
  ⟨0x40, 0x5340, 0, false, true, 0x3FC3FF, 12, 0x1FF, false⟩, ⟨0x44, 0x5344, 0, false, true, 0x3F8, 13, 0xFF, false⟩,
  ⟨0x45, 0x5345, 0, false, true, 0x1F, 13, 0, false⟩, ⟨0x46, 0x5346, 0, false, false, 0xC, 12, 0, false⟩,
  ⟨0x48, 0x5348, 0, false, false, 0x4001, 12, 0x3F, false⟩, ⟨0x4C, 0x534C, 0, false, false, 0x1921, 12, 0x1F, false⟩,
  ⟨0x4D, 0x534D, 0, false, false, 0x17FF, 12, 0xF, false⟩,
  ⟨0x50, 0x5350, 0, false, true, 0xA01, 12, 0x1F, false⟩, ⟨0x51, 0x5351, 0, false, true, 3, 12, 0x7, false⟩]

/-- Every page of Table 2-19. -/
def allPages : List PageD := pages0 ++ pages1 ++ pages2

/-- The page of a number, where Table 2-19 has one. -/
def findPage (p : Nat) : Option PageD := allPages.find? fun d => d.num == p

/-- A windowed register group (Table 2-12): page, offset of _IDX, lowest and highest index, offset of _DATA0 and how
many data registers, offset of _OP, READ only, the bit [2] a page adds, and the number of the table it reaches. -/
structure WinD where
  page : Nat
  idx : Nat
  lo : Nat
  hi : Nat
  data : Nat
  nd : Nat
  op : Nat
  ro : Bool
  extra : Bool
  tab : Nat
  deriving DecidableEq, Repr

/-- Table numbers of the windows; a port's table is the number plus the page. -/
abbrev tHFL := 1
abbrev tHFLS := 2
abbrev tLAY := 3
abbrev tLAYS := 4
abbrev tLAYU := 5
abbrev tENGK := 6
abbrev tENGC := 7
abbrev tMAP := 8
abbrev tMAPB := 9
abbrev tCALP := 10
abbrev tCALB := 11
abbrev tCALC := 12
abbrev tSRFT := 13
abbrev tTDMQ := 14
abbrev tTDMA := 15
abbrev tCHKR := 16
abbrev tCHKS := 17
abbrev tSTR := 18
abbrev tSTRV := 19
abbrev tSTRS := 20
abbrev tMTRC := 21
abbrev tACC := 22
abbrev tPTPP := 23
abbrev tHBT := 24
abbrev tGNTL := 25
abbrev tSCLQ := 26
abbrev tUPDB := 27
abbrev tPPN := 0x100
abbrev tPPNS := 0x200
abbrev tSFP := 0x300

/-- Windows of the pages that exist once. -/
def winsFixed : List WinD := [
  ⟨0x05, 0x040, 0, 255, 0x044, 19, 0x090, false, false, tHFL⟩, ⟨0x05, 0x0A0, 0, 255, 0x0A4, 5, 0x0B8, true, false, tHFLS⟩,
  ⟨0x09, 0x040, 0, 191, 0x044, 6, 0x05C, false, false, tLAY⟩, ⟨0x09, 0x070, 0, 191, 0x074, 4, 0x084, true, false, tLAYS⟩,
  ⟨0x09, 0x0A0, 0, 8191, 0x0A4, 4, 0x0B4, false, false, tLAYU⟩,
  ⟨0x06, 0x080, 0, 2047, 0x084, 3, 0x090, false, false, tENGK⟩, ⟨0x06, 0x0A0, 0, 63, 0x0A4, 1, 0x0A8, false, false, tENGC⟩,
  ⟨0x0B, 0x040, 0, 16777215, 0x044, 4, 0x054, false, true, tMAP⟩, ⟨0x0B, 0x060, 0, 16777215, 0x064, 1, 0x068, false, false, tMAPB⟩,
  ⟨0x0C, 0x040, 0, 4095, 0x044, 4, 0x054, false, false, tCALP⟩, ⟨0x0C, 0x060, 0, 65535, 0x064, 16, 0x0A4, false, false, tCALB⟩,
  ⟨0x0C, 0x0B0, 0, 262143, 0x0B4, 1, 0x0B8, false, false, tCALC⟩,
  ⟨0x0A, 0x040, 0, 65535, 0x044, 6, 0x05C, false, false, tSRFT⟩,
  ⟨0x0D, 0x180, 0, 4095, 0x184, 3, 0x190, false, false, tTDMQ⟩, ⟨0x0D, 0x1A0, 0, 65535, 0x1A4, 2, 0x1AC, false, false, tTDMA⟩,
  ⟨0x0E, 0x040, 0, 63, 0x044, 5, 0x058, false, false, tCHKR⟩, ⟨0x0E, 0x080, 0, 63, 0x084, 6, 0x09C, true, false, tCHKS⟩,
  ⟨0x31, 0x040, 0, 63, 0x044, 3, 0x050, false, false, tSTR⟩, ⟨0x31, 0x060, 0, 255, 0x064, 1, 0x068, false, false, tSTRV⟩,
  ⟨0x31, 0x070, 0, 63, 0x074, 2, 0x07C, true, false, tSTRS⟩,
  ⟨0x38, 0x060, 0, 16, 0x064, 2, 0x06C, false, false, tMTRC⟩, ⟨0x3A, 0x040, 0, 100, 0x044, 8, 0x064, false, false, tACC⟩,
  ⟨0x29, 0x080, 0, 20, 0x084, 3, 0x090, true, false, tPTPP⟩,
  ⟨0x22, 0x140, 1, 254, 0x144, 3, 0x150, true, true, tHBT⟩, ⟨0x23, 0x140, 1, 254, 0x144, 3, 0x150, true, true, tHBT⟩,
  ⟨0x44, 0x0A0, 0, 63, 0x0A4, 4, 0x0B4, true, false, tGNTL⟩,
  ⟨0x4C, 0x040, 0, 0x35, 0x044, 5, 0x058, false, false, tSCLQ⟩,
  ⟨0x48, 0x080, 0, 102655, 0x100, 64, 0x084, false, true, tUPDB⟩]

/-- Node windows of a push port page. -/
def winsPort (p : Nat) : List WinD := [
  ⟨p, 0x0A0, 1, 4094, 0x0A4, 4, 0x0B4, false, false, tPPN + p⟩, ⟨p, 0x0C0, 1, 4095, 0x0C4, 6, 0x0DC, true, false, tPPNS + p⟩]

/-- SFP window of a MAC page (Table 9-11). -/
def winSfp (p : Nat) : WinD := ⟨p, 0x4A0, 0, 127, 0x4A4, 1, 0x4A8, true, false, tSFP + p⟩

/-- The windows of a page. -/
def winsOf (p : Nat) : List WinD :=
  winsFixed.filter (fun w => w.page == p) ++
  (if 0x12 ≤ p && p ≤ 0x21 then winsPort p else []) ++
  (if (0x10 ≤ p && p ≤ 0x19) || (0x22 ≤ p && p ≤ 0x24) then [winSfp p] else [])

/-- The registers of a window (Table 2-12). -/
def winRegs (w : WinD) : List RegD := [
  rd w.idx 1 4 true [fdx 0 24 .rw 0 [(w.lo, w.hi)] false, fd 31 1 .rw 0],
  rd w.data w.nd 4 true [fd 0 32 .rw 0],
  rd w.op 1 4 false ([fd 0 1 .wo 0, fd 1 1 .wo 0] ++ (if w.extra then [fd 2 1 .wo 0] else []))]

/-- The kind of a MAC (chapter 9). -/
inductive MacCls where
  | up | pp | bb | hb | mir
  deriving DecidableEq, Repr

/-- The kind of the MAC of a page, where the page carries a MAC block (R322). -/
def macCls (p : Nat) : Option MacCls :=
  if p = 0x10 || p = 0x11 then some .up
  else if 0x12 ≤ p && p ≤ 0x19 then some .pp
  else if 0x1A ≤ p && p ≤ 0x21 then some .bb
  else if p = 0x22 || p = 0x23 then some .hb
  else if p = 0x24 then some .mir
  else none

/-- Access code of a field that is RW where `b` holds and RO elsewhere. -/
def rwIf (b : Bool) : Acc := if b then .rw else .ro

/-- The MAC block (Tables 9-8 and 9-9). -/
def macRegs (c : MacCls) : List RegD :=
  let up := c == .up
  let bb := c == .bb
  let big := c == .hb || c == .mir
  [rd 0x400 1 4 false [
      fdx 0 14 (rwIf (up || big)) (if big then 0x2328 else 0x5DC) [(1500, 9000)] true,
      fdx 14 2 (rwIf up) (if up then 0 else if bb then 2 else 1) [(0, 1)] true,
      fdx 16 1 (rwIf up) (b2n up) [] true, fdx 20 12 (rwIf up) 0 [(0, 4094)] true],
   rd 0x404 1 4 false [
      fdx 0 1 (rwIf (!bb)) (b2n (up || c == .pp)) [] true, fdx 1 1 (rwIf up) 0 [] true,
      fdx 3 13 (rwIf up) (if up then 0x100 else 0) [(16, 4096)] true,
      fdx 16 16 .rw 0x7D0 [(0, 0), (100, 65535)] true],
   rd 0x408 1 4 false [fd 0 10 .rw1c 0],
   rd 0x40C 1 4 false [fd 0 32 .rw 0],
   rd 0x410 1 4 false [fd 0 6 .ro 0, fd 16 16 .ro 0],
   rd 0x414 1 4 false [fd 0 14 .ro (if up then 512 else if c == .hb then 1024 else if c == .mir then 2048 else 256),
      fd 16 14 .ro (if up then 512 else if c == .hb then 1024 else if c == .mir then 2048 else 256)],
   rd 0x418 1 4 false [fdx 0 1 (rwIf up) (b2n big) [] true, fd 1 1 .ro 0],
   rd 0x41C 1 4 false [fdx 0 12 (rwIf bb) (if bb then 0x4B0 else 0) [(0, 4000)] true],
   rd 0x420 1 4 false [fdx 0 1 (rwIf (!bb)) 0 [] true],
   rd 0x424 1 4 false [fd 0 1 .wo 0, fd 1 1 .wo 0],
   rd 0x428 1 4 false [fd 0 32 .ro 0], rd 0x42C 1 4 false [fd 0 16 .ro 0]] ++ macCounterRegs

/-- The control registers of a push port (Table 8-12). -/
def portRegs (bb : Bool) : List RegD :=
  [rd 0x40 1 4 false [fdx 0 16 .rw 0x88B6 [(0x600, 65535)] true, fdx 16 14 (rwIf (!bb)) 0x5DC [(1100, 9000)] true],
   rd 0x44 1 4 false [fdx 0 13 .rw (if bb then 0x200 else 0x1000) [(64, if bb then 512 else 4096)] true,
      fdx 16 13 .rw (if bb then 0x40 else 0x100) [] true],
   rd 0x48 1 4 false [fd 0 13 .ro 0, fd 16 13 .ro (if bb then 0x200 else 0x1000)],
   rd 0x4C 1 4 false [fdx 0 10 .rw (if bb then 0x14 else 0x32) [(1, 1000)] true, fdx 10 1 .rw 0 [] true],
   rd 0x50 1 4 false [fd 0 1 .wo 0, fd 1 1 .wo 0],
   rd 0x54 1 4 false [fd 0 8 .ro 0, fd 8 2 .ro 0, fd 10 2 .ro 0, fd 12 12 .ro 0, fd 31 1 .rw1c 0]] ++ portCounterRegs

/-- Registers that belong to no window and no table above: the enqueue group (4.11), the key window (Table 16-10) and
the reserved registers of the domain blocks (R42). -/
def miscRegs (p : Nat) : List RegD :=
  if p = 0x04 then [rd 0x80 16 4 true [fd 0 32 .rw 0], rd 0xC0 1 4 false [fd 0 1 .wo 0]]
  else if p = 0x45 then [rd 0x40 1 4 true [fd 0 5 .rw 0], rd 0x44 24 4 true [fd 0 32 .rw 0],
    rd 0xA4 1 4 false [fd 0 1 .wo 0, fd 1 1 .wo 0, fd 2 1 .wo 0]]
  else if p = 0x0D then [rd 0x74 4 0x40 false [], rd 0x78 4 0x40 false [], rd 0x7C 4 0x40 false []]
  else []

/-- The block registers of the pages that exist once. -/
def fixedRegs (p : Nat) : List RegD :=
  match p with
  | 0x00 => devRegs | 0x01 => islRegs | 0x02 => cbusRegs | 0x03 => evtRegs | 0x04 => htkRegs | 0x06 => engRegs
  | 0x08 => fstRegs | 0x09 => layRegs | 0x0A => srfRegs | 0x0B => mapRegs | 0x0D => tdmRegs | 0x0E => chkRegs
  | 0x22 => hbRegs | 0x23 => hbRegs | 0x24 => mirRegs | 0x28 => clkRegs | 0x29 => ptpRegs | 0x2A => tioRegs
  | 0x30 => drvRegs | 0x31 => strRegs | 0x32 => mxRegs | 0x33 => mxRegs | 0x38 => mtrRegs | 0x39 => meaRegs
  | 0x3A => accRegs | 0x40 => linRegs | 0x44 => gntRegs | 0x45 => keyRegs | 0x46 => secRegs | 0x48 => updRegs
  | 0x4C => sclRegs | 0x4D => bstRegs | 0x50 => pwrRegs | 0x51 => thmRegs
  | _ => []

/-- The block registers of a page, offsets 0x040 and above. -/
def blockRegs (p : Nat) : List RegD :=
  fixedRegs p ++ (if 0x12 ≤ p && p ≤ 0x21 then portRegs (decide (0x1A ≤ p)) else []) ++
  ((winsOf p).map winRegs).flatten ++ miscRegs p ++
  (match macCls p with | some c => macRegs c | none => [])

/-- The header of a page, offsets 0x000-0x03C (2.2, R42). PG_ERR: a write acts on bit 31 and bits 28..0 are ignored
(R47). -/
def headerRegs (d : PageD) : List RegD := [
  rd 0x00 1 4 false [fd 0 32 .ro 0], rd 0x04 1 4 false [fd 0 32 .ro 0],
  rd 0x08 1 4 false [fdx 0 1 .rw (b2n d.core) [] (!d.core && d.num != 0x30), fd 1 1 .wo 0, fd 2 1 .rw 0, fd 3 1 .ro 0],
  rd 0x0C 1 4 false [fd 0 32 .ro 0],
  rd 0x10 1 4 false ((bitsOf 31 d.ev).map (fun i => fd i 1 .rw1c 0) ++ [fd 31 1 .rw1c 0]),
  rd 0x14 1 4 false [fd 0 32 .rw 0], rd 0x18 1 4 false [fd 0 32 .ro 0],
  rd 0x1C 1 4 false [fd 0 29 .ro 0, fd 31 1 .rw1c 0],
  rd 0x20 1 4 false [fd 0 1 .wo 0, fd 1 1 .wo 0, fd 8 1 .ro 0, fd 12 4 .ro 0xF],
  rd 0x24 1 4 false [fd 0 1 .wo 0, fd 1 1 .wo 0], rd 0x28 1 4 false [fd 0 32 .ro 0],
  rd 0x2C 1 4 false [fd 0 1 .wo 0, fd 1 1 .wo 0, fd 8 1 .ro 0, fd 9 1 .ro 0, fd 10 1 .ro 0],
  rd 0x30 4 4 false []]

/-- A register covers an offset. -/
def RegD.at (r : RegD) (o : Nat) : Bool :=
  r.off ≤ o && (o - r.off) % r.stride == 0 && (o - r.off) / r.stride < r.count

/-- Page, offset and number bits of an address (R39). -/
def pageOf (a : Nat) : Nat := a / 0x10000
def offOf (a : Nat) : Nat := a % 0x1000

/-- Bits 15..12 of an address are zero and it fits 24 bits (R39). -/
def addrOk (a : Nat) : Bool := decide (a < 0x1000000) && decide (a % 0x10000 < 0x1000)

/-- The register at an address of a full ZT9A-48E. -/
def findReg (a : Nat) : Option RegD :=
  if addrOk a then
    match findPage (pageOf a) with
    | none => none
    | some d =>
      if offOf a < 0x40 then (headerRegs d).find? fun r => r.at (offOf a)
      else (blockRegs d.num).find? fun r => r.at (offOf a)
  else none

/-- Reset values that differ along an array (Table 3-1). -/
def arrayReset (a : Nat) : Option Word :=
  if a = R.CB_PRI 0 then some 10#32 else if a = R.CB_PRI 1 then some 6#32
  else if a = R.CB_PRI 2 then some 8#32 else if a = R.CB_PRI 3 then some 8#32
  else if a = R.CB_PRI 4 then some 11#32 else if a = R.CB_PRI 5 then some 12#32
  else if a = R.CB_PRI 6 then some 15#32 else none

/-- The reset value of the register at an address. -/
def resetWord (a : Nat) : Word :=
  match arrayReset a with
  | some w => w
  | none => match findReg a with
    | some r => resetOf r.fields
    | none => 0#32

/-- The fields of the register at an address. -/
def fieldsOf (a : Nat) : List FieldD :=
  match findReg a with
  | some r => r.fields
  | none => []

/-- The window whose _OP register is at an address. -/
def winOfOp (a : Nat) : Option WinD := (winsOf (pageOf a)).find? fun w => w.op == offOf a

/-- The entry words of a table (field descriptors), where its WRITE checks them. -/
def entryFields (t : Nat) : List (List FieldD) :=
  if t = tHFL then entryHFL else if t = tLAY then entryLAY else if t = tLAYU then entryLAYU
  else if t = tENGK then entryENGK else if t = tENGC then entryENGC else if t = tCALP then entryCALP
  else if t = tCALB then entryCALB else if t = tCALC then entryCALC else if t = tSRFT then entrySRFT
  else if t = tTDMQ then entryTDMQ else if t = tTDMA then entryTDMA else if t = tCHKR then entryCHKR
  else if t = tSTR then entrySTR else if t = tSTRV then entrySTRV else if t = tMTRC then entryMTRC
  else if t = tACC then entryACC else if t = tSCLQ then entrySCLQ
  else if tPPN < t && t < tPPNS then entryPPN
  else if t = tMAP then List.replicate 4 [fd 0 32 .rw 0]
  else if t = tMAPB then [[fd 0 32 .rw 0]]
  else if t = tUPDB then List.replicate 64 [fd 0 32 .rw 0]
  else []

end Sys2Proof.Machine
end

