-- ==== Sys2Proof/Machine/TypesHb.lean ====
section
/-! DEFINITION. State of the Hatband (chapter 13) beside its registers and the ring table. -/

namespace Sys2Proof.Machine

/-- An H port: the latest HELLO and the latest with RXOK (ns of up time), when the latest HELLO left, and whether the
port is UP (R425). -/
structure HbPort where
  hello : Option Nat
  rxok : Option Nat
  sent : Option Nat
  isUp : Bool
  deriving DecidableEq, Repr

/-- What a ring-table entry's latest ANNOUNCE said: claim time (ns of the local clock) and when it came (ns of up
time). -/
structure RingRt where
  claim : Nat
  last : Nat
  deriving DecidableEq, Repr

/-- A Ryuward frame seen (R423): source, type, ID, the serial where the source is 0, arrival port, instant. -/
structure Seen where
  src : Nat
  typ : Nat
  id : Nat
  ser : Nat
  port : Nat
  at_ : Nat
  deriving DecidableEq, Repr

/-- A Ryuward frame (Table 13-1): the version is 0x01. -/
structure Ryu where
  typ : Nat
  dst : Nat
  src : Nat
  id : Nat
  pl : List Byte
  deriving DecidableEq, Repr

/-- A received EVENT that waits in the queue (R438). -/
structure EvRx where
  src : Nat
  group : Nat
  bits : Nat
  ns : Nat
  sec : Nat
  deriving DecidableEq, Repr

/-- A chunk sent to a neighbour that awaits its UPD_ACK (R439): port, image, chunk, data, sends, when the last segment
left. -/
structure UpdTx where
  port : Nat
  img : Nat
  chunk : Nat
  data : List Byte
  sends : Nat
  sent : Nat
  deriving DecidableEq, Repr

/-- A chunk in reception on a port: image, chunk, and the segments held. -/
structure UpdRx where
  img : Nat
  chunk : Nat
  segs : SMap (List Byte)
  deriving DecidableEq, Repr

/-- A remote request outstanding in a bank (R65): the tag and source it was sent with, when it was sent, a broadcast, and
the words asked for. -/
structure RaReq where
  tag : Nat
  src : Nat
  sent : Nat
  bcast : Bool
  write : Bool
  count : Nat
  deriving DecidableEq, Repr

/-- The Hatband. Address, role and ring state are in HB_ADDR, HB_SVC and HB_RING. -/
structure Hb where
  ports : SMap HbPort
  ring : SMap RingRt
  seen : List Seen
  nextId : Nat
  /-- JOINs sent since JOINING began, when the latest left, when JOINING began, and whether the latest ASSIGN was 0. -/
  joins : Nat
  joinAt : Option Nat
  joinSince : Nat
  noroom : Bool
  /-- The latest ANNOUNCE heard from an assigned module. -/
  annHeard : Option Nat
  annSent : Option Nat
  /-- When the present address and service address were taken, in ns of the local clock. -/
  claim : Nat
  svcClaim : Nat
  svcJoinAt : Option Nat
  /-- ID of the latest own ANNOUNCE sent on H1 that has not returned yet. -/
  lap : Option Nat
  /-- When the latest HEARTBEAT left on the Hatband. -/
  hbSent : Option Nat
  events : List EvRx
  updTx : List UpdTx
  updRx : SMap UpdRx
  /-- Outstanding remote requests, by requester × 2 + port. -/
  ras : SMap RaReq
  deriving DecidableEq, Repr

end Sys2Proof.Machine
end

