-- ==== Sys2Proof/Machine/TypesPush.lean ====
section
/-! DEFINITION. State of the push ports P0-P7 and B0-B7 (chapter 8): frames handed to the port, node records, polls and
assignments under way. Node-table entries are in the node window's table. -/

namespace Sys2Proof.Machine

/-- A frame handed to a port and not yet sent (8.1, R274). `payload` is the payload of a frame other than DATA; the
words of a DATA frame are read from the egress buffer when transmission begins (R278). `cred`: it holds a credit. `gap`:
it carries GAP, which stands until the frame has been sent (R269). -/
structure TxFrame where
  typ : Nat
  node : Nat
  flow : Nat
  cls : Nat
  p : Nat
  surf : Nat
  ddl : Option Nat
  keep : Bool
  last : Bool
  egr : Nat
  units : Nat
  payload : List Byte
  timeout : Nat
  cred : Bool
  seq : Nat
  gap : Bool
  deriving DecidableEq, Repr

/-- What a port keeps of one node address (Table 8-15). -/
structure NodeRt where
  state : Nat
  gap : Bool
  misses : Nat
  nflags : Nat
  seq : Nat
  lastP : Nat
  nseq : Nat
  fence : Nat
  deriving DecidableEq, Repr

/-- A POLL that awaits its reply (R280): node, kind, sequence, end of transmission (ns of up time), timeout in µs. -/
structure PollWait where
  node : Nat
  kind : Nat
  seq : Nat
  sent : Nat
  timeout : Nat
  deriving DecidableEq, Repr

/-- An ASSIGN that awaits its ASSIGN_ACK (R266): serial, address, and the instant it left. -/
structure AssignWait where
  serial : Nat
  addr : Nat
  left : Nat
  deriving DecidableEq, Repr

/-- A push port. -/
structure PortRt where
  /-- Frames handed over, oldest first. -/
  q : List TxFrame
  /-- The frame in transmission. -/
  tx : Option TxFrame
  /-- For each class, the flow whose frame was taken last (R274). -/
  rr : SMap Nat
  /-- Credits that items and their frames hold. -/
  held : Nat
  nodes : SMap NodeRt
  polls : List PollWait
  assigns : List AssignWait
  /-- Instants at which ENUM_DONE is due (R267). -/
  enumDue : List Nat
  /-- Bytes of the frame transmitted last, from the destination address on. -/
  wire : List Byte
  deriving DecidableEq, Repr

end Sys2Proof.Machine
end

