-- ==== Sys2Proof/Machine/State.lean ====
section
/-! DEFINITION. The state of the module, and the state right after reset. -/

namespace Sys2Proof.Machine

/-- What the factory fixes about a module (0.2, R6, R621): nothing a command does changes it. -/
structure Hw where
  /-- ZT9A-48E: drive, strings and matrix fitted (R1, R2). -/
  drive : Bool
  /-- Ordered with suffix -T (R6). -/
  tsku : Bool
  serial : Nat
  hwrev : Nat
  /-- Lowest MAC address of the module's block (R621). -/
  macBase : Nat
  deriving DecidableEq, Repr

structure State where
  /-- Commands that wait, first in, first out. -/
  pending : List Instr
  hw : Hw
  /-- Nanoseconds since device reset was released. -/
  up : Nat
  /-- The local clock in units of 2^-24 ns (chapter 12). -/
  clk : Nat
  /-- Register words by address; an unlisted register holds its reset value. -/
  regs : SMap Word
  /-- Registers held once per requester, by requester × 2^24 + address (R54). -/
  bank : SMap Word
  /-- Entries of the windowed tables, by table × 2^32 + index; an unlisted entry reads its reset words. -/
  tabs : SMap (List Word)
  ctl : Ctl
  arb : Arb
  isl : Isl
  evt : Evt
  htk : Htk
  lin : Lin
  pres : Pres
  ing : Ing
  ren : Ren
  /-- The layer region of the frame store, by byte offset; an unlisted byte is 0. -/
  layMem : SMap Byte
  /-- The egress-buffer region of the frame store, by byte offset; an unlisted byte is 0. -/
  egrMem : SMap Byte
  /-- Push ports: 0-7 P0-P7, 8-15 B0-B7. -/
  ports : SMap PortRt
  /-- MACs, by page. -/
  macs : SMap MacRt
  pair : Pair
  clkr : ClkRt
  ptp : Ptp
  tio : Tio
  drv : DrvRt
  mtr : MtrRt
  hb : Hb
  gnt : Gnt
  upd : Upd
  slf : Slf
  pwr : Pwr
  /-- Counter that free values are drawn from. -/
  freeCtr : Nat
  deriving DecidableEq, Repr

/-- Why a step stops: it never does, since the manual gives every event of the module an effect in every state. -/
inductive Fault where
  deriving DecidableEq, Repr

/-- Why the model declines a command. -/
inductive Refusal where
  /-- The row of this mnemonic has no meaning yet. Raised by no meaning. Safe. -/
  | notModelled (mnemonic : String)
  deriving DecidableEq, Repr

/-! Initial values of the parts of the state -/

def mset0 : MtrSet := ⟨[], none, 0, []⟩
def mark0 : Mark := ⟨0, [], [], 0⟩
def mtr0 : MtrRt :=
  { run := false, num := 0, win := [], due := none, prev := [], pos := 0, stamp := 0, stepped := false, cross := none, newCross := none,
    freq := 0, cyc := [], carry := [], acc := [], sets := List.replicate 4 mset0, spills := [], po := List.replicate 2 ⟨0, 0, 0⟩, gaps := 0,
    ivlStart := 0, ivlCode := 3, ivlFlags := 0, ivlOpen := [], ivlLater := [], ivl := mark0, save := mark0, snaps := [], freeze := none,
    finalDone := false, gap := none, restored := none, neutral := none, vloss := false, changes := 0 }
def pair0 : Pair :=
  { role := .unbound, synced := false, async := false, partner := false, hbCuff := none, hbRing := none,
    syncAtHb := false, since := 0, hbSent := 0, txSeq := 0, unacked := [], calm := 0, unsent := [], rxSeq := none, held := [],
    rejected := false, mirTime := none, yield := none, retry := none, failing := 0, clear := [], mism := [], own := [],
    theirs := [], diverg := [], testAt := none, scrubAt := none, fit := none, lastRef := none, resvNext := none,
    uDown := none, engFaults := [], ueErrors := [], accs := [], lastAcc := 0 }
def rail0 : RailRt := ⟨0, 0, 0, false, false, false, none⟩
def str0 : StrRt := ⟨0, false, 0, 0, 0, 10, 0, false⟩
def mx0 : MxRt := ⟨false, 0, 0, 0, 0, false, [], [], none⟩
/-- The drive after device reset or a reset of island 11 (R354). -/
def drv0 : DrvRt :=
  ⟨[], [], [], 1, none, 0, 0, false, 0, 0x190, 0, List.replicate 4 rail0, [], List.replicate 2 mx0⟩
def in0 : InRt := ⟨false, false, [], 0, none, 0, 0, 0⟩
/-- The local clock's hidden state after device reset, with the seconds counter at a value (R393, R399). -/
def clk0 (rtc : Nat) : ClkRt := ⟨[], none, 0, false, true, false, false, 0, 0, 0, none, [], 0, false, [], 0, rtc, 0⟩
def hb0 : Hb :=
  ⟨[], [], [], 0, 0, none, 0, false, none, none, 0, 0, none, none, none, [], [], [], []⟩
def lin0 : Lin := ⟨0, [], [], none, 1, 0, 0, [], none, none, none, false, none, 0, 0, 0, false, none, false, [], []⟩
def htk0 : Htk := ⟨[], [], [], [], [], none, none, [], []⟩
/-- The Gauntlet as it left manufacture (R501, R503): vault slots 0 (identity) and 2 (update root) hold keys whose bytes
the manual does not give. -/
def gnt0 (tsku : Bool) : Gnt :=
  { cert := (List.range 1024).map (Config.freeByte 3),
    level := 0, counts := [], log := [], armed := tsku, precomm := 0, provisioned := false,
    slots := [(0, (List.range 96).map (Config.freeByte 0)), (2, (List.range 96).map (Config.freeByte 2))],
    nonce := (Config.freeWord64 0).toNat, cmd := none, waiting := [], cellLost := false, rekey := [] }
/-- Image slot 0 holds the image the factory loaded. -/
def upd0 : Upd := ⟨0, false, [], [(0, ⟨0, 0, [], [], true⟩)], 0, none, none, none, false, false⟩
def pwr0 : Pwr :=
  ⟨2, 0, false, none, none, false, false, false, false, none, false, false, false, false, false⟩

/-- Registers whose word right after the first device reset is not the reset word of the register tables: DEV_RSTCAUSE
(cause POWER_ON, one reset), GNT_POLn (every action LOG, and the factory DEB of Table 16-1, R501) and KEY_STAT (slots 0
and 2). -/
def regs0 : SMap Word :=
  (R.DEV_RSTCAUSE, 0x00010001#32) ::
    ([2, 2, 10, 10, 20, 50, 0, 0, 0].zipIdx.map fun d => (R.GNT_POL d.2, BitVec.ofNat 32 (1 + d.1 * 65536))) ++ [(R.KEY_STAT, 5#32)]

/-- The module of the factory right after device reset has been released for the first time: island 13 alone runs
(R587), and every register holds its reset value. -/
def State.reset : State :=
  { pending := [], hw := ⟨true, false, 1, 0, 0x020000000000⟩, up := 0, clk := 0, regs := regs0, bank := [], tabs := [],
    ctl := ⟨[], [], [], [], [], []⟩, arb := ⟨0, none, 0, 0, [], [], 0, 0⟩, isl := ⟨0x2000, [], [], [], 0⟩,
    evt := ⟨0, [], false, none, none, [], [], (0, [])⟩, htk := htk0, lin := lin0, pres := ⟨[], [], [], [], [], [], []⟩,
    ing := ⟨[], [], [], [], [], [], [], [], [], [], []⟩, ren := ⟨[], [], [], [], [], []⟩, layMem := [], egrMem := [], ports := [],
    macs := [], pair := pair0, clkr := clk0 0, ptp := ⟨[]⟩, tio := ⟨in0, in0, false, 0, none, false, none⟩, drv := drv0,
    mtr := mtr0, hb := hb0, gnt := gnt0 false, upd := upd0, slf := ⟨[], [], [], [], [], 0⟩, pwr := pwr0, freeCtr := 1 }

end Sys2Proof.Machine
end

