-- ==== Sys2Proof/Machine/Base.lean ====
section
/-! DEFINITION. Readings and updates of the module's state that every block uses: time, registers, tables, pages. -/

namespace Sys2Proof.Machine

/-! Time -/

/-- Units of the local clock in one nanosecond (R391). -/
def clkPerNs : Nat := 16777216

/-- The local clock in whole nanoseconds. -/
def nowNs (s : State) : Nat := s.clk / clkPerNs

/-- Seconds and nanoseconds of a time in nanoseconds. -/
def secOf (t : Nat) : Nat := t / 1000000000
def nsOf (t : Nat) : Nat := t % 1000000000

/-- A time as items hold it: seconds modulo 2^32 and nanoseconds (R107), as one number of nanoseconds. -/
def time32 (t : Nat) : Nat := secOf t % 4294967296 * 1000000000 + nsOf t

/-- The local clock as items compare it. -/
def now32 (s : State) : Nat := time32 (nowNs s)

/-- At least `ns` nanoseconds have passed since an instant of up time (R29: the instant itself is within). -/
def elapsed (s : State) (since ns : Nat) : Bool := since + ns ≤ s.up

/-! Registers -/

/-- The stored word of a register. -/
def State.reg (s : State) (a : Nat) : Word := (sget s.regs a).getD (resetWord a)

/-- Store the word of a register. -/
def State.setReg (s : State) (a : Nat) (v : Word) : State :=
  { s with regs := sput s.regs a v (resetWord a) }

/-- A field of a stored register. -/
def State.regF (s : State) (a lo w : Nat) : Nat := fld (s.reg a) lo w

/-- A bit of a stored register. -/
def State.regB (s : State) (a i : Nat) : Bool := bit (s.reg a) i

/-- Store a field of a register. -/
def State.setRegF (s : State) (a lo w v : Nat) : State := s.setReg a (setFld (s.reg a) lo w v)

/-- Store a bit of a register. -/
def State.setRegB (s : State) (a i : Nat) (b : Bool) : State := s.setRegF a i 1 (b2n b)

/-- Add to a saturating count held in a field of `w` bits. -/
def State.count (s : State) (a lo w k : Nat) : State := s.setRegF a lo w (satAdd w (s.regF a lo w) k)

/-- Key of a register of one requester's bank (R54). -/
def bankKey (req a : Nat) : Nat := req * 0x1000000 + a

/-- A register of one requester's bank. -/
def State.breg (s : State) (req a : Nat) : Word := (sget s.bank (bankKey req a)).getD (resetWord a)

/-- Store a register of one requester's bank. -/
def State.setBreg (s : State) (req a : Nat) (v : Word) : State :=
  { s with bank := sput s.bank (bankKey req a) v (resetWord a) }

/-! Tables -/

/-- Key of a table entry. -/
def tabKey (t i : Nat) : Nat := t * 0x100000000 + i

/-- The fixed entry of a system flow (Table 4-2, R99): enable, class, policy and QMAX; the rest is STAGE 0, WAIT 0,
CONSUME 1, ATOMIC 0, AFF 0 and no post entry. -/
def sysEntry (f : Nat) : List Word :=
  let cls := if f = 240 || f = 241 then 0 else if f = 244 || f = 246 then 3 else 1
  let stop := b2n (f = 240 || f = 241)
  let qmax := if f = 240 then 1024 else if f = 241 then 2048 else if f = 244 then 64 else if f = 246 then 256
    else if f < 248 then 4096 else 1
  [w32 (b2n (f < 248) + 2 * (if f < 248 then cls else 3) + 16 * stop + 64), 0#32, w32 qmax] ++ List.replicate 16 0#32

/-- The entry a table has after reset: the reset words of its fields; a system flow has its fixed entry, the bin
matrix is the identity (Table 6-21) and a curve is the ramp of Table 6-22. -/
def entryReset (t i : Nat) : List Word :=
  if t = tHFL && decide (240 ≤ i) then sysEntry i
  else if t = tCALB then
    ((entryFields t).map resetOf).mapIdx fun k w => if k = 0 ∨ k = 4 ∨ k = 8 then 65536#32 else w
  else if t = tCALC then [w32 (16 * (i % 4096) + (i % 4096) / 256)]
  else (entryFields t).map resetOf

/-- A table entry. -/
def State.ent (s : State) (t i : Nat) : List Word := (sget s.tabs (tabKey t i)).getD (entryReset t i)

/-- Store a table entry. -/
def State.setEnt (s : State) (t i : Nat) (ws : List Word) : State :=
  { s with tabs := sput s.tabs (tabKey t i) ws (entryReset t i) }

/-- Word `k` of a table entry. -/
def State.entW (s : State) (t i k : Nat) : Word := lget (s.ent t i) k 0#32

/-- Field of word `k` of a table entry. -/
def State.entF (s : State) (t i k lo w : Nat) : Nat := fld (s.entW t i k) lo w

/-- Replace word `k` of a table entry. -/
def State.setEntW (s : State) (t i k : Nat) (v : Word) : State := s.setEnt t i ((s.ent t i).set k v)

/-! Pages -/

/-- PG_CTL.EN of a page. -/
def State.en (s : State) (p : Nat) : Bool := s.regB (R.PG_CTL p) 0

/-- PG_STAT.FROZEN: FRZ or GFRZ (Table 2-5). -/
def State.frozen (s : State) (p : Nat) : Bool := s.regB (R.PG_CTL p) 2 || s.regB (R.PG_CTL p) 3

/-- The block of a page is fitted (R2, R3). -/
def State.fitted (s : State) (p : Nat) : Bool :=
  match findPage p with
  | some d => !d.drive || s.hw.drive
  | none => false

/-- An island runs and its fence is open. -/
def State.islUp (s : State) (i : Nat) : Bool := s.isl.up.testBit i

/-- A free value: the counter it is drawn with, and the state with the counter advanced. -/
def State.draw (s : State) : State := { s with freeCtr := s.freeCtr + 1 }

end Sys2Proof.Machine
end

