-- ==== Sys2Proof/Machine/Flags.lean ====
section
/-! DEFINITION. The status flags: PG_STAT of the pages (Table 2-5), and the readings it is made of. -/

namespace Sys2Proof.Machine

/-! The Lining's room (15.1) -/

/-- Bytes a record of payload length `l` occupies (15.1). -/
def recBytes (l : Nat) : Nat := 16 * cdiv (l + 28) 16 + 16

/-- Bytes the submission queue holds (R483). -/
def subqBytes (s : State) : Nat := (s.lin.subq.map fun r => recBytes r.payload.length).foldl (· + ·) 0

/-- The sectors of the journal (R37). -/
def nSectors : Nat := 1024

/-- A sector; an unlisted one is erased and has never been erased before. -/
def sector0 : Sector := ⟨0, 0, 0, 0, 32, [], none⟩
def State.sect (s : State) (i : Nat) : Sector := sgetD s.lin.sectors i sector0

/-- How many sectors are not ERASED: only listed sectors can be. -/
def erasedSectors (s : State) : Nat :=
  nSectors - (s.lin.sectors.filter fun e => e.2.state != 0).length

/-- The latest valid checkpoint (R492). -/
def latestCkpt (s : State) : Option Ckpt :=
  match s.lin.slotA, s.lin.slotB with
  | some a, some b => some (if a.c < b.c ∨ (a.c = b.c ∧ s.lin.newB) then b else a)
  | some a, none => some a
  | none, b => b

/-- The checkpoint in force, or one that covers nothing, and the own sequence it covers. -/
def ckptNow (s : State) : Ckpt := (latestCkpt s).getD ⟨0, 0, [], 0, 0, 0, false, [], 0, 0, 0⟩
def ckptC (s : State) : Nat := (ckptNow s).c

/-- Record `i` of a sector is covered by a checkpoint: an own record by its sequence, a mirrored one by its place. -/
def Ckpt.covers (k : Ckpt) (x : Sector) (i : Nat) (r : LRec) : Bool :=
  if r.partner then decide (x.gen < k.gen) || (x.gen == k.gen && decide (i < k.pos)) else decide (r.seq ≤ k.c)

/-- The records of a sector that a checkpoint does not cover. -/
def Sector.after (x : Sector) (k : Ckpt) : List LRec :=
  (x.recs.mapIdx fun i r => (k.covers x i r, r)).filterMap fun e => if e.1 then none else some e.2

/-- A sector that holds nothing above what the latest valid checkpoint covers (R481). -/
def reclaimable (s : State) (x : Sector) : Bool := x.state == 2 && (x.after (ckptNow s)).isEmpty

/-- Sectors ERASED or that can be made so. -/
def availSectors (s : State) : Nat :=
  erasedSectors s + (s.lin.sectors.filter fun e => reclaimable s e.2).length

/-- Submissions are refused (PG_STAT.FULL, R485): not even a record without payload fits. -/
def linFull (s : State) : Bool := decide (2097152 < subqBytes s + recBytes 0) || decide (availSectors s < 2)

/-! Others -/

/-- A MAC after reset. -/
def mac0 : MacRt :=
  ⟨false, false, false, false, false, none, none, 0, false, 0, [], none, 0, none, false, [], [], 0, none, 0, 0, [], []⟩
def State.mac (s : State) (p : Nat) : MacRt := sgetD s.macs p mac0

/-- Nominal voltage in µV. -/
def unUv (s : State) : Nat := s.regF R.MTR_NOM 0 16 * 100000
def sumVV (w : List MtrPoint) (p : Nat) : Nat := (w.map fun x => (lget x.v p 0 * lget x.v p 0).natAbs).foldl (· + ·) 0

/-- A phase voltage reaches 40 % of Un over the window. -/
def vPresent (s : State) (w : List MtrPoint) (p : Nat) : Bool := decide (unUv s * unUv s * 800 * 4 ≤ 25 * sumVV w p)

/-- Free places of the Hatrack's 65,536 (HTK_QFREE). -/
def qFree (s : State) : Nat :=
  65536 - ((s.htk.flows.map fun e => e.2.queue.length).foldl (· + ·) 0 +
    (s.htk.lists.map fun e => e.2.length).foldl (· + ·) 0 + s.htk.svc.length)

/-- The page of a register, or of a staged string word (R334). -/
def pageAt (a : Nat) : Nat := if 0x10000000 ≤ a then 0x31 else a / 0x10000

/-- The staging area of a page holds writes. -/
def stagedOn (s : State) (p : Nat) : Bool := s.ctl.stage.any fun e => pageAt e.1 == p

/-- A committed set of a page awaits its latch point: an in-band commit of a layer is no set of page LAY (R161). -/
def pendingOn (s : State) (p : Nat) : Bool :=
  s.ctl.pend.any (fun e => pageAt e.1 == p) ||
    (p == 0x09 && s.ing.lays.any fun e => e.2.pend.any fun x => x.fnum.isNone) ||
    (p == 0x0D && s.pres.doms.any fun e => e.2.bridge.isSome) ||
    (decide (0x32 ≤ p) && decide (p ≤ 0x33) &&
      (match s.drv.mx[p - 0x32]? with | some x => !x.pend.isEmpty || !x.due.isEmpty | none => false))

/-- A sum of powers of two, for the true bits of a list of positions. -/
def maskBits (n : Nat) (f : Nat → Bool) : Nat := ((List.range n).filter f).foldl (fun a i => a + 2 ^ i) 0

/-- PG_STAT.BLK of a push port or MAC page: LINK and PAUSED. -/
def linkStat (s : State) (p : Nat) : Nat :=
  let m := sgetD s.macs p mac0
  b2n (m.link && (decide (p < 0x1A) || decide (0x22 ≤ p) || s.en p)) +
    2 * b2n (match m.hold with | some h => decide (s.up < h.until_) | none => false)

/-- An engine is out of reset (ENG_UP): its island runs and a reset of its own is over (R129, R133, Table 4-9). -/
def engUp (s : State) (n : Nat) : Bool :=
  s.islUp (n / 12) && match sget s.ren.resets n with
    | some t => decide (t + 20 + Config.engReset n t < s.up)
    | none => true

/-- When the latest reset of an engine alone was over, in ns of up time. -/
def engUpSince (s : State) (n : Nat) : Nat :=
  match sget s.ren.resets n with
  | some t => t + 20 + Config.engReset n t
  | none => 0

/-- Engines in reset. -/
def engDown (s : State) : Nat := maskBits 24 fun n => !engUp s n

/-- A heartbeat path is alive: one has arrived within the last 3 ms (R29). -/
def alive (s : State) (t : Option Nat) : Bool := match t with | some t => decide (s.up < t + 3000000) | none => false
def partnerHeard (s : State) : Bool := alive s s.pair.hbCuff || alive s s.pair.hbRing

/-- PG_STAT.BLK of a page, from bit 16: the rows PG_STAT of the blocks' register tables. -/
def statBlk (s : State) (p : Nat) : Nat :=
  match p with
  | 0x00 => b2n s.pwr.ready
  | 0x02 => maskBits 8 (fun n => (sget s.ctl.seqs n).isSome) + s.regF R.CB_BARRIER 0 8 * 256
  | 0x03 => b2n s.evt.alert
  | 0x04 =>
    b2n (s.en 0x04 && s.islUp 2 && s.upd.pauseAt.isNone) + 2 * b2n (decide (qFree s ≤ s.regF R.HTK_DISP 16 13)) +
      min (s.htk.flows.filter fun e => e.2.state == .stopped).length 255 * 256
  | 0x06 => (bitsOf 24 (engDown s)).length
  | 0x09 => maskBits 4 fun n => match sget s.ing.streams n with | some x => x.live | none => false
  | 0x0A => (s.pres.srfs.filter fun e => e.2.state != 0).length
  | 0x0D =>
    maskBits 4 (fun d => match sget s.pres.doms d with | some x => x.running | none => false) +
      16 * maskBits 4 fun d => match sget s.pres.doms d with | some x => x.bridge.isSome | none => false
  | 0x22 | 0x23 => s.regF (R.HB_PORT (p - 0x22)) 0 2 + s.regF (R.HB_RING 0) 0 2 * 4 + b2n (s.regF (R.HB_ADDR 0) 0 8 != 0) * 16
  | 0x24 =>
    (match s.pair.role with | .unbound => 0 | .seeking => 1 | .standby => 2 | .active => 3) + b2n s.pair.synced * 8 +
      b2n s.pair.async * 16 + b2n (s.pair.partner && partnerHeard s) * 32 + b2n s.pair.yield.isSome * 64
  | 0x28 =>
    s.clkr.state + 4 * b2n s.clkr.valid + 8 * b2n s.clkr.inspec + 16 * s.clkr.src + 64 * b2n s.clkr.slew.isSome +
      128 * s.regF R.CLK_CTL 0 1
  | 0x29 => s.regF (R.PG_STAT 0x29) 16 8
  | 0x2A => b2n s.tio.ltc.lock + 2 * b2n s.tio.wclk.lock + 4 * b2n s.tio.ppsOk
  | 0x30 => b2n (s.drv.dark == 0) + 2 * b2n (decide (s.regF R.DRV_FACTOR 0 9 < 256))
  | 0x32 | 0x33 =>
    if s.regB R.DRV_MXSUP 15 || s.reg (R.MX_LSHORT (p - 0x32)) != 0#32 then 2
    else b2n (match s.drv.mx[p - 0x32]? with | some x => x.scanning | none => false)
  | 0x38 =>
    b2n s.mtr.run + 2 * b2n (!s.regB R.MTR_CTL 0 && !s.pair.accs.isEmpty) + 4 * s.regF R.MTR_SEAL 0 1 +
      8 * s.regF R.MEA_FREQ 20 1 + 16 * maskBits 3 (vPresent s s.mtr.win)
  | 0x40 => s.lin.state + 4 * b2n s.lin.run.isSome + 8 * b2n (linFull s)
  | 0x44 => s.gnt.level + 8 * b2n (sget s.gnt.slots 1).isSome
  | 0x48 => s.upd.state + 8 * s.upd.running + 16 * b2n s.upd.updating
  | 0x4C => b2n (s.slf.qs.any fun e => e.2.state != 0)
  | 0x50 =>
    b2n s.pwr.charged + 2 * b2n s.pwr.pfw.isSome + 4 * b2n s.pwr.low36 + 8 * b2n s.pwr.low40 + 16 * b2n s.pwr.overv
  | 0x51 => b2n s.pwr.warn + 2 * b2n (decide (750 ≤ toSigned 16 (s.regF R.THM_BASE 0 16)))
  | _ => if 0x10 ≤ p ∧ p ≤ 0x21 then linkStat s p else 0

/-- PG_STAT (Table 2-5). -/
def pgStat (s : State) (p : Nat) : Word :=
  let ready := match findPage p with
    | some d => s.en p && s.fitted p && s.islUp d.isl
    | none => false
  w32 (b2n ready + 2 * b2n (stagedOn s p) + 4 * b2n (pendingOn s p) + 8 * b2n (s.frozen p) +
    16 * b2n (s.regB (R.PG_ERR p) 31) + statBlk s p * 65536)

end Sys2Proof.Machine
end

