-- ==== Sys2Proof/Machine/Ops.lean ====
section
/-! DEFINITION. The named operations that every block uses: submission to the Lining, events, rejection and replies. -/

namespace Sys2Proof.Machine

/-- A fence answers requests with RESET_ABORT (R18, R20): counted on page ISL. -/
def abortCount (s : State) (i n : Nat) : State :=
  if n = 0 then s else (s.count R.ISL_ABORT 0 16 n).setRegF R.ISL_ABORT 16 4 i

/-! Calibrated quantities (Table 18-1) -/

/-- A quantity after device reset, before R548: the factory value 0. -/
def qty0 : Qty := ⟨0, 0, 0, 0, 0, 0, 0, false, none, 0, true, 0, false⟩
def State.qty (s : State) (q : Nat) : Qty := sgetD s.slf.qs q qty0
def State.setQty (s : State) (q : Nat) (x : Qty) : State := { s with slf := { s.slf with qs := sput s.slf.qs q x qty0 } }

/-- What a quantity's path waits for since its value moved (Table 18-1): the next tick of the time clock, the next whole second
for the 1PPS output delay, and the next P_k of the drive domain, which ends the wait itself, for the drive's references. -/
def pathEra (s : State) (q : Nat) : Nat := if q = 0x20 then secOf (nowNs s) else if q < 0x30 then s.up else 0

/-- The value that a quantity's path has (Table 18-1). -/
def qtyPath (s : State) (q : Nat) : Int :=
  match sget s.slf.paths q with
  | some (era, v) => if era = pathEra s q then v else (s.qty q).value
  | none => (s.qty q).value

/-- Place of a page's port in the list of Table 18-1: U0, U1, P0-P7, H0, H1, M. -/
def calIndex (pg : Nat) : Option Nat :=
  if 0x10 ≤ pg ∧ pg ≤ 0x19 then some (pg - 0x10) else if 0x22 ≤ pg ∧ pg ≤ 0x24 then some (pg - 0x22 + 10) else none

/-- A voltage in 10 mV that a rail's sense gives, with its offset (codes 0x30-0x33), and a current that a reference gives, in steps
of 0.1 % (codes 0x34 and 0x35). -/
def railSense (s : State) (r v : Nat) : Nat := (clampI 0 16383 (v + qtyPath s (0x30 + r))).toNat
def refCurrent (s : State) (q i : Nat) : Nat := (i * (1000 + qtyPath s q) / 1000).toNat

/-- A calibrated delay in ns: code `q` of Table 18-1, in taps of 25 ps. -/
def calDelay (s : State) (q : Nat) : Int := qtyPath s q * 25 / 1000

/-! Submission to the Lining (15.3) -/

/-- The record of a submission at this instant: the sequence is given when it is numbered (R483). -/
def mkRec (s : State) (typ : Nat) (final log : Bool) (payload : List Byte) : LRec :=
  ⟨false, typ, final, log, false, 0, nsOf (nowNs s), secOf (nowNs s) % 2 ^ 48, payload⟩

/-- The rows of Table 20-10 run: since a power-fail warning, or for an orderly reset (R594). -/
def cutPower (s : State) : Bool := s.pwr.pfw.isSome || s.pwr.orderly.isSome

/-- Since the power-fail warning the Lining takes FINAL records alone (R491). -/
def pfRefuses (s : State) (r : LRec) : Bool := !r.final && (s.lin.state == 2 || cutPower s)

/-- Whether the Lining takes a submission (R485, R491). -/
def linAccepts (s : State) (r : LRec) : Bool :=
  !pfRefuses s r && decide (subqBytes s + recBytes r.payload.length ≤ 2097152) && decide (2 ≤ availSectors s)

/-- Put an accepted record on the submission queue. -/
def linPush (s : State) (r : LRec) : State := { s with lin := { s.lin with subq := s.lin.subq ++ [r] } }

/-! Events (chapter 19) -/

/-- Event source of a page's MAC block (Table 19-1). -/
def macSrc (p : Nat) : Nat := 0x80 + p - 0x10

/-- A source is active (R556, R557): a masked raw bit of its fitted page or MAC block, or a software
source. -/
def srcActive (s : State) (src : Nat) : Bool :=
  if src < 0x80 then
    s.fitted src &&
      (s.reg (R.PG_EVRAW src)).toNat &&& (s.reg (R.PG_EVMSK src)).toNat != 0
  else if src < 0x95 then
    (s.reg (R.MAC_EVRAW (src - 0x70))).toNat &&& (s.reg (R.MAC_EVMSK (src - 0x70))).toNat != 0
  else if 0xC0 ≤ src && src < 0xD0 then s.evt.sw.testBit (src - 0xC0)
  else false

/-- Active sources of a group. -/
def evtSrc (s : State) (g : Nat) : Nat := sgetD s.evt.src g 0

/-- EVT_SUM: groups with an active source that drives ALERT_N (Table 19-9). -/
def evtSum (s : State) : List Nat :=
  (List.range 8).filter fun g => evtSrc s g &&& (s.reg (R.EVT_AMSK g)).toNat != 0

/-- ALERT_N is wanted low (R558). -/
def alertWanted (s : State) : Bool := s.regB R.EVT_ALERT 0 && !(evtSum s).isEmpty

/-- The lowest source that drives ALERT_N (R559). -/
def alertLowest (s : State) : Nat :=
  match evtSum s with
  | [] => 0
  | g :: _ => 32 * g + ((bitsOf 32 (evtSrc s g &&& (s.reg (R.EVT_AMSK g)).toNat)).headD 0)

/-- Drive ALERT_N low where it is wanted and its 1 µs release has passed (R558), and record the first source
(R559). -/
def alertDrive (s : State) : State :=
  let rested := match s.evt.alertRel with
    | none => true
    | some t => elapsed s t 1000
  if alertWanted s && !s.evt.alert && rested then
    let s1 := { s with evt := { s.evt with alert := true } }
    if s.regB R.EVT_FIRST 31 then s1
    else { s1 with evt := { s1.evt with firstAt := some s.up } }.setReg R.EVT_FIRST (w32 (2 ^ 31 + alertLowest s))
  else if alertWanted s && s.evt.firstAt == some s.up && s.regB R.EVT_FIRST 31 then
    -- more sources in the cycle in which ALERT_N went low
    s.setReg R.EVT_FIRST (w32 (2 ^ 31 + min (s.regF R.EVT_FIRST 0 8) (alertLowest s)))
  else s

/-- ALERT_N is released once nothing drives it (R558); an alert that waited for its minimum pause is driven. -/
def alertRelease (s : State) : State :=
  if s.evt.alert && !alertWanted s then { s with evt := { s.evt with alert := false, alertRel := some s.up } }
  else alertDrive s

/-- Bring one source up to date; a rise is noted for the Hatband relay (R438, R560). -/
def evtTouch (s : State) (src : Nat) : State :=
  let g := src / 32
  let old := evtSrc s g
  let b := 2 ^ (src % 32)
  let now := srcActive s src
  if now && !old.testBit (src % 32) then
    let s1 := { s with evt := { s.evt with src := sput s.evt.src g (old + b) 0 } }
    let s2 :=
      if s.regF (R.HB_EVDST 0) 0 8 != 0 && s.regB (R.HB_EVDST 0) (8 + g) then
        { s1 with evt := { s1.evt with relay := s1.evt.relay ++ [⟨g, old + b, nowNs s, s.regF (R.HB_EVDST 0) 0 8⟩] } }
      else s1
    alertDrive s2
  else if !now && old.testBit (src % 32) then
    { s with evt := { s.evt with src := sput s.evt.src g (old - b) 0 } }
  else s

/-- A raw bit is set in this cycle (Table 19-7). -/
def noteFresh (s : State) (a n : Nat) : State :=
  let f := s.evt.fresh
  { s with evt := { s.evt with fresh := (s.up, (a, n) :: if f.1 = s.up then f.2 else []) } }

/-- The word of a write to register `a` without the ones for raw bits that were set in this cycle: the set stands (Table 19-7). -/
def keepFresh (s : State) (a : Nat) (v : Word) : Word :=
  if s.evt.fresh.1 = s.up then
    s.evt.fresh.2.foldl (fun w e => if e.1 = a then w &&& ~~~(1#32 <<< e.2) else w) v
  else v

/-- Set bit `n` of the raw events of a page, or of its MAC block (`mac`). -/
def setRaw (s : State) (p : Nat) (mac : Bool) (n : Nat) : State :=
  let a := if mac then R.MAC_EVRAW p else R.PG_EVRAW p
  evtTouch (noteFresh (s.setRegB a n true) a n) (if mac then macSrc p else p)

/-- Payload of a FAULT record (Table 15-3, R561). -/
def faultPayload (s : State) (p : Nat) (mac : Bool) (n : Nat) : List Byte :=
  leBytes 1 p ++ leBytes 1 (if mac then 32 + n else n) ++ leBytes 2 0 ++
    leBytes 4 (if n = 31 && !mac then (s.reg (R.PG_ERR p)).toNat else (pgStat s p).toNat)

/-- The instants of a source's journalled faults within the last second (R562). -/
def logRecent (s : State) (src : Nat) : List Nat :=
  (sgetD s.evt.logAt src []).filter fun t => s.up < t + 1000000000

/-- LIN_FAIL (R487, Table 15-7). -/
def linFail (s : State) (cause : Nat) (r : LRec) : State :=
  s.setReg R.LIN_FAIL (w32 (cause + (if r.typ = 1 ∨ r.typ = 2 then (lget r.payload 0 0#8).toNat else 0) * 256 + 2 ^ 31))

/-- The counters of a submission that is not taken: refused (R485), or discarded after the power-fail warning (R491). -/
def linRefused (s : State) (r : LRec) : State :=
  if pfRefuses s r then linFail (s.count R.LIN_CNT1 16 16 1) 3 r else s.count R.LIN_CNT0 0 16 1

/-- Raise a raw event bit (R557): a rise on a journalled source submits a FAULT record (R561), at most 16 in any
second of one source; a rise beyond that, or one the Lining refuses, is counted and raises LOG_DROP (R562). A refused
submission also counts on page LIN and raises FULL there (R485). `fuel` bounds events raised by raising events. -/
def raiseN : Nat → State → Nat → Bool → Nat → State
  | 0, s, p, mac, n => setRaw s p mac n
  | fuel + 1, s, p, mac, n =>
    let a := if mac then R.MAC_EVRAW p else R.PG_EVRAW p
    let src := if mac then macSrc p else p
    let rise := !s.regB a n
    let s1 := setRaw s p mac n
    if rise && s.regB (R.EVT_LOG (src / 32)) (src % 32) then
      let recent := logRecent s1 src
      let r := mkRec s1 0x10 false true (faultPayload s1 p mac n)
      if 16 ≤ recent.length then
        raiseN fuel (s1.count R.EVT_LOGCNT 16 16 1) 3 false 0
      else if linAccepts s1 r then
        let s2 := linPush s1 r
        { s2 with evt := { s2.evt with logAt := sput s2.evt.logAt src (s2.up :: recent) [] } }.count R.EVT_LOGCNT 0 16 1
      else
        let s3 := linRefused (s1.count R.EVT_LOGCNT 16 16 1) r
        let s4 := raiseN fuel s3 0x40 false (if pfRefuses s r then 7 else 3)
        raiseN fuel s4 3 false 0
    else s1

/-- Submit a record (R483): refused submissions count and raise FULL (R485), or PF_DISCARD after the power-fail
warning (R491). The answer says whether the Lining took it. -/
def linSubmit (s : State) (r : LRec) : State × Bool :=
  if linAccepts s r then (linPush s r, true)
  else (raiseN 2 (linRefused s r) 0x40 false (if pfRefuses s r then 7 else 3), false)

/-- Raise bit `n` of PG_EVRAW of a page. -/
def raise (s : State) (p n : Nat) : State := raiseN 3 s p false n

/-- Raise bit `n` of MAC_EVRAW of a page. -/
def raiseMac (s : State) (p n : Nat) : State := raiseN 3 s p true n

end Sys2Proof.Machine
end

