-- ==== Sys2Proof/Machine/Layers.lean ====
section
/-! DEFINITION. Timing domains and layer buffer slots as the other blocks see them: the present and next epoch of a
domain, late commits (R224), the slot states of Table 5-4 and the selection of a slot (R153-R157). -/

namespace Sys2Proof.Machine

/-! Domains (7.1) -/

/-- A domain that has never run. -/
def dom0 : DomRt := ⟨false, ⟨0, 1, 1⟩, none, ⟨0, 0, 0, 0⟩, none, []⟩
def State.dom (s : State) (d : Nat) : DomRt := sgetD s.pres.doms d dom0
def State.setDom (s : State) (d : Nat) (r : DomRt) : State :=
  { s with pres := { s.pres with doms := sput s.pres.doms d r dom0 } }

/-- A point of a grid. -/
def Grid.pt (g : Grid) (j : Nat) : Nat := g.org + j * g.num / g.den

/-- The index of the first grid point at or after `t`. -/
def Grid.firstAt (g : Grid) (t : Nat) : Nat :=
  if t ≤ g.org then 0
  else
    let j := (t - g.org) * g.den / g.num
    if t ≤ g.pt j then j else if t ≤ g.pt (j + 1) then j + 1 else j + 2

/-- A late commit (R224): counted, and the first one since LATEREC was cleared is recorded. -/
def commitLate (s : State) (d page req : Nat) : State :=
  let s1 := s.count (R.TDM_LATE d) 0 16 1
  let s2 := if s1.regB R.TDM_LATEREC 31 then s1
    else s1.setReg R.TDM_LATEREC (w32 (d + page * 256 + req * 65536 + 2 ^ 31))
  raise s2 0x0D 0

/-- Epoch number `k` by the timing of a segment. -/
def Seg.ep (g : Seg) (k : Nat) : EpochPt :=
  let j := if g.k0 ≤ k then g.j0 + (k - g.k0) else g.j0 - (g.k0 - k)
  ⟨k, j, g.grid.pt j, if k = g.k0 then g.l0 else g.grid.pt j - g.lead⟩

/-- The timing of a domain's epochs, newest first, with a pending change; where that change left no bridge, no epoch of the
old timing occurs (R618). -/
def DomRt.segs (r : DomRt) : List Seg :=
  match r.bridge with
  | some b =>
    let g : Seg := ⟨b.k, b.j, b.grid, b.lead, b.l⟩
    if b.pm.isSome then g :: r.hist else [g]
  | none => r.hist

/-- Epoch number `k` of a domain (R218): by the timing in force for it. -/
def epochOf (s : State) (d k : Nat) : EpochPt :=
  let r := s.dom d
  if r.next.k = k then r.next
  else match r.cur with
    | some c => if c.k = k then c else segEp r
    | none => segEp r
where
  segEp (r : DomRt) : EpochPt :=
    match r.segs.find? fun g => decide (g.k0 ≤ k) with
    | some g => g.ep k
    | none => match r.segs.getLast? with
      | some g => g.ep k
      | none => r.next

/-- The first epoch with a presentation time at or after `t` by the timing segments. -/
def firstIn : List Seg → Nat → Option EpochPt
  | [], _ => none
  | g :: rest, t =>
    let j := max g.j0 (g.grid.firstAt t)
    let e := g.ep (g.k0 + (j - g.j0))
    if j = g.j0 then
      match firstIn rest t with
      | some o => if o.k < g.k0 then some o else some e
      | none => some e
    else some e

/-- The first epoch of a domain with a presentation time at or after `t`. -/
def epochFrom (s : State) (d t : Nat) : EpochPt :=
  let r := s.dom d
  let e := (firstIn r.segs t).getD r.next
  match r.cur with
  | some c => if c.k < e.k ∧ t ≤ c.p then c else epochOf s d (if e.k = c.k ∧ c.p < t then e.k + 1 else e.k)
  | none => epochOf s d e.k

/-- The first epoch of a domain with a latch point at or after `t`: latch points lie between presentation times. -/
def latchFrom (s : State) (d t : Nat) : EpochPt :=
  let e := epochFrom s d t
  if t ≤ e.l then e else epochOf s d (e.k + 1)

/-- The epoch whose latch point is processed at time `t` (R227, R228): the latest one passed, and whether the bridge
applies with it. -/
def dueEpoch (s : State) (d t : Nat) : Option (EpochPt × Bool) :=
  let r := s.dom d
  if r.running && decide (r.next.l ≤ t) then
    let k := max r.next.k ((latchFrom s d (t + 1)).k - 1)
    some (epochOf s d k, match r.bridge with | some b => decide (b.k ≤ k) | none => false)
  else none

/-- A time lies in a lead interval of the domain (R224). -/
def inLead (s : State) (d c : Nat) : Bool := (s.dom d).running && decide ((epochFrom s d (c + 1)).l ≤ c)

/-- T_guard of a domain in ns. -/
def guardNs (s : State) (d : Nat) : Nat := s.regF (R.TDM_GUARD d) 0 11 * 1000

/-- The full number of an epoch known by its low 32 bits, nearest to the domain's present one (R218). -/
def fullEpoch (s : State) (d e : Nat) : Nat :=
  let r := s.dom d
  let b := (match r.cur with | some c => c | none => r.next).k
  let fwd := (e + 2 ^ 32 - b % 2 ^ 32) % 2 ^ 32
  if fwd < 2 ^ 31 then b + fwd else b - (2 ^ 32 - fwd)

/-- The presentation time of the epoch with low number bits `e` (R218). -/
def epochP (s : State) (d e : Nat) : Nat := (epochOf s d (fullEpoch s d e)).p

/-- The latch point of epoch number `k` has passed: an epoch at or after it was processed, or its time has come. -/
def latchPassed (s : State) (d k : Nat) : Bool :=
  let r := s.dom d
  (match r.cur with | some c => decide (k ≤ c.k) | none => false) ||
    (decide (r.next.k ≤ k) && decide ((epochOf s d k).l ≤ nowNs s))

/-- The first presentation time of the domain with `P - T_guard > t` (R278). -/
def restampP (s : State) (d t : Nat) : Nat := (epochFrom s d (t + guardNs s d + 1)).p

/-- The surface of a check rectangle (Table 7-17), and the timing domain of a surface. -/
def chkSurf (s : State) (n : Nat) : Nat := s.entF tCHKR n 0 3 6
def srfDom (s : State) (n : Nat) : Nat := s.regF (R.SRF_CTL n) 2 2

/-- The surface of a stack or colour-settings index (Tables 6-11, 6-12). -/
def engSurf (tab idx : Nat) : Nat := if tab = tENGK then idx / 32 else idx

/-- A CHECK of rectangle `n` for the epoch with low bits `e` comes at or after L_{e+1} of its surface's domain (R253). -/
def chkLate (s : State) (n e : Nat) : Bool :=
  let d := srfDom s (chkSurf s n)
  (s.dom d).running && latchPassed s d (fullEpoch s d e + 1)

/-! Layers (5.2) -/

/-- A layer with nothing shown. -/
def lay0 : LayRt := ⟨List.replicate 4 ⟨0, 0, false⟩, [], false, none, 0, none, 0, 0, 0, 0, false, [], 0, none⟩
def State.lay (s : State) (n : Nat) : LayRt := sgetD s.ing.lays n lay0
def State.setLay (s : State) (n : Nat) (r : LayRt) : State :=
  { s with ing := { s.ing with lays := sput s.ing.lays n r lay0 } }

def layEn (s : State) (n : Nat) : Bool := s.entF tLAY n 0 0 1 = 1
def laySrc (s : State) (n : Nat) : Nat := s.entF tLAY n 0 1 2
def layFmt (s : State) (n : Nat) : Nat := s.entF tLAY n 0 8 8
def layNbuf (s : State) (n : Nat) : Nat := s.entF tLAY n 0 16 3
def layDom (s : State) (n : Nat) : Nat := s.entF tLAY n 0 20 2
/-- INCPOL = PRESENT. -/
def layPresent (s : State) (n : Nat) : Bool := s.entF tLAY n 0 22 1 = 1
def layMatrix (s : State) (n : Nat) : Nat := s.entF tLAY n 0 24 2
def layFull (s : State) (n : Nat) : Bool := s.entF tLAY n 0 26 1 = 1
def layInter (s : State) (n : Nat) : Bool := s.entF tLAY n 0 27 1 = 1
def layW (s : State) (n : Nat) : Nat := s.entF tLAY n 1 0 14
def layH (s : State) (n : Nat) : Nat := s.entF tLAY n 1 16 14
/-- Byte offset of a slot's buffer in the layer region. -/
def layBase (s : State) (n m : Nat) : Nat := s.entF tLAY n (2 + m) 0 18 * 4096

/-- The slot record of a layer. -/
def slotAt (s : State) (n m : Nat) : SlotRt := lget (s.lay n).slots m ⟨0, 0, false⟩
def setSlot (s : State) (n m : Nat) (x : SlotRt) : State :=
  s.setLay n { s.lay n with slots := (s.lay n).slots.set m x }
def setSlotSt (s : State) (n m st : Nat) : State := setSlot s n m { slotAt s n m with st := st }

/-- The slot that is SHOWN. -/
def shownSlot (s : State) (n : Nat) : Option Nat := (List.range 4).find? fun m => (slotAt s n m).st == 3

/-- The slot of every layer that is SHOWN now: what an item that starts now may read (R186). -/
def shownNow (s : State) : List (Nat × Nat × Nat) :=
  (s.ing.lays.map fun e => match shownSlot s e.1 with | some m => [(e.1, m, e.2.shownAt)] | none => []).flatten

/-- An item in service started while the slot was SHOWN (R186). -/
def slotRead (s : State) (n m : Nat) : Bool :=
  (s.htk.svc ++ s.htk.orphans).any fun v => v.reads.any fun r => r.1 == n && r.2.1 == m

/-- The lowest-numbered FREE slot that ingest may take. -/
def freeSlot (s : State) (n : Nat) : Option Nat :=
  (List.range (layNbuf s n)).find? fun m => (slotAt s n m).st == 0 && !slotRead s n m

/-- A pending selection is superseded (R156, R157): its slot becomes FREE unless `keep`, and it is counted. -/
def supersede (s : State) (n : Nat) (p : PendSel) (keep : Option Nat) : State :=
  let s1 := if keep = some p.slot || (slotAt s n p.slot).st != 2 then s else setSlotSt s n p.slot 0
  if keep = some p.slot then s1
  else raise (s1.setLay n { s1.lay n with superseded := satAdd 16 (s1.lay n).superseded 1 }) 0x09 1

/-- A slot becomes SHOWN at time `t` (Table 5-4): the slot shown before becomes FREE. A slot that is SHOWN already became so
before (R156, R203). -/
def showSlot (s : State) (n : Nat) (p : PendSel) (t : Nat) : State :=
  let same := shownSlot s n = some p.slot
  let s1 := match shownSlot s n with
    | some m => if m = p.slot then s else setSlotSt s n m 0
    | none => s
  let s2 := setSlotSt s1 n p.slot 3
  let s3 := if p.fnum.isNone then s2.setReg (R.LAY_FRAME n) (w32 p.slot) else s2
  let l := s3.lay n
  s3.setLay n { l with
    shownInc := p.inc, shownFnum := p.fnum, shownAt := if same then l.shownAt else t, shownMedia := p.media }

/-- Frames of an ST 2110 layer in MEDIA mode: the stream that names the layer has ALIGN = 1. -/
def streamOf (s : State) (n : Nat) : Option Nat :=
  (List.range 4).find? fun i => s.regB (R.LAY_SCTL i) 0 && s.regF (R.LAY_SCTL i) 2 8 == n

/-- One media time lies before another; commits without one are in no order of media time (R157). -/
def mediaBefore (a b : Option Int) : Bool :=
  match a, b with
  | some x, some y => decide (x < y)
  | _, _ => false

/-- A commit names a slot (R154-R157): with the domain stopped it shows at once (R226); otherwise it waits for its
latch point, and takes the place of earlier selections but those due before its own time (R224); a commit of the SHOWN slot
drops them and leaves it SHOWN. A frame older than the shown one is superseded. A standby's own frames take effect only as its
EPOCH messages name them (R455). -/
def selectSlot (s : State) (n : Nat) (p : PendSel) : State :=
  let older := (s.lay n).pend
  let r := s.dom (layDom s n)
  let waits := s.pair.role == .standby && p.fnum.isSome
  if mediaBefore p.media (s.lay n).shownMedia then supersede (setSlotSt s n p.slot 2) n p none
  else if !r.running && !waits then
    let s1 := older.foldl (fun t q => supersede t n q (some p.slot)) s
    showSlot (s1.setLay n { s1.lay n with pend := [] }) n p p.time
  else match p.target with
    | none =>
      let due (q : PendSel) : Bool := match dueEpoch s (layDom s n) p.time with | some e => decide (q.time < e.1.l) | none => false
      if older.any fun q => q.target.isNone && decide (p.time < q.time) then
        -- the later commit time wins (Table 5-9)
        let used := older.any fun q => q.slot == p.slot
        supersede (if used || shownSlot s n = some p.slot then s else setSlotSt s n p.slot 2) n p
          (if used then some p.slot else none)
      else
      let s1 := (older.filter fun q => !due q).foldl (fun t q => supersede t n q (some p.slot)) s
      let rest := older.filter due
      if shownSlot s n = some p.slot && rest.isEmpty && !waits then
        showSlot (s1.setLay n { s1.lay n with pend := [] }) n p p.time
      else
        let s2 := s1.setLay n { s1.lay n with pend := rest ++ [p] }
        if shownSlot s n = some p.slot then s2 else setSlotSt s2 n p.slot 2
    | some k =>
      let newer := older.any fun q => mediaBefore p.media q.media && decide (q.target.getD 0 ≤ k)
      if newer then supersede (setSlotSt s n p.slot 2) n p none
      else
        let gone := older.filter fun q => mediaBefore q.media p.media && decide (k ≤ q.target.getD 0)
        let kept := older.filter fun q => !(mediaBefore q.media p.media && decide (k ≤ q.target.getD 0))
        let s1 := gone.foldl (fun t q => supersede t n q none) s
        setSlotSt (s1.setLay n { s1.lay n with pend := kept ++ [p] }) n p.slot 2

/-- At a latch point of epoch `k` at time `l`, the due selections of a layer apply: the newest is shown, older ones are
superseded (R157). -/
def latchLayer (s : State) (n k l : Nat) : State :=
  let due (p : PendSel) : Bool := match p.target with | some e => decide (e ≤ k) | none => decide (p.time < l)
  let ready := (s.lay n).pend.filter due
  match ready.getLast? with
  | none => s
  | some p0 =>
    let p := ready.foldl (fun a b => if mediaBefore b.media a.media then a else b) p0
    let s1 := s.setLay n { s.lay n with pend := (s.lay n).pend.filter fun q => !due q }
    let s2 := (ready.filter (· != p)).foldl (fun t q => supersede t n q (some p.slot)) s1
    -- a selection of the slot just shown names the SHOWN slot: it stays so (R156)
    let s3 := showSlot s2 n p l
    let s4 := ((s3.lay n).pend.filter fun q => q.target.isNone && q.slot == p.slot).foldl (fun t q =>
      showSlot (t.setLay n { t.lay n with pend := (t.lay n).pend.erase q }) n q q.time) s3
    -- one of the slot shown before keeps that slot from ingest (Table 5-4)
    ((s4.lay n).pend.filter fun q => (slotAt s4 n q.slot).st == 0).foldl (fun t q => setSlotSt t n q.slot 2) s4

end Sys2Proof.Machine
end

