-- ==== Sys2Proof/Machine/Hatrack.lean ====
section
/-! DEFINITION. The Hatrack (chapter 4): flows, items, flags, enqueue, delay lists, dispatch and failure. -/

namespace Sys2Proof.Machine

/-! Items (4.3) -/

/-- A time no item has: the deadline of an item without one sorts after every other (R107). -/
def noTime : Nat := 2 ^ 70

/-- Word `k` of an item. -/
def Item.word (i : Item) (k : Nat) : Word := lget i.w k 0#32
/-- Field of word `k` of an item. -/
def Item.f (i : Item) (k lo w : Nat) : Nat := fld (i.word k) lo w
def Item.kind (i : Item) : Nat := i.f 0 0 8
def Item.flow (i : Item) : Nat := i.f 0 8 8
def Item.list (i : Item) : Nat := i.f 0 16 3
def Item.expire (i : Item) : Bool := i.f 0 19 1 = 1
def Item.last (i : Item) : Bool := i.f 0 20 1 = 1
/-- The item as the last of its group. -/
def Item.asLast (i : Item) : Item := { i with w := i.w.set 0 (i.word 0 ||| 0x100000#32) }
def Item.postsel (i : Item) : Nat := i.f 0 24 8
/-- Not-before time as one number of ns. -/
def Item.nbt (i : Item) : Nat := (i.word 2).toNat * 1000000000 + (i.word 1).toNat
/-- Deadline as one number of ns, or `noTime`. -/
def Item.ddl (i : Item) : Nat :=
  if (i.word 3).toNat = 0xFFFFFFFF ∧ (i.word 4).toNat = 0xFFFFFFFF then noTime
  else (i.word 4).toNat * 1000000000 + (i.word 3).toNat
def Item.cost (i : Item) : Nat := i.f 5 0 16
def Item.tag (i : Item) : Nat := i.f 5 16 16

/-- Kinds of Table 4-5. -/
abbrev kRender := 1
abbrev kPush := 2
abbrev kCheck := 3
abbrev kIngest := 4
abbrev kFold := 5
abbrev kAppend := 6
abbrev kCal := 7
abbrev kPoll := 8
abbrev kCue := 9
abbrev kTest := 10

/-- What an internal enqueuer states of an item besides its arguments. -/
structure ItemHead where
  kind : Nat
  flow : Nat
  list : Nat := 0
  expire : Bool := false
  post : Nat := 0
  nbt : Nat := 0
  ddl : Nat := noTime
  cost : Nat := 1
  tag : Nat := 0
  mach : Bool := false
  deriving DecidableEq, Repr

/-- An item of an internal enqueuer, with its argument words W6, W7, … -/
def mkItem (h : ItemHead) (args : List Nat) : Item :=
  let d := if h.ddl = noTime then [0xFFFFFFFF, 0xFFFFFFFF] else [nsOf h.ddl, secOf h.ddl]
  let head := [h.kind + h.flow * 2 ^ 8 + h.list * 2 ^ 16 + b2n h.expire * 2 ^ 19 + h.post % 256 * 2 ^ 24,
    nsOf h.nbt, secOf h.nbt] ++ d ++ [h.cost + h.tag * 65536] ++ args
  ⟨(head ++ List.replicate (16 - head.length) 0).map w32, 0, false, h.mach⟩

/-- Argument words W6-W15 by kind, field by field (Table 4-6); a word without fields is reserved. -/
def argFields (kind : Nat) : List (List FieldD) :=
  let all := fd 0 32 .rw 0
  match kind with
  | 1 => [[fd 0 6 .rw 0, fd 8 16 .rw 0], [fd 0 24 .rw 0], [fdx 0 16 .rw 0 [(1, 4096)] false], [fd 0 24 .rw 0], [all]]
  | 2 => [[fdx 0 5 .rw 0 [(0, 16)] false, fd 10 1 .rw 0, fd 12 12 .rw 0], [fd 0 24 .rw 0],
      [fdx 0 16 .rw 0 [(1, 65535)] false, fdx 16 11 .rw 0 [(1, 1024)] false], [all], [all], [fd 0 6 .rw 0], [all]]
  | 3 => [[fd 0 6 .rw 0, fd 6 1 .rw 0], [all]]
  | 4 => [[fdx 0 8 .rw 0 [(0, 191)] false, fdx 8 2 .rw 0 [(0, 2)] false], [fd 0 16 .rw 0],
      [fdx 0 16 .rw 0 [(1, 4096)] false], [all]]
  | 5 => [[fdx 0 8 .rw 0 [(0, 3)] false], [all], [fdx 0 11 .rw 0 [(1, 1024)] false]]
  | 6 => [[fd 0 8 .rw 0, fdx 8 12 .rw 0 [(0, 4080)] false], [fd 0 22 .rw 0], [all], [fd 0 17 .rw 0]]
  | 7 => [[fd 0 8 .rw 0, fdx 8 2 .rw 0 [(0, 2)] false], [all]]
  | 8 => [[fdx 0 5 .rw 0 [(0, 15)] false, fdx 12 12 .rw 0 [(1, 4095)] false, fdx 24 4 .rw 0 [(0, 3)] false],
      [fdx 0 16 .rw 0 [(10, 65535)] false]]
  | 9 => [[fd 0 12 .rw 0, fdx 12 3 .rw 0 [(0, 4)] false], [all]]
  | 10 => [[fdx 0 5 .rw 0 [(0, 23)] false, fd 8 8 .rw 0], [all]]
  | _ => []

/-- The fields of descriptor word `k` (Tables 4-4 and 4-6). -/
def itemFields (kind k : Nat) : List FieldD :=
  if k = 0 then [fdx 0 8 .rw 0 [(1, 10)] false, fd 8 8 .rw 0, fdx 16 3 .rw 0 [(0, 5)] false, fd 19 1 .rw 0, fd 20 1 .rw 0,
    fdx 21 2 .rw 0 [(0, 0)] false, fd 24 8 .rw 0]
  else if k ≤ 4 then [fd 0 32 .rw 0]
  else if k = 5 then [fdx 0 16 .rw 0 [(1, 65535)] false, fd 16 16 .rw 0]
  else lget (argFields kind) (k - 6) []

/-- Illegal descriptor fields (R108): error and descriptor word. NBT is not checked with LIST 0, which ignores it. -/
def itemErrors (s : State) (i : Item) : List (Err × Nat) :=
  ((List.range 16).map fun k =>
    (if setsReserved (itemFields i.kind k) (i.word k) then [(Err.reserved, k)] else []) ++
    (if outOfRange (itemFields i.kind k) (i.word k) then [(Err.range, k)] else [])).flatten ++
  (if i.list != 0 && decide (999999999 < (i.word 1).toNat) then [(Err.range, 1)] else []) ++
  (if i.ddl != noTime && decide (999999999 < (i.word 3).toNat) then [(Err.range, 3)] else []) ++
  (if i.kind = kPush then
    (if (i.f 6 12 12 == 0) != (i.f 6 0 5 == 16) then [(Err.range, 6)] else []) ++
    (if i.f 6 0 5 == 16 && !s.hw.drive then [(Err.unmapped, 6)] else [])
  else []) ++
  (if i.kind = kCal && i.f 6 8 2 == 2 && (i.word 7).toNat != 1 && (i.word 7).toNat != 0xFFFFFFFF then
    [(Err.range, 7)] else [])

/-! Flows (4.1) -/

/-- A flow right after reset of island 2: system flows 240-247 are always enabled (R99). -/
def flow0 (f : Nat) : FlowRt :=
  ⟨if 240 ≤ f ∧ f < 248 then .idle else .disabled, 0, [], 31, 0, 0, 0, 0, false, false⟩

def State.flow (s : State) (f : Nat) : FlowRt := sgetD s.htk.flows f (flow0 f)
def State.setFlow (s : State) (f : Nat) (r : FlowRt) : State :=
  { s with htk := { s.htk with flows := sput s.htk.flows f r (flow0 f) } }

def fEn (s : State) (f : Nat) : Bool := s.entF tHFL f 0 0 1 = 1
def fClass (s : State) (f : Nat) : Nat := s.entF tHFL f 0 1 2
def fAny (s : State) (f : Nat) : Bool := s.entF tHFL f 0 3 1 = 1
def fStop (s : State) (f : Nat) : Bool := s.entF tHFL f 0 4 1 = 1
def fAtomic (s : State) (f : Nat) : Bool := s.entF tHFL f 0 5 1 = 1
def fConsume (s : State) (f : Nat) : Bool := s.entF tHFL f 0 6 1 = 1
def fStage (s : State) (f : Nat) : Nat := s.entF tHFL f 0 8 6
def fAff (s : State) (f : Nat) : Nat := s.entF tHFL f 0 16 2
def fWait (s : State) (f : Nat) : Nat := (s.entW tHFL f 1).toNat
def fQmax (s : State) (f : Nat) : Nat := s.entF tHFL f 2 0 17
/-- Post entry `n` of a flow where it is valid: target and mask. -/
def fPost (s : State) (f n : Nat) : Option (Nat × Nat) :=
  if s.entF tHFL f (3 + 2 * n) 8 1 = 1 then some (s.entF tHFL f (3 + 2 * n) 0 8, (s.entW tHFL f (4 + 2 * n)).toNat)
  else none

/-- A set of post entries keeps the stage rule of R104: every valid entry posts to a higher stage. -/
def stageRule (s : State) : Bool :=
  (List.range 240).all fun f => (List.range 8).all fun n =>
    match fPost s f n with
    | none => true
    | some (t, _) => fStage s f < fStage s t

/-- The wait condition of a flow (R97). -/
def waitHolds (s : State) (f : Nat) : Bool :=
  let w := fWait s f
  let g := (s.flow f).flags
  w == 0 || (if fAny s f then g &&& w != 0 else g &&& w == w)

/-- Items of a flow on the delay lists, in list order. -/
def delayedOf (s : State) (f : Nat) : List Item :=
  ((List.range 5).map fun l => (sgetD s.htk.lists l []).filter fun i => i.flow == f).flatten

/-- The state a flow has between items (Table 4-3): a head that has started once is not tested again (R98, R132); a flow whose
EN is 0 is DISABLED once it has no item. -/
def flowRest (s : State) (f : Nat) : FlowState :=
  match (s.flow f).queue with
  | [] => if !fEn s f && (delayedOf s f).isEmpty then .disabled else .idle
  | h :: _ => if h.retried || waitHolds s f then .ready else .waiting

/-- Bring the state of a flow between items up to date after a change of its queue, flags or wait mask. -/
def refresh (s : State) (f : Nat) : State :=
  let r := s.flow f
  if r.state = .idle ∨ r.state = .waiting ∨ r.state = .ready then s.setFlow f { r with state := flowRest s f }
  else s

/-- The flow takes the state between items: after an item left it or returned to its head. -/
def settleFlow (s : State) (f : Nat) : State :=
  refresh (s.setFlow f { s.flow f with state := .idle }) f

/-- Set flags of a flow (R101). -/
def postFlags (s : State) (f m : Nat) : State :=
  refresh (s.setFlow f { s.flow f with flags := (s.flow f).flags ||| m }) f

/-- The posts an item selects (R103). -/
def makePosts (s : State) (i : Item) : State :=
  (bitsOf 8 i.postsel).foldl (fun t n =>
    match fPost t i.flow n with
    | some (g, m) => postFlags t g m
    | none => t) s

/-! Places -/

/-- Items that occupy a place of the flow (R110): queued, delayed or in service. -/
def flowCount (s : State) (f : Nat) : Nat :=
  (s.flow f).queue.length + (delayedOf s f).length + (s.htk.svc.filter fun v => v.flow == f).length

/-- The open group of a flow (R128): what follows the last item with LAST = 1. -/
def openGroup : List Item → List Item
  | [] => []
  | i :: is => if (i :: is).any (·.last) then openGroup is else i :: is

/-- Items of the open group of an ATOMIC flow, queued and delayed. -/
def openCount (s : State) (f : Nat) : Nat := (openGroup ((s.flow f).queue ++ delayedOf s f)).length

/-- Note items that left without completing; `settle` makes their effects on their blocks. -/
def noteDrops (s : State) (d : Drop) (is : List Item) : State :=
  { s with htk := { s.htk with dropped := s.htk.dropped ++ is.map (d, ·) } }

/-- Discard items that are in no queue any more and count them (R118, R128, R132, R135). -/
def discardItems (s : State) (f : Nat) (is : List Item) : State :=
  let r := s.flow f
  noteDrops (s.setFlow f { r with discarded := satAdd 16 r.discarded is.length }) .discarded is

/-- Discard the open group of an ATOMIC flow (R128). -/
def discardGroup (s : State) (f : Nat) : State :=
  let r := s.flow f
  let n := openCount s f
  let d := delayedOf s f
  let fromD := min n d.length
  let fromQ := n - fromD
  let keepQ := r.queue.take (r.queue.length - fromQ)
  let goneD := d.drop (d.length - fromD)
  let s1 := s.setFlow f { r with queue := keepQ }
  let ls := (List.range 5).foldl (fun m l =>
    sput m l ((sgetD m l []).filter fun i => !(i.flow == f && goneD.contains i)) []) s1.htk.lists
  let s2 := { s1 with htk := { s1.htk with lists := ls } }
  refresh (discardItems s2 f (r.queue.drop (r.queue.length - fromQ) ++ goneD)) f

/-! Enqueue (R108) -/

/-- Kinds that only their own block may enqueue (Table 4-5). -/
def blockOnly (k : Nat) : Bool := k == kIngest || k == kFold || k == kAppend || k == kCal

/-- Causes of a refusal that do not lie in the descriptor's fields. -/
def enqCauses (s : State) (inside : Bool) (i : Item) : List Err :=
  let f := i.flow
  (if !inside && (decide (240 ≤ f) || blockOnly i.kind) then [Err.protect] else []) ++
  (if fEn s f then [] else [Err.state]) ++
  (if fQmax s f ≤ flowCount s f ∨ qFree s = 0 then [Err.busy]
   else if fClass s f ≠ 0 ∧ qFree s ≤ s.regF R.HTK_DISP 16 13 then [Err.busy] else []) ++
  (if i.kind = kPush ∧ i.expire ∧ fClass s f = 0 then [Err.state] else []) ++
  (if fAtomic s f && ((s.flow f).refusing || decide (64 ≤ openCount s f)) then [Err.state] else [])

/-- A refused enqueue on an ATOMIC flow (R128): an open group is discarded and the flow refuses every later enqueue up
to and including the next LAST; one that is refusing ends with an item that has LAST = 1. -/
def refuseGroup (s : State) (i : Item) : State :=
  let f := i.flow
  if !fAtomic s f then s
  else if openCount s f ≠ 0 then
    let s1 := discardGroup s f
    s1.setFlow f { s1.flow f with refusing := true }
  else if i.last then s.setFlow f { s.flow f with refusing := false }
  else s

/-- Insert in release order, after items of the same time (R114). -/
def insertNbt (i : Item) : List Item → List Item
  | [] => [i]
  | j :: js => if i.nbt < j.nbt then i :: j :: js else j :: insertNbt i js

/-- Put an accepted item in its flow or on its delay list (R109). -/
def putItem (s : State) (i : Item) : State :=
  if i.list = 0 then
    refresh (s.setFlow i.flow { s.flow i.flow with queue := (s.flow i.flow).queue ++ [i] }) i.flow
  else
    let ls := sput s.htk.lists (i.list - 1) (insertNbt i (sgetD s.htk.lists (i.list - 1) [])) []
    { s with htk := { s.htk with lists := ls } }

/-- An internal enqueue: the state, and whether it was taken. A refusal sets ENQ_REFUSED and counts (R108); while
island 2 is in reset its fence answers the request with RESET_ABORT (R20). -/
def enqueueIn (s : State) (i : Item) : State × Bool :=
  if !s.islUp 2 then (abortCount s 2 1, false)
  else if enqCauses s true i = [] then (putItem s i, true)
  else (refuseGroup (raise (s.count R.HTK_CNT 16 16 1) 0x04 2) i, false)

/-! Delay lists (4.4) -/

/-- An item may leave its list or start: while the page is not enabled only those of flows 240 and 241 (R119). In an
activation pause none may, but flow 241 until the activation's own UPDSTATE record is durable (R531), and flows 240 and
241 after a power-fail warning (Table 17-7) and for an orderly reset. -/
def htkMay (s : State) (f : Nat) : Bool :=
  s.islUp 2 &&
    (if s.upd.pauseAt.isSome then
      (cutPower s && (f == 240 || f == 241)) || (s.upd.recWait && f == 241)
    else s.en 0x04 || f == 240 || f == 241)

/-- The list whose first releasable item is due first; equal times go in list order (R116). -/
def nextDue (s : State) (t : Nat) : Option (Nat × Item) :=
  (List.range 5).foldl (fun best l =>
    match (sgetD s.htk.lists l []).find? fun i => htkMay s i.flow with
    | none => best
    | some i =>
      if i.nbt ≤ t then
        match best with
        | some (_, b) => if i.nbt < b.nbt then some (l, i) else best
        | none => some (l, i)
      else best) none

/-- Release up to `n` due items into their flows (R116): the state and how many places of the 64 are left. -/
def releaseDue : Nat → State → Nat → State
  | 0, s, _ => s
  | n + 1, s, t =>
    match nextDue s t with
    | none => s
    | some (l, i) =>
      let s1 := { s with htk := { s.htk with lists := sput s.htk.lists l ((sgetD s.htk.lists l []).erase i) [] } }
      releaseDue n (refresh (s1.setFlow i.flow { s1.flow i.flow with queue := (s1.flow i.flow).queue ++ [i] }) i.flow) t

/-- The latest tick instant (R115). -/
def tickNow (s : State) : Nat := now32 s - now32 s % 1000

/-- One tick: 64 releases, and RELEASE_LAG where more items were due (R116). -/
def tickRelease (s : State) : State :=
  if !s.islUp 2 || s.htk.lastTick == some (tickNow s) then s
  else
    let s0 := { s with htk := { s.htk with lastTick := some (tickNow s) } }
    let s1 := releaseDue 64 s0 (tickNow s)
    if (nextDue s1 (tickNow s)).isSome then raise (s1.count R.HTK_CNT 0 16 1) 0x04 3 else s1

/-- Empty the delay list of a timing domain (R118). -/
def flushList (s : State) (l : Nat) : State :=
  let is := sgetD s.htk.lists l []
  let s1 := { s with htk := { s.htk with lists := sput s.htk.lists l [] [] } }
  let s2 := is.foldl (fun t i => discardItems t i.flow [i]) s1
  raise s2 0x04 7

/-! Executors (R124) -/

/-- The unit of an item that no engine runs. -/
def unitOf (i : Item) : Exec :=
  if i.kind = kFold then .fold else if i.kind = kAppend then .lining else if i.kind = kCal then .cal
  else if i.kind = kCue then .cue else .framer (i.f 6 0 5)

/-- The item runs on an engine (Table 4-5). -/
def onEngine (k : Nat) : Bool := k == kRender || k == kCheck || k == kIngest || k == kTest

/-- The islands an executor works in (Table 1-1). -/
def Exec.islands : Exec → List Nat
  | .engine n => [n / 12, 3]
  | .framer p => [if p < 8 then 5 else if p < 16 then 6 else 11]
  | .fold => [10]
  | .lining => [12]
  | .cal => [12]
  | .cue => [2]

/-- Code of an executor in HTK_FAIL1.EXEC (Table 4-12). -/
def Exec.code : Exec → Nat
  | .engine n => n
  | .framer _ => 24
  | .fold => 25
  | .lining => 26
  | .cal => 27
  | .cue => 28

/-- The item an executor has in service. -/
def svcOf (s : State) (x : Exec) : Option Svc := (s.htk.svc ++ s.htk.orphans).find? fun v => v.exec = x

/-- An executor is out of reset. -/
def execUp (s : State) (x : Exec) : Bool :=
  x.islands.all s.islUp && match x with | .engine n => engUp s n | _ => true

/-- An executor is idle: out of reset and without an item. -/
def execIdle (s : State) (x : Exec) : Bool := execUp s x && (svcOf s x).isNone

/-- The flow an engine is reserved for. -/
def resvOf (s : State) (e : Nat) : Option Resv := s.htk.resv.find? fun r => r.eng == e

/-- An engine is allowed for a flow (R125): enabled and inside the pinned cluster. -/
def allowedEng (s : State) (f e : Nat) : Bool :=
  s.regB R.HTK_ENG e && decide (e < 24) && (fAff s f != 2 || decide (e < 12)) && (fAff s f != 3 || decide (12 ≤ e))

/-- The lowest idle allowed engine that is not reserved. -/
def lowestIdle (s : State) (f : Nat) : Option Nat :=
  (List.range 24).find? fun e => allowedEng s f e && execIdle s (.engine e) && (resvOf s e).isNone

/-- What the choice of R125 gives. -/
inductive Pick where
  | start (e : Nat)
  | reserve (e : Nat)
  | none
  deriving DecidableEq, Repr

/-- The engine for the head of a flow (R125); a TEST item runs on the engine it names (R124). -/
def pickEngine (s : State) (f : Nat) (i : Item) : Pick :=
  let other := match lowestIdle s f with | some e => Pick.start e | Option.none => Pick.none
  let le := (s.flow f).lastEng
  if i.kind = kTest then
    if execIdle s (.engine (i.f 6 0 5)) && (resvOf s (i.f 6 0 5)).isNone then .start (i.f 6 0 5) else .none
  else if fAff s f = 0 then other
  else if allowedEng s f le && execIdle s (.engine le) && (resvOf s le).isNone then .start le
  else if allowedEng s f le && execUp s (.engine le) && (resvOf s le).isNone then
    match svcOf s (.engine le) with
    | some v => if v.start + 10 * v.item.cost ≤ s.up + s.regF R.HTK_DISP 0 14 then .reserve le else other
    | Option.none => other
  else other

/-! Credits of the push ports (R127, R275) -/

/-- A push port right after device reset. -/
def port0 : PortRt := ⟨[], none, [], 0, [], [], [], [], []⟩
def State.port (s : State) (p : Nat) : PortRt := sgetD s.ports p port0
def State.setPort (s : State) (p : Nat) (r : PortRt) : State := { s with ports := sput s.ports p r port0 }

/-- FREE of a port's credit pool. -/
def credFree (s : State) (p : Nat) : Nat := s.regF (R.PP_CREDIT p) 0 13 - (s.port p).held

/-- Take credits; CREDSTAT.MIN keeps the fewest free places. -/
def takeCredits (s : State) (p n : Nat) : State :=
  let s1 := s.setPort p { s.port p with held := (s.port p).held + n }
  s1.setRegF (R.PP_CREDSTAT p) 16 13 (min (s1.regF (R.PP_CREDSTAT p) 16 13) (credFree s1 p))

/-- Return credits. -/
def returnCredits (s : State) (p n : Nat) : State := s.setPort p { s.port p with held := (s.port p).held - n }

/-- Credits an item needs (R127): frames of a PUSH, one for a NODE_POLL; port L has no pool. -/
def credNeed (i : Item) : Nat :=
  if i.kind = kPush then (if i.f 6 0 5 < 16 then i.f 8 16 11 else 0) else if i.kind = kPoll then 1 else 0

/-- The credits an item needs are free for its flow's class (R275). -/
def credOk (s : State) (f : Nat) (i : Item) : Bool :=
  let need := credNeed i
  let p := i.f 6 0 5
  need == 0 || (if fClass s f = 0 then decide (need ≤ credFree s p)
    else decide (need + s.regF (R.PP_CREDIT p) 16 13 ≤ credFree s p))

/-! Completion and failure (4.2, 4.6) -/

/-- Reservations of an engine note that it has no item from now on (R126). -/
def noteIdle (s : State) (e : Nat) : State :=
  { s with htk := { s.htk with resv := s.htk.resv.map fun r => if r.eng = e then { r with since := some s.up } else r } }

/-- Take an item out of service. -/
def unserve (s : State) (v : Svc) : State :=
  let s1 := { s with htk := { s.htk with svc := s.htk.svc.filter (· != v), orphans := s.htk.orphans.filter (· != v) } }
  match v.exec with
  | .engine e => noteIdle s1 e
  | _ => s1

/-- An item whose Hatrack record was lost ends: its report is answered with RESET_ABORT (R134). -/
def orphanEnds (s : State) (v : Svc) : State := abortCount (unserve s v) 2 1

/-- The credits an item in service holds return where it hands over no frame (R127). -/
def dropCredits (s : State) (v : Svc) : State :=
  match v.exec with
  | .framer p => if v.credits = 0 then s else returnCredits s p v.credits
  | _ => s

/-- The group of an ATOMIC flow ends with its LAST item (R128). -/
def groupStep (s : State) (f : Nat) (i : Item) : State :=
  if i.last then s.setFlow f { s.flow f with underWay := false } else s

/-- An item completes with status done (R103): the posts, then the flow moves on. -/
def completeItem (s : State) (v : Svc) : State :=
  if v ∈ s.htk.orphans then orphanEnds s v
  else settleFlow (groupStep (makePosts (unserve s v) v.item) v.flow v.item) v.flow

/-- An item fails (R131): counted and recorded; under SKIP it is discarded with its posts, and with the rest of its
group and the posts of the LAST item (R128); under STOP it stays at the head and the flow stops (R132). Its credits
return (R127). An item whose Hatrack record was lost is lost itself (R134). -/
def failItem (s : State) (v : Svc) (cause : Nat) : State :=
  let s0 := dropCredits s v
  if v ∈ s.htk.orphans then noteDrops (orphanEnds s0 v) .lost [v.item]
  else
    let f := v.flow
    let s1 := unserve s0 v
    let s2 := s1.setFlow f { s1.flow f with failed := satAdd 16 (s1.flow f).failed 1 }
    let s3 := s2.setReg R.HTK_FAIL0 (w32 (f + v.item.kind * 256 + v.item.tag * 65536))
    let s4 := (s3.setReg R.HTK_FAIL1 (setFld (w32 (cause + v.exec.code * 16)) 16 16 (s3.regF R.HTK_FAIL1 16 16))).count
      R.HTK_FAIL1 16 16 1
    let s5 := raise s4 0x04 0
    if fStop s f then
      let q := { v.item with retried := true } :: (s5.flow f).queue
      noteDrops (raise (s5.setFlow f { s5.flow f with state := .stopped, queue := q }) 0x04 1) .held [v.item]
    else
      let s6 := noteDrops (makePosts s5 v.item) .failed [v.item]
      if fAtomic s f && (s6.flow f).underWay && !v.item.last then
        let q := (s6.flow f).queue
        let rest := q.take (q.findIdx (·.last) + 1)
        let s7 := s6.setFlow f { s6.flow f with queue := q.drop rest.length, underWay := false }
        let s8 := discardItems s7 f rest
        settleFlow (match rest.getLast? with | some l => makePosts s8 l | none => s8) f
      else settleFlow (groupStep s6 f v.item) f

/-- An executor fault (R129): the item returns to the head of its flow with ATTEMPT increased; the third fails it
(R131). Credits it took return. An item whose posts were lost with island 2 is lost itself (R134). -/
def faultItem (s : State) (v : Svc) : State :=
  if v ∈ s.htk.orphans then noteDrops (orphanEnds (dropCredits s v) v) .lost [v.item]
  else if 2 ≤ v.item.attempt then failItem s v 1
  else
    let s1 := unserve (dropCredits s v) v
    let r := s1.flow v.flow
    settleFlow (s1.setFlow v.flow { r with
      retries := satAdd 16 r.retries 1,
      queue := { v.item with attempt := v.item.attempt + 1, retried := true } :: r.queue }) v.flow

/-- The head of a flow expires (R123): counted, its posts made, and the flow moves on. -/
def expireHead (s : State) (f : Nat) : State :=
  match (s.flow f).queue with
  | [] => s
  | h :: q =>
    let r := s.flow f
    let s1 := s.setFlow f { r with queue := q, expired := satAdd 16 r.expired 1 }
    let s2 := noteDrops (makePosts (raise s1 0x04 4) h) .expired [h]
    settleFlow (groupStep s2 f h) f

/-- Discard every queued and delayed item of a flow (R135); a STOPPED or RESERVED flow leaves that state. An item in service
is then the last of its group, whose other items are gone; a refusal goes on up to its LAST item (R128). -/
def flushFlow (s : State) (f : Nat) : State :=
  let r := s.flow f
  let d := delayedOf s f
  let ls := (List.range 5).foldl (fun m l => sput m l ((sgetD m l []).filter fun i => i.flow != f) []) s.htk.lists
  let lastly (v : Svc) : Svc := if v.flow = f then { v with item := v.item.asLast } else v
  let s1 := { s with htk := { s.htk with lists := ls, resv := s.htk.resv.filter fun x => x.flow != f, svc := s.htk.svc.map lastly } }
  let st := if r.state = .stopped ∨ r.state = .reserved then .idle else r.state
  let uw := r.underWay && r.state == .inService
  let s2 := s1.setFlow f { r with queue := [], state := st, underWay := uw }
  refresh (discardItems s2 f (r.queue ++ d)) f

/-- RESTART_RETRY (R132): ATTEMPT 0, no new wait test, no consume. -/
def restartRetry (s : State) (f : Nat) : State :=
  match (s.flow f).state, (s.flow f).queue with
  | .stopped, h :: q =>
    s.setFlow f { s.flow f with state := .ready, queue := { h with attempt := 0, retried := true } :: q }
  | _, _ => s

/-- RESTART_DISCARD (R132). -/
def restartDiscard (s : State) (f : Nat) : State :=
  match (s.flow f).state, (s.flow f).queue with
  | .stopped, h :: q =>
    let s1 := s.setFlow f { s.flow f with queue := q }
    settleFlow (groupStep (discardItems s1 f [h]) f h) f
  | _, _ => s

/-! Dispatch (4.5) -/

/-- The group of the head of an ATOMIC flow is closed, or under way (R128). -/
def groupReady (s : State) (f : Nat) : Bool :=
  !fAtomic s f || (s.flow f).underWay || (s.flow f).queue.any (·.last)

/-- The head has expired at the slot time (R123, R29). -/
def headExpired (s : State) (i : Item) : Bool := i.expire && decide (i.ddl ≤ now32 s)

/-- The rank of a flow (R121): class, a group under way, deadline, round robin. -/
def rankOf (s : State) (f : Nat) : Nat :=
  let d := match (s.flow f).queue with | [] => noTime | h :: _ => h.ddl
  let rr := (f + 255 - sgetD s.htk.lastDisp (fClass s f) 255) % 256
  ((fClass s f * 2 + b2n (!(s.flow f).underWay)) * 2 ^ 71 + d) * 256 + rr

/-- Insert a flow by rank. -/
def insertRank (s : State) (f : Nat) : List Nat → List Nat
  | [] => [f]
  | g :: gs => if rankOf s f < rankOf s g then f :: g :: gs else g :: insertRank s f gs

/-- The READY flows that may dispatch, in rank order. -/
def rankedFlows (s : State) : List Nat :=
  ((s.htk.flows.map Prod.fst).filter fun f => (s.flow f).state = .ready ∧ htkMay s f).foldr (insertRank s) []

/-- In STANDBY a PUSH to another port than L, a NODE_POLL and a CUE complete at dispatch without action (R459). -/
def suppressed (s : State) (i : Item) : Bool :=
  s.pair.role == .standby &&
    ((i.kind == kPush && i.f 6 0 5 != 16) || i.kind == kPoll || i.kind == kCue)

/-- The slots SHOWN when a RENDER item starts (R186). -/
def readsOf (s : State) (i : Item) : List (Nat × Nat × Nat) :=
  if i.kind = kRender then shownNow s else []

/-- MIR_CNT1.SUPPRESSED, which wraps (R459). -/
def countSuppressed (s : State) : State := s.setRegF R.MIR_CNT1 24 8 (s.regF R.MIR_CNT1 24 8 + 1)

/-- Start the head of a flow on an executor (R102, R127): credits, consume, and the flow is IN_SERVICE. -/
def startHead (s : State) (f : Nat) (x : Exec) : State :=
  match (s.flow f).queue with
  | [] => s
  | h :: q =>
    let r := s.flow f
    let flags := if fConsume s f && !h.retried then r.flags &&& (r.flags ^^^ (r.flags &&& fWait s f)) else r.flags
    let le := match x with | .engine e => e | _ => r.lastEng
    let at_ := fAtomic s f
    let s1 := s.setFlow f { r with state := .inService, queue := q, flags := flags, lastEng := le, underWay := at_ }
    let n := if suppressed s h then 0 else credNeed h
    let s2 := if n = 0 then s1 else takeCredits s1 (h.f 6 0 5) n
    let late := h.kind == kCheck && chkLate s (h.f 6 0 6) (h.word 7).toNat
    let v : Svc := ⟨f, { h with retried := true }, x, s.up, n, readsOf s h, late⟩
    let rs := s2.htk.resv.filter fun y => y.flow != f
    let ld := sset s2.htk.lastDisp (fClass s f) f
    let s3 := { s2 with htk := { s2.htk with svc := s2.htk.svc ++ [v], resv := rs, lastDisp := ld } }
    if suppressed s h then completeItem (countSuppressed s3) v else s3

/-- A push for port L is dispatched while island 11 is in reset: its fence answers with RESET_ABORT and the item returns to its
flow (R354, R129). -/
def abortHead (s : State) (f : Nat) : State :=
  let t := startHead s f (.framer 16)
  match svcOf t (.framer 16) with
  | some v => faultItem (abortCount t 11 1) v
  | none => t

/-- A reservation (R126): it lasts AFF_WIN from this slot. -/
def reserve (s : State) (f e : Nat) : State :=
  let s1 := s.setFlow f { s.flow f with state := .reserved }
  { s1 with htk := { s1.htk with resv := s1.htk.resv ++ [⟨f, e, s.up + s.regF R.HTK_DISP 0 14, none⟩] } }

/-- Cancel a reservation: the flow returns to READY (R126). -/
def unreserve (s : State) (f : Nat) : State :=
  let s1 := { s with htk := { s.htk with resv := s.htk.resv.filter fun x => x.flow != f } }
  if (s.flow f).state = .reserved then s1.setFlow f { s1.flow f with state := .ready } else s1

/-- Try each ranked flow in turn until one starts (R121, R122, and the steps at the end of 4.5). -/
def tryFlows : List Nat → State → State
  | [], s => s
  | f :: fs, s =>
    match (s.flow f).queue with
    | [] => tryFlows fs s
    | h :: _ =>
      if headExpired s h then tryFlows fs (expireHead s f)
      else if !groupReady s f then tryFlows fs s
      else if suppressed s h then startHead s f (unitOf h)
      else if !credOk s f h then tryFlows fs s
      else if onEngine h.kind then
        match pickEngine s f h with
        | .start e => startHead s f (.engine e)
        | .reserve e => tryFlows fs (reserve s f e)
        | .none => tryFlows fs s
      else if execIdle s (unitOf h) then startHead s f (unitOf h)
      else if unitOf h = .framer 16 ∧ !s.islUp 11 then abortHead s f
      else tryFlows fs s

/-- A READY flow of a lower class number has no other idle engine than `e` (R126); a TEST item has only the one it names
(R124). -/
def takesEngine (s : State) (f e : Nat) : Option Nat :=
  (rankedFlows s).find? fun g =>
    decide (fClass s g < fClass s f) &&
    (match (s.flow g).queue with
     | [] => false
     | h :: _ => !headExpired s h && groupReady s g &&
        (if h.kind = kTest then h.f 6 0 5 == e
         else onEngine h.kind && allowedEng s g e && (lowestIdle s g).isNone))

/-- The engine of a reservation became idle within its window [s, s + AFF_WIN) (R29, R126): without an item, and past a
reset of its own. -/
def resvIdle (s : State) (r : Resv) : Bool :=
  execIdle s (.engine r.eng) && decide (max (r.since.getD 0) (engUpSince s r.eng) < r.until_)

/-- The reserved item may start on its engine: an engine taken out of HTK_ENG serves its reservation no more (R124). -/
def resvMay (s : State) (r : Resv) : Bool := htkMay s r.flow && allowedEng s r.flow r.eng

/-- The first reservation whose engine became idle within its window and that something starts on. -/
def idleResv (s : State) : Option Resv :=
  s.htk.resv.find? fun r => resvIdle s r && (resvMay s r || (takesEngine s r.flow r.eng).isSome)

/-- Reservations whose window has ended and whose item is not about to start return their flows to READY (R126). -/
def expireResv (s : State) : State :=
  (s.htk.resv.filter fun r => decide (r.until_ ≤ s.up) && !(resvIdle s r && resvMay s r)).foldl (fun t r => unreserve t r.flow) s

/-- Reserved heads past their deadline are discarded (R123). -/
def expireReserved (s : State) : State :=
  s.htk.resv.foldl (fun t r => match (t.flow r.flow).queue with
    | h :: _ => if headExpired t h then expireHead (unreserve t r.flow) r.flow else t
    | [] => t) s

/-- One dispatch slot (R120-R128): at most one item starts. -/
def dispatchSlot (s : State) : State :=
  if !s.islUp 2 || s.htk.lastSlot == some (s.up / 20) then s
  else
    let s0 := expireReserved (expireResv { s with htk := { s.htk with lastSlot := some (s.up / 20) } })
    match idleResv s0 with
    | some r =>
      match takesEngine s0 r.flow r.eng with
      | some g => startHead (unreserve s0 r.flow) g (.engine r.eng)
      | none => startHead s0 r.flow (.engine r.eng)
    | none => tryFlows (rankedFlows s0) s0

/-! Flow entries and reset -/

/-- A flow entry has been written: EN enables or disables the flow (Table 4-3), the wait condition is tested. An EN of 0 that a
release applies to a flow with items leaves it in its state until they are done (DESIGN CHOICE, log 104). -/
def flowWritten (s : State) (f : Nat) : State :=
  let r := s.flow f
  let r1 := if fAtomic s f then r else { r with refusing := false, underWay := false }
  let st := if r.state = .disabled then .idle else r.state
  refresh (s.setFlow f { r1 with state := st }) f

/-- Errors of a flow entry write beyond its fields (R55, R104, Table 4-3, Table 4-8, Tables 4-1 and 4-13): `i` is the
index and `ws` the entry; the offset is that of the word. -/
def flowEntryErrors (s : State) (i : Nat) (ws : List Word) : List (Err × Nat) :=
  let t := s.setEnt tHFL i ws
  let r := s.flow i
  (if 240 ≤ i then [(Err.protect, 19)] else []) ++
  (if r.state = .inService ∨ r.state = .reserved then [(Err.busy, 19)]
   else if fEn s i && !fEn t i && (!r.queue.isEmpty || !(delayedOf s i).isEmpty || r.state == .stopped) then
    [(Err.state, 0)] else []) ++
  ((List.range 8).map fun n =>
    match fPost t i n with
    | some (g, m) =>
      (if g = i ∨ 240 ≤ g then [(Err.range, 3 + 2 * n)] else []) ++ (if m = 0 then [(Err.range, 4 + 2 * n)] else [])
    | none => []).flatten ++
  (if stageRule t then [] else [(Err.cycle, 0)])

/-- What a reset of island 2, or a soft reset of page HTK or HFL, does to the Hatrack (R134): queues, lists, flags,
states and counters are cleared, reservations cancelled and credits returned; items in service go on without posts. A
calibration whose item is in service has lost it (Table 18-3). -/
def htkReset (s : State) : State :=
  let cals := (s.htk.svc.map (·.item)).filter fun i => i.kind == kCal
  let gone := (s.htk.flows.map fun e => e.2.queue).flatten ++ (s.htk.lists.map fun e => e.2).flatten ++ cals
  let s1 := noteDrops s .lost gone
  let h := s1.htk
  let going := (h.orphans ++ h.svc).map fun v => { v with credits := 0 }
  let h1 : Htk := ⟨[], [], [], [], [], none, none, going, h.dropped⟩
  let free (f : TxFrame) : TxFrame := { f with cred := false }
  (s1.ports.map Prod.fst).foldl (fun t p =>
    let r := t.port p
    t.setPort p { r with held := 0, q := r.q.map free, tx := r.tx.map free }) { s1 with htk := h1 }

end Sys2Proof.Machine
end

