-- ==== Sys2Proof/Machine/Push.lean ====
section
/-! DEFINITION. Pushing to nodes (chapter 8): hand-off, frames, order, deadlines, addresses and polls. Ports are
numbered 0-7 P0-P7 and 8-15 B0-B7; their pages are 0x12 plus the number. -/

namespace Sys2Proof.Machine

/-! MAC records -/

/-- A MAC right after device reset (R320). -/
def State.setMac (s : State) (p : Nat) (m : MacRt) : State := { s with macs := sput s.macs p m mac0 }

/-- Page of a push port. -/
def ppPage (p : Nat) : Nat := 0x12 + p

/-- Index of a page's port in the module's block of MAC addresses (R621). -/
def macIndex (pg : Nat) : Nat :=
  if pg = 0x10 then 0 else if pg = 0x11 then 1 else if pg = 0x22 then 2 else if pg = 0x23 then 3
  else if pg = 0x24 then 4 else if pg < 0x1A then 5 + (pg - 0x12) else 13 + (pg - 0x1A)

/-- The unicast MAC address of a page's port (R621). -/
def macAddr (s : State) (pg : Nat) : Nat := s.hw.macBase + macIndex pg

/-- Transmission is possible: the page is enabled and its link is up (R284, R313). -/
def portUp (s : State) (p : Nat) : Bool := s.en (ppPage p) && (s.mac (ppPage p)).link

/-- The fencing epoch of the MIR page (R271). -/
def fence (s : State) : Nat := (s.reg R.MIR_EPOCH).toNat

/-! Nodes -/

def node0 : NodeRt := ⟨0, false, 0, 0, 0, 0, 0, 0⟩
def State.node (s : State) (p n : Nat) : NodeRt := sgetD (s.port p).nodes n node0
def State.setNode (s : State) (p n : Nat) (x : NodeRt) : State :=
  s.setPort p { s.port p with nodes := sput (s.port p).nodes n x node0 }

/-- Mark the next frame to a node with GAP (R269). -/
def setGap (s : State) (p n : Nat) : State := s.setNode p n { s.node p n with gap := true }

/-- GAP of a node as the status window shows it: set, or on the frame now in transmission (R269). -/
def nodeGap (s : State) (p n : Nat) : Bool :=
  (s.node p n).gap || (match (s.port p).tx with | some f => f.gap && f.node == n | none => false)

/-- Table of the node window of a port. -/
def tNode (p : Nat) : Nat := tPPN + ppPage p
def nodeValid (s : State) (p n : Nat) : Bool := s.entF (tNode p) n 0 0 1 = 1
def nodeMac (s : State) (p n : Nat) : Nat := s.entF (tNode p) n 0 16 16 * 2 ^ 32 + (s.entW (tNode p) n 1).toNat
def nodeSerial (s : State) (p n : Nat) : Nat :=
  (s.entW (tNode p) n 3).toNat * 2 ^ 32 + (s.entW (tNode p) n 2).toNat
/-- Write a node entry VALID with serial and MAC (Table 8-6). -/
def writeNode (s : State) (p n serial mac : Nat) : State :=
  s.setEnt (tNode p) n [w32 (1 + mac / 2 ^ 32 * 65536), w32 mac, w32 serial, w32 (serial / 2 ^ 32)]

/-- The entries of a port's node table that are VALID: only listed entries can be. -/
def validNodes (s : State) (p : Nat) : List Nat :=
  ((s.tabs.filter fun e => e.1 / 2 ^ 32 == tNode p).map fun e => e.1 % 2 ^ 32).filter fun n => nodeValid s p n

/-- The VALID entry of a serial number. -/
def nodeOfSerial (s : State) (p serial : Nat) : Option Nat :=
  (validNodes s p).find? fun n => nodeSerial s p n == serial

/-- Most VALID entries of a port (R263, PG_CAP.MAXNODE). -/
def maxNodes (p : Nat) : Nat := if p < 8 then 4094 else 32

/-- The lowest address with no VALID entry. -/
def lowestFreeNode (s : State) (p : Nat) : Option Nat :=
  if maxNodes p ≤ (validNodes s p).length then none
  else (List.range 4094).findSome? fun i => if nodeValid s p (i + 1) then none else some (i + 1)

/-! Frames -/

/-- A loss record (PPn_LOSS): the first loss since it was cleared. Kinds: 1 MISSED, 2 DEFERRED, 3 DOWN. -/
def recordLoss (s : State) (p : Nat) (f : TxFrame) (kind : Nat) : State :=
  if s.regB (R.PP_LOSS p) 31 then s
  else s.setReg (R.PP_LOSS p) (w32 (f.flow % 256 + f.cls * 256 + kind * 1024 + f.node * 4096 + 2 ^ 31))

/-- The credit of a frame returns as it leaves the port. -/
def releaseCredit (s : State) (p : Nat) (f : TxFrame) : State := if f.cred then returnCredits s p 1 else s

/-- Drop a frame because the link is down or the port is reset (R284). -/
def dropDown (s : State) (p : Nat) (f : TxFrame) : State :=
  let s1 := raise (s.count (R.PP_DOWN p) 0 32 1) (ppPage p) 4
  setGap (releaseCredit (recordLoss s1 p f 3) p f) p f.node

/-- The frame that waits in backoff on a bus, still held for transmission (R309, R315). -/
def backoffFrame (s : State) (p : Nat) : List TxFrame :=
  if (s.mac (ppPage p)).backoff.isSome then (s.port p).tx.toList else []

/-- Take back the frame that waits in backoff. -/
def endBackoff (s : State) (p : Nat) : State :=
  if (s.mac (ppPage p)).backoff.isNone then s
  else
    let s1 := s.setPort p { s.port p with tx := none }
    s1.setMac (ppPage p) { s1.mac (ppPage p) with tx := none, tries := 0, backoff := none }

/-- Drop every queued frame of a port in queue order (R284, R285), first the one that waits in backoff. -/
def dropQueue (s : State) (p : Nat) : State :=
  let q := backoffFrame s p ++ (s.port p).q
  let s1 := endBackoff s p
  q.foldl (fun t f => dropDown t p f) (s1.setPort p { s1.port p with q := [] })

/-- Hand a frame to the port: dropped at once while the port is down (R284). -/
def handFrame (s : State) (p : Nat) (f : TxFrame) : State :=
  if portUp s p then s.setPort p { s.port p with q := (s.port p).q ++ [f] }
  else dropDown s p f

/-- Units of 16 bytes in a full DATA frame (R261). -/
def unitsPer (s : State) (p : Nat) : Nat := ((if p < 8 then s.regF (R.PP_CFG p) 16 14 else 1500) - 28) / 16

/-- NFRAME of a push of `len` units (R239, R261); a push to port L takes one place in the item. -/
def nframe (s : State) (p len : Nat) : Nat := if p < 16 then cdiv len (unitsPer s p) else 1

/-- The DATA frames of a PUSH item (R261, R262): as many as LEN takes by the port's MTU, of which `credits` hold one. -/
def dataFrames (s : State) (i : Item) (cls credits : Nat) : List TxFrame :=
  let p := i.f 6 0 5
  let u := unitsPer s p
  let len := i.f 8 0 16
  let n := nframe s p len
  let t := (i.word 10).toNat * 1000000000 + (i.word 9).toNat
  let d := if i.ddl = noTime then none else some i.ddl
  (List.range n).map fun k =>
    let keep := i.f 6 10 1 = 1
    ⟨1, i.f 6 12 12, i.flow, cls, t, i.f 11 0 6, d, keep, k + 1 == n, i.f 7 0 24 + k * u,
      min u (len - k * u), [], 0, decide (k < credits), 0, false⟩

/-- A control frame: POLL, ENUM, ASSIGN or ECHO_REQ. Control frames have no deadline. -/
def ctlFrame (typ node flow cls p : Nat) (payload : List Byte) (timeout : Nat) (cred : Bool) : TxFrame :=
  ⟨typ, node, flow, cls, p, 0xFF, none, false, false, 0, 0, payload, timeout, cred, 0, false⟩

/-- An item for a P or B port that was in service when its member became STANDBY completes without its frames, and its credits
return (R459). -/
def muteItem (s : State) (p : Nat) (v : Svc) : State :=
  completeItem (countSuppressed (if v.credits = 0 then s else returnCredits s p v.credits)) v

/-- A PUSH item hands its frames to the port and completes (R112); credits beyond its frames return. -/
def pushHandoff (s : State) (p : Nat) : State :=
  match svcOf s (.framer p) with
  | some v =>
    if suppressed s v.item then muteItem s p v
    else if v.item.kind = kPush ∧ p < 16 then
      let fs := dataFrames s v.item (fClass s v.flow) v.credits
      let s1 := fs.foldl (fun t f => handFrame t p f) s
      completeItem (if fs.length < v.credits then returnCredits s1 p (v.credits - fs.length) else s1) v
    else s
  | none => s

/-- A NODE_POLL item sends a POLL or an ENUM and completes at hand-off (R264, R280, R112). -/
def nodePoll (s : State) (p : Nat) : State :=
  match svcOf s (.framer p) with
  | some v =>
    if v.item.kind ≠ kPoll then s
    else if suppressed s v.item then muteItem s p v
    else
      let node := v.item.f 6 12 12
      let kind := v.item.f 6 24 4
      let cls := fClass s v.flow
      if kind = 3 then
        if node ≠ 4095 then failItem s v 2
        else
          let win := s.regF (R.PP_ENUM p) 0 10
          let pay := beBytes 2 win ++ beBytes 1 (s.regF (R.PP_ENUM p) 10 1) ++ beBytes 1 0
          completeItem (handFrame s p (ctlFrame 6 node v.flow cls 0 pay win (v.credits != 0))) v
      else
        completeItem (handFrame s p (ctlFrame 4 node v.flow cls 0 (beBytes 1 kind ++ beBytes 3 0)
          (v.item.f 7 0 16) (v.credits != 0))) v
  | none => s

/-- A byte of the egress-buffer region: a word's byte, or a byte of the digests (R195). -/
def egrByte (s : State) (o : Nat) : Byte :=
  if o < 251658240 then sgetD s.egrMem o 0#8 else Config.digestByte s.ren.digests (o - 251658240)

/-- Bytes of the egress-buffer region from an offset. -/
def egrBytes (s : State) (o n : Nat) : List Byte := (List.range n).map fun k => egrByte s (o + k)

/-- The endpoint word at a byte offset of the egress-buffer region. -/
def egrWord (s : State) (o : Nat) : Nat := leNat (egrBytes s o 2)

/-- The payload of a frame (Table 8-4): the words of a DATA frame are read now (R278). -/
def framePayload (s : State) (f : TxFrame) : List Byte :=
  if f.typ = 1 then
    beBytes 4 (f.egr * 8) ++ ((List.range (f.units * 8)).map fun k => beBytes 2 (egrWord s (f.egr * 16 + 2 * k))).flatten
  else f.payload

/-- Destination address of a frame (Table 8-2). -/
def frameDest (s : State) (p n : Nat) : Nat :=
  if n < 4095 && nodeValid s p n && nodeMac s p n != 0 then nodeMac s p n else 2 ^ 48 - 1

/-- The bytes of a Perfer-OUT frame (8.1), padded to the Ethernet minimum. -/
def frameBytes (s : State) (p : Nat) (f : TxFrame) (gap : Bool) : List Byte :=
  let pay := framePayload s f
  let b := beBytes 6 (frameDest s p f.node) ++ beBytes 6 (macAddr s (ppPage p)) ++
    beBytes 2 (s.regF (R.PP_CFG p) 0 16) ++ beBytes 1 1 ++ beBytes 1 f.typ ++
    beBytes 2 (b2n gap * 32768 + b2n f.keep * 16384 + b2n f.last * 8192 + f.node) ++
    beBytes 4 (fence s) ++ beBytes 4 f.seq ++ beBytes 4 (secOf f.p) ++ beBytes 4 (nsOf f.p) ++
    beBytes 1 f.surf ++ beBytes 1 f.cls ++ beBytes 2 pay.length ++ pay
  b ++ List.replicate (60 - b.length) 0#8

/-! Transmission (8.3, 8.4) -/

/-- Table 8-7 at the start of transmission: the frame to send, or none where a class 1 frame is dropped. -/
def deadlineStep (s : State) (p : Nat) (f : TxFrame) : State × Option TxFrame :=
  match f.ddl with
  | none => (s, some f)
  | some d =>
    if now32 s < d then (s, some f)
    else if f.cls = 1 then
      let s1 := raise (recordLoss (s.count (R.PP_MISSED p) 0 32 1) p f 1) (ppPage p) 0
      (setGap (releaseCredit s1 p f) p f.node, none)
    else
      let dom := srfDom s f.surf
      let t := if (s.dom dom).running then time32 (restampP s dom (nowNs s)) else f.p
      if f.cls = 0 then (raise (s.count (R.PP_LATE0 p) 0 32 1) (ppPage p) 2, some { f with p := t })
      else (raise (recordLoss (s.count (R.PP_DEFERRED p) 0 32 1) p f 2) (ppPage p) 1, some { f with p := t })

/-- A frame carries a presentation time: DATA and ECHO_REQ (Table 8-3). -/
def TxFrame.timed (f : TxFrame) : Bool := f.typ == 1 || f.typ == 2

/-- The order check of R270 on a frame with a presentation time: dropped where it is earlier than the latest sent. -/
def orderStep (s : State) (p : Nat) (f : TxFrame) : State × Option TxFrame :=
  if f.timed && decide (f.p < (s.node p f.node).lastP) then
    (setGap (releaseCredit (raise (s.count (R.PP_ORDER p) 0 32 1) (ppPage p) 3) p f) p f.node, none)
  else (s, some f)

/-- Both checks, in the order deadline, then presentation order. -/
def checkFrame (s : State) (p : Nat) (f : TxFrame) : State × Option TxFrame :=
  match deadlineStep s p f with
  | (s1, none) => (s1, none)
  | (s1, some g) => orderStep s1 p g

/-- Put a checked frame on the wire: its number (R268, kept through retries on a bus, R311), GAP, and the latest
presentation time sent. The mark GAP goes over to the frame until it has been sent (R269). -/
def beginFrame (s : State) (p : Nat) (f : TxFrame) (first : Bool) : State :=
  let n := s.node p f.node
  let gap := n.gap || f.gap
  let g := { f with seq := if first then n.seq else f.seq, gap := gap }
  let lastP := if f.timed then f.p else n.lastP
  let seq' := if first then (n.seq + 1) % 2 ^ 32 else n.seq
  let bytes := frameBytes s p g gap
  let s1 := s.setNode p f.node { n with seq := seq', gap := false, lastP := lastP }
  let s2 := s1.setPort p { s1.port p with tx := some g, wire := bytes }
  let s3 := if first then s2.count (R.PP_SENT p) 0 32 1 else s2
  s3.setMac (ppPage p) { s3.mac (ppPage p) with txAt := s.up, txTs := nowNs s, wire := bytes }

/-- The frame a port takes next (R274): lowest class, then round robin among flows, then hand-over order. -/
def nextFrame (s : State) (p : Nat) : Option TxFrame :=
  let q := (s.port p).q
  match (List.range 4).find? fun c => q.any fun f => f.cls == c with
  | none => none
  | some c =>
    let lastF := sgetD (s.port p).rr c 511
    let key (f : TxFrame) : Nat := (f.flow + 511 - lastF) % 512
    q.foldl (fun best f =>
      if f.cls ≠ c then best
      else match best with
        | none => some f
        | some b => if key f < key b then some f else best) none

/-- Start the next Perfer-OUT frame of a port: one frame is served, restamped or dropped (R277); a member that is
SEEKING sends none (R474). A standby queues none (R459): what it still sends was queued while it was active (R465). The
fetch of a DATA frame that island 3 aborts drops the frame (R566). -/
def startFrame (s : State) (p : Nat) : State :=
  match if s.pair.role = .seeking then none else nextFrame s p with
  | none => s
  | some f =>
    let r := s.port p
    let s1 := s.setPort p { r with q := r.q.erase f, rr := sset r.rr f.cls f.flow }
    match checkFrame s1 p f with
    | (s2, none) => s2
    | (s2, some g) =>
      if g.typ = 1 ∧ !s.islUp 3 then dropDown (abortCount s2 3 1) p g
      else
        let s3 := s2.setMac (ppPage p) { s2.mac (ppPage p) with tries := 0 }
        beginFrame s3 p g true

/-- A Perfer-OUT frame has left the MAC (R127): its credit returns; a POLL, an ASSIGN and an ENUM start their
limits (R266, R267, R280). -/
def frameLeft (s : State) (p : Nat) (f : TxFrame) : State :=
  let s1 := releaseCredit s p f
  let r := s1.port p
  if f.typ = 4 then
    s1.setPort p { r with polls := r.polls ++ [⟨f.node, beAt f.payload 0 1, f.seq, s.up, f.timeout⟩] }
  else if f.typ = 8 then
    s1.setPort p { r with assigns := r.assigns ++ [⟨beAt f.payload 0 8, beAt f.payload 8 2, s.up⟩] }
  else if f.typ = 6 then
    s1.setPort p { r with enumDue := r.enumDue ++ [s.up + (f.timeout + 10) * 1000000] }
  else s1

/-! Addresses (8.2) -/

/-- Send an ASSIGN (Table 8-6) to the address it assigns, or to every node where it demotes; egress class 3. -/
def sendAssign (s : State) (p serial addr : Nat) : State :=
  handFrame s p (ctlFrame 8 (if addr = 0 then 4095 else addr) 256 3 0 (beBytes 8 serial ++ beBytes 2 addr) 0 false)

/-- A node is PRESENT (Table 8-6, R280). -/
def nodePresent (s : State) (p n : Nat) : State := s.setNode p n { s.node p n with state := 1, misses := 0 }

/-- Table 8-6: a reply with serial number, present address and source MAC, which becomes that of the serial's entry where
an ASSIGN is sent (R265). A serial without an entry whose present address is no node's (R27) is left alone. -/
def handleSerial (s : State) (p serial addr mac : Nat) : State :=
  match nodeOfSerial s p serial with
  | some a =>
    let s1 := sendAssign (writeNode s p a serial mac) p serial a
    if addr = a then nodePresent s1 p a else s1
  | none =>
    if addr = 0 then
      match lowestFreeNode s p with
      | some a => sendAssign (writeNode s p a serial mac) p serial a
      | none => raise (s.count (R.PP_NOROOM p) 0 32 1) (ppPage p) 7
    else if 4095 ≤ addr then s
    else if !nodeValid s p addr then
      if maxNodes p ≤ (validNodes s p).length then raise (s.count (R.PP_NOROOM p) 0 32 1) (ppPage p) 7
      else sendAssign (writeNode s p addr serial mac) p serial addr
    else
      raise (sendAssign s p serial 0 |>.count (R.PP_DUP p) 0 32 1) (ppPage p) 6

/-- An ENUM_REP (R265): in STANDBY the reply unit handles no reply (R459). -/
def enumRep (s : State) (p serial addr mac : Nat) : State :=
  if s.pair.role = .standby then s else handleSerial s p serial addr mac

/-- An ASSIGN_ACK within 10 ms ends the wait of its ASSIGN (R266). -/
def assignAck (s : State) (p serial addr : Nat) : State :=
  if s.pair.role = .standby then s
  else s.setPort p { s.port p with assigns := (s.port p).assigns.filter fun a =>
    !(a.serial == serial && a.addr == addr) || elapsed s a.left 10000000 }

/-- The first ASSIGN that has waited 10 ms counts in NOREPLY (R266). -/
def assignTimeout (s : State) (p : Nat) : State :=
  match (s.port p).assigns.find? fun a => elapsed s a.left 10000000 with
  | none => s
  | some a => (s.setPort p { s.port p with assigns := (s.port p).assigns.erase a }).count (R.PP_NOREPLY p) 0 32 1

/-- ENUM_DONE once its time has come (R267). -/
def enumDone (s : State) (p : Nat) : State :=
  match (s.port p).enumDue.find? fun t => decide (t ≤ s.up) with
  | none => s
  | some t => raise (s.setPort p { s.port p with enumDue := (s.port p).enumDue.erase t }) (ppPage p) 9

/-! Polls (8.5) -/

/-- A POLL_REP: one that matches a poll still awaiting its reply, by node and sequence number, sets the node PRESENT,
stores flags, epoch and sequence, and falls under Table 8-6 (R280); one of kind 0 or 1 falls under it in any case (R265).
Address 4,095 names every node and has no state of its own. In STANDBY the reply unit handles none (R459). -/
def pollRep (s : State) (p node seq kind nflags fenceHeld lastSeq serial mac : Nat) : State :=
  if s.pair.role = .standby then s
  else match (s.port p).polls.find? fun w => w.node == node && w.seq == seq && !elapsed s w.sent (w.timeout * 1000) with
  | none => if kind ≤ 1 then handleSerial s p serial node mac else s
  | some w =>
    let s1 := s.setPort p { s.port p with polls := (s.port p).polls.erase w }
    let s2 := if node = 4095 then s1 else s1.setNode p node
      { s1.node p node with state := 1, misses := 0, nflags := nflags, nseq := lastSeq, fence := fenceHeld }
    handleSerial s2 p serial node mac

/-- A poll without a reply within its limit (R280). Address 4,095 names every node: it has no MISSES (log). -/
def pollTimeout (s : State) (p : Nat) : State :=
  match (s.port p).polls.find? fun w => elapsed s w.sent (w.timeout * 1000) with
  | none => s
  | some w =>
    let s1 := (s.setPort p { s.port p with polls := (s.port p).polls.erase w }).count (R.PP_NOREPLY p) 0 32 1
    let n := s1.node p w.node
    let m := min 3 (n.misses + 1)
    if w.node = 4095 then s1
    else if m = 3 ∧ n.misses < 3 then raise (s1.setNode p w.node { n with misses := m, state := 2 }) (ppPage p) 5
    else s1.setNode p w.node { n with misses := m }

/-! Drops -/

/-- A PUSH that presents nothing counts as a miss: each of its frames in MISSED, with the loss recorded (R131, R279); at
port L the push (Table 10-10). -/
def pushMissed (s : State) (i : Item) : State :=
  let p := i.f 6 0 5
  if 16 ≤ p then raise (s.count R.DRV_LCNT0 16 16 1) 0x30 8
  else
    let f := ctlFrame 1 (i.f 6 12 12) i.flow (fClass s i.flow) 0 [] 0 false
    raise (recordLoss (s.count (R.PP_MISSED p) 0 32 (nframe s p (i.f 8 0 16))) p f 1) (ppPage p) 0

/-- A PUSH that expired sets GAP for its node (R269), and is missed in class 1 (R279). -/
def pushExpired (s : State) (i : Item) : State :=
  let p := i.f 6 0 5
  let s1 := if p < 16 then setGap s p (i.f 6 12 12) else s
  if fClass s i.flow = 1 then pushMissed s1 i else s1

/-- Errors of a node entry write (R263, Table 8-14): `i` index, `ws` entry; the offset is that of the word. -/
def nodeEntryErrors (s : State) (p i : Nat) (ws : List Word) : List (Err × Nat) :=
  let valid := bit (lget ws 0 0#32) 0
  let serial := (lget ws 3 0#32).toNat * 2 ^ 32 + (lget ws 2 0#32).toNat
  (if valid && !nodeValid s p i && decide (maxNodes p ≤ (validNodes s p).length) then [(Err.state, 0)] else []) ++
  (if valid && (match nodeOfSerial s p serial with | some n => n != i | none => false) then [(Err.state, 3)] else []) ++
  (if valid && nodeValid s p i && nodeSerial s p i != serial then [(Err.state, 3)] else [])

end Sys2Proof.Machine
end

