-- ==== Sys2Proof/Machine/Mac.lean ====
section
/-! DEFINITION. Frame MACs and links (chapter 9), but for what a received frame means to its client. -/

namespace Sys2Proof.Machine

/-- The port of a push page, where the page is one. -/
def ppOf (pg : Nat) : Option Nat := if 0x12 ≤ pg ∧ pg ≤ 0x21 then some (pg - 0x12) else none

/-- A page with a 10BASE-T1S bus. -/
def isBus (pg : Nat) : Bool := decide (0x1A ≤ pg) && decide (pg ≤ 0x21)

/-- MAC_STAT.LINK (R313, R314). -/
def linkUp (s : State) (pg : Nat) : Bool := (s.mac pg).link && (!isBus pg || s.en pg)

/-- The port runs MACsec STRICT (Table 9-1). -/
def strict (s : State) (pg : Nat) : Bool := s.regB (R.MAC_SEC pg) 0

/-- The EtherType of a frame, after a VLAN tag where it carries one. -/
def tagged (b : List Byte) : Bool := beAt b 12 2 == 0x8100
def etherType (b : List Byte) : Nat := if tagged b then beAt b 16 2 else beAt b 12 2
/-- The bytes after the EtherType. -/
def etherPayload (b : List Byte) : List Byte := if tagged b then b.drop 18 else b.drop 14

/-- Frames that pass the uncontrolled port (R301). -/
def exempt (b : List Byte) : Bool := etherType b == 0x888E || etherType b == 0x8808

/-! Transmission -/

/-- A frame on a STRICT port without a transmit SA is dropped (R304). -/
def dropNoSa (s : State) (pg : Nat) : State := raiseMac (s.count (R.MAC_TXDROP pg) 0 32 1) pg 9

/-- The largest number of bytes after the EtherType (R289, Table 9-1). -/
def macMtu (s : State) (pg : Nat) : Nat :=
  match ppOf pg with
  | some u => s.regF (R.PP_CFG u) 16 14
  | none => s.regF (R.MAC_CFG pg) 0 14

/-- A U port with a VID transmits tagged with it and priority 0, but for MAC control frames (R292). -/
def vlanTag (s : State) (pg : Nat) (b : List Byte) : List Byte :=
  let vid := s.regF (R.MAC_CFG pg) 20 12
  if macCls pg == some .up && vid != 0 && etherType b != 0x8808 then
    b.take 12 ++ beBytes 2 0x8100 ++ beBytes 2 vid ++ b.drop 12
  else b

/-- Hand a frame that is no Perfer-OUT frame to a MAC: dropped without a transmit SA (R304) or a link (R315), or where it is
longer than the MTU (R289). -/
def macSendPtp (s : State) (pg pri : Nat) (b : List Byte) (ptp : Option (Nat × Nat)) : State :=
  if strict s pg && !exempt b && (s.mac pg).txSa.isNone then dropNoSa s pg
  else if !(linkUp s pg && s.en pg) || decide (macMtu s pg < (etherPayload b).length) then s.count (R.MAC_TXDROP pg) 0 32 1
  else s.setMac pg { s.mac pg with txq := (s.mac pg).txq ++ [⟨pri, vlanTag s pg b, ptp⟩] }
def macSend (s : State) (pg pri : Nat) (b : List Byte) : State := macSendPtp s pg pri b none

/-- A frame's own header: destination, the port's address, EtherType; padded to the Ethernet minimum. -/
def etherFrame (s : State) (pg dest etype : Nat) (payload : List Byte) : List Byte :=
  let b := beBytes 6 dest ++ beBytes 6 (macAddr s pg) ++ beBytes 2 etype ++ payload
  b ++ List.replicate (60 - b.length) 0#8

/-- A transmission is under way. -/
def txBusy (s : State) (pg : Nat) : Bool :=
  (s.mac pg).tx.isSome || (match ppOf pg with | some p => (s.port p).tx.isSome | none => false)

/-- A PAUSE holds the port (R297). -/
def held (s : State) (pg : Nat) : Bool :=
  match (s.mac pg).hold with
  | some h => decide (s.up < h.until_)
  | none => false

/-- The first waiting frame of a priority. -/
def firstPri (s : State) (pg pri : Nat) : Option MacFrame := (s.mac pg).txq.find? fun f => f.pri == pri

/-- A protected frame on the line (R302, IEEE 802.1AE): a SecTAG of 16 bytes with the SCI, then the ciphertext and an ICV of 16
bytes. -/
def sealFrame (s : State) (pg : Nat) (a : SaTx) (b : List Byte) : List Byte :=
  b.take 12 ++ beBytes 2 0x88E5 ++ beBytes 1 (0x2C + a.an) ++ beBytes 1 0 ++ beBytes 4 (a.pn % 2 ^ 32) ++
    beBytes 6 (macAddr s pg) ++ beBytes 2 1 ++
    (List.range (b.length - 12 + 16)).map (Config.sealedByte (a.an, a.pn, a.since) b)

/-- Put a frame that is no Perfer-OUT frame on the wire: it takes a packet number where the port is protected, and is
time-stamped (R305); without a transmit SA it is dropped (R304). -/
def beginMacFrame (s : State) (pg : Nat) (f : MacFrame) : State :=
  let m := s.mac pg
  let m1 := { m with txq := m.txq.erase f }
  if strict s pg && !exempt f.bytes && m.txSa.isNone then dropNoSa (s.setMac pg m1) pg
  else
    let guard := strict s pg && !exempt f.bytes
    let sa := if guard then m.txSa.map fun a => { a with pn := a.pn + 1 } else m.txSa
    let wire := match guard, sa with | true, some a => sealFrame s pg a f.bytes | _, _ => f.bytes
    s.setMac pg { m1 with tx := some f, txAt := s.up, txTs := nowNs s, txSa := sa, wire := wire, tries := 0 }

/-- A bus may begin (R309): 96 bit times have passed since carrier dropped, and none is present but what appeared in the last
32 of them, at the end of the gap. -/
def gapOver (s : State) (med : Medium) : Bool :=
  decide (med.drop + 9600 ≤ s.up) &&
    match med.rise with
    | none => true
    | some r => decide (med.drop + 6400 ≤ r) && decide (r < med.drop + 9600) && decide (s.up ≤ med.drop + 9600)

/-- At a frame boundary the first frame ready begins (R296): a PAUSE of the MAC, then PTP, then the client. A held port
begins only its own PAUSE frames (R297); a bus in backoff or whose medium is not free begins none (R309). -/
def frameTxStart (s : State) (pg : Nat) (med : Medium) : State :=
  if txBusy s pg || !linkUp s pg || !s.en pg || (s.mac pg).backoff.isSome || (isBus pg && !gapOver s med) then s
  else match firstPri s pg 0 with
    | some f => beginMacFrame s pg f
    | none =>
      if held s pg then s
      else match firstPri s pg 1 with
        | some f => beginMacFrame s pg f
        | none => match ppOf pg with
          | some p => startFrame s p
          | none => match ([2, 3, 4, 5, 6].filterMap (firstPri s pg)).head? with
            | some f => beginMacFrame s pg f
            | none => s

/-! PAUSE (9.4) -/

/-- A hold that has run out is over (R297); what it lasted is counted (R298). -/
def holdRan (s : State) (m : MacRt) : MacRt :=
  match m.hold with
  | some h => if h.until_ ≤ s.up then { m with hold := none, heldNs := m.heldNs + (h.until_ - h.from_) } else m
  | none => m

/-- A hold takes effect, or replaces the remaining time of one in force (R297). -/
def holdFrom (s : State) (pg until_ : Nat) : State :=
  let m := holdRan s (s.mac pg)
  match m.hold with
  | some h => if until_ ≤ s.up then
      s.setMac pg { m with hold := none, nextHold := none, heldNs := m.heldNs + (s.up - h.from_) }
    else s.setMac pg { m with hold := some { h with until_ := until_ }, nextHold := none }
  | none => if until_ ≤ s.up then s.setMac pg { m with nextHold := none }
    else s.setMac pg { m with hold := some ⟨s.up, s.up, until_, false⟩, nextHold := none }

/-- A received PAUSE (R297): counted, and ignored with RXEN = 0 or on a bus; it holds from the next frame boundary, and
replaces the remaining time of a hold in force at once. -/
def pauseReceive (s : State) (pg quanta : Nat) : State :=
  let s1 := s.count (R.MAC_RXPAUSE pg) 0 32 1
  if isBus pg || !s.regB (R.MAC_PAUSE pg) 0 then s1
  else
    let q := if s.regF (R.MAC_CFG pg) 14 2 = 0 then quanta * 512 / 25 else quanta * 512 / 10
    if txBusy s pg && !held s pg then s1.setMac pg { s1.mac pg with nextHold := some (s.up + q) }
    else holdFrom s1 pg (s.up + q)

/-- The hold ends when its time has run (R297); what it lasted is counted (R298). -/
def pauseHoldEnd (s : State) (pg : Nat) : State :=
  s.setMac pg (holdRan s (s.mac pg))

/-- PAUSE_LONG, once for a hold that reaches MAC_PAUSE.LONG (R298). -/
def pauseLong (s : State) (pg : Nat) : State :=
  let l := s.regF (R.MAC_PAUSE pg) 16 16
  match (s.mac pg).hold with
  | some h =>
    if l ≠ 0 ∧ !h.long ∧ l * 1000 ≤ min s.up h.until_ - h.start then
      raiseMac (s.setMac pg { s.mac pg with hold := some { h with long := true } }) pg 2
    else s
  | none => s

/-- MAC_PAUSEUS: microseconds held so far. -/
def pauseUs (s : State) (pg : Nat) : Nat :=
  let cur := match (s.mac pg).hold with | some h => min s.up h.until_ - h.from_ | none => 0
  min (((s.mac pg).heldNs + cur) / 1000) 0xFFFFFFFF

/-- Quanta of the present hold still to run (MAC_STAT.PAUSE_LEFT). -/
def pauseLeft (s : State) (pg : Nat) : Nat :=
  match (s.mac pg).hold with
  | some h => min (cdiv ((h.until_ - s.up) * (if s.regF (R.MAC_CFG pg) 14 2 = 0 then 25 else 10)) 512) 65535
  | none => 0

/-- Send a PAUSE with a pause_time (R300): none without a link. It counts in MAC_TXPAUSE when it has left. -/
def pauseSend (s : State) (pg time : Nat) : State :=
  let b := etherFrame s pg 0x0180C2000001 0x8808 (beBytes 2 1 ++ beBytes 2 time)
  if !(linkUp s pg && s.en pg) then s.setMac pg { s.mac pg with pausing := (s.mac pg).pausing && time != 0 }
  else macSend (s.setMac pg { s.mac pg with pausing := time != 0, pauseAt := s.up }) pg 0 b

/-- Free buffers of a U port's receive pool: FST_RXSTATn.FREE (R141, R142). -/
def State.pool (s : State) (u : Nat) : Pool := sgetD s.ing.pools u ⟨[], 0⟩
def poolFree (s : State) (u : Nat) : Nat :=
  s.regF (R.FST_RXCFG u) 0 14 - ((s.pool u).ring.map (·.bufs)).foldl (· + ·) 0

/-- X of a U port (R300): min(XOFF, NBUF ÷ 2). -/
def pauseX (s : State) (u : Nat) : Nat := min (s.regF (R.MAC_PAUSE (0x10 + u)) 3 13) (s.regF (R.FST_RXCFG u) 0 14 / 2)

/-- PAUSE generation after a change of a pool's level (R300). With TXEN 0 none is sent (Table 9-1). -/
def pauseCheck (s : State) (u : Nat) : State :=
  let pg := 0x10 + u
  let x := pauseX s u
  if (s.mac pg).pausing && decide (2 * x ≤ poolFree s u) then
    if s.regB (R.MAC_PAUSE pg) 1 then pauseSend s pg 0 else s.setMac pg { s.mac pg with pausing := false }
  else if s.regB (R.MAC_PAUSE pg) 1 && !(s.mac pg).pausing && decide (poolFree s u < x) then pauseSend s pg 0xFFFF
  else s

/-- Every 0.5 ms the PAUSE is repeated while FREE stays below 2X (R300). -/
def pauseRepeat (s : State) (pg : Nat) : State :=
  if (s.mac pg).pausing && s.regB (R.MAC_PAUSE pg) 1 && elapsed s (s.mac pg).pauseAt 500000 &&
      decide (poolFree s (pg - 0x10) < 2 * pauseX s (pg - 0x10)) then pauseSend s pg 0xFFFF
  else s

/-! The end of a transmission, and the bus (9.7) -/

/-- A frame has left the MAC: counted, its client is told, and a PAUSE received meanwhile takes effect (R297). -/
def frameTxEnd (s : State) (pg : Nat) : State :=
  if !txBusy s pg then s
  else
    let s1 := s.count (R.MAC_TXOK pg) 0 32 1
    let s2 := match (s1.mac pg).tx, ppOf pg with
      | some f, _ =>
        let t := s1.setMac pg { s1.mac pg with tx := none }
        if f.pri = 0 then t.count (R.MAC_TXPAUSE pg) 0 32 1 else t
      | none, some p => match (s1.port p).tx with
        | some f => frameLeft (s1.setPort p { s1.port p with tx := none }) p f
        | none => s1
      | none, none => s1
    match (s2.mac pg).nextHold with
    | some t => holdFrom s2 pg t
    | none => s2

/-- Drop the frame in hand after collisions (R309, R310): a Perfer-OUT frame gives back its credit and is not sent
again (R311); a mark GAP it carried was not sent (R269). -/
def dropInHand (s : State) (pg : Nat) : State :=
  let s1 := s.setMac pg { s.mac pg with tx := none, tries := 0, backoff := none }
  match ppOf pg with
  | some p => match (s1.port p).tx with
    | some f =>
      let s2 := releaseCredit (s1.setPort p { s1.port p with tx := none }) p f
      if f.gap then setGap s2 p f.node else s2
    | none => s1
  | none => s1

/-- A collision within 512 bit times (R309): the preamble is completed, jam, count, and back off r × 51.2 µs with r drawn from [0, 2^min(n, 10));
the 16th attempt discards the frame. -/
def busCollision (s : State) (pg : Nat) : State :=
  if !isBus pg || !txBusy s pg || decide (51200 < s.up - (s.mac pg).txAt) || (s.mac pg).backoff.isSome then s
  else
    let s1 := s.count (R.MAC_COLL pg) 0 32 1
    let n := (s1.mac pg).tries + 1
    if 16 ≤ n then raiseMac ((dropInHand s1 pg).count (R.MAC_EXCOLL pg) 0 32 1) pg 8
    else
      let r := (Config.freeWord64 s1.freeCtr).toNat % 2 ^ min n 10
      let jam := max s1.up ((s1.mac pg).txAt + 6400) + 3200
      (s1.setMac pg { s1.mac pg with tries := n, backoff := some (jam + r * 51200) }).draw

/-- A collision after 512 bit times abandons the frame (R310). -/
def lateCollision (s : State) (pg : Nat) : State :=
  if !isBus pg || !txBusy s pg || decide (s.up - (s.mac pg).txAt ≤ 51200) || (s.mac pg).backoff.isSome then s
  else raiseMac (((dropInHand s pg).count (R.MAC_COLL pg) 0 32 1).count (R.MAC_LATECOLL pg) 0 32 1) pg 7

/-- After the backoff and the deferral that follows it the frame is tried again (R309): Table 8-7 and the order check apply
anew (R311). -/
def busBackoffEnd (s : State) (pg : Nat) (med : Medium) : State :=
  match (s.mac pg).backoff with
  | none => s
  | some t =>
    if s.up < t || !gapOver s med then s
    else
      let s1 := s.setMac pg { s.mac pg with backoff := none, txAt := s.up, txTs := nowNs s }
      match ppOf pg with
      | none => s1
      | some p => match (s1.port p).tx with
        | none => s1
        | some f =>
          match checkFrame (s1.setPort p { s1.port p with tx := none }) p f with
          | (s2, none) => s2.setMac pg { s2.mac pg with tries := 0 }
          | (s2, some g) => beginFrame s2 p g false

/-! Links and cages (9.8) -/

/-- A cage that is switched off keeps its link down (R581): bit of the cage in PWR_CAGE. -/
def cageOf (pg : Nat) : Nat := if pg < 0x1A then pg - 0x10 else 10 + (pg - 0x22)

/-- A link comes up after 50 ms of block lock without a fault; a bus PHY reports itself ready (R313, R314). -/
def linkComesUp (s : State) (pg : Nat) : State :=
  if (s.mac pg).link || (!isBus pg && s.regB R.PWR_CAGE (cageOf pg)) then s
  else
    let s1 := s.setMac pg { s.mac pg with link := true }
    if isBus pg then s1 else raiseMac s1 pg 1

/-- Drop what a MAC holds for transmission (R315): in queue order, counted, on push ports under R284 too; the frame on
the wire is lost and a hold ends. A frame in backoff is on no wire: it is held like those that wait. -/
def macDropAll (s : State) (pg : Nat) : State :=
  let off := (s.mac pg).backoff.isSome
  let s1 := if off then s else dropInHand s pg
  let m := s1.mac pg
  let nPush := (match ppOf pg with | some p => (backoffFrame s1 p ++ (s1.port p).q).length | none => 0) +
    b2n (off && m.tx.isSome)
  let held' := match m.hold with | some h => m.heldNs + (min s1.up h.until_ - h.from_) | none => m.heldNs
  let s2 := (s1.setMac pg { m with txq := [], hold := none, nextHold := none, heldNs := held', pausing := false }).count
    (R.MAC_TXDROP pg) 0 32 (m.txq.length + nPush)
  match ppOf pg with
  | some p => dropQueue s2 p
  | none => s2

/-- A link goes down after 1 ms without lock or with a fault (R314, R315). -/
def linkGoesDown (s : State) (pg : Nat) : State :=
  if !(s.mac pg).link then s
  else
    let s1 := macDropAll (s.setMac pg { s.mac pg with link := false }) pg
    if isBus pg then s1 else raiseMac s1 pg 0

/-- A page with an SFP cage. -/
def hasCage (pg : Nat) : Bool := (decide (0x10 ≤ pg) && decide (pg ≤ 0x19)) || (decide (0x22 ≤ pg) && decide (pg ≤ 0x24))

/-- A cage drives TX_DISABLE (R316): in a device reset, or without main power, while its port is disabled, or by
MAC_SFPCTL.TXDIS. -/
def txDisable (s : State) (pg : Nat) : Bool :=
  hasCage pg && (s.pwr.phase != 2 || !s.en pg || s.regB (R.MAC_SFPCTL pg) 0)

/-- RS0 and RS1 of a cage (R316): high on U cages with SPEED 0. -/
def rateSelect (s : State) (pg : Nat) : Bool := macCls pg == some .up && s.regF (R.MAC_CFG pg) 14 2 == 0

/-- Store bytes in the SFP cache from word `i` on (Table 9-11). -/
def sfpStore (s : State) (pg i : Nat) (b : List Byte) : State :=
  (List.range 64).foldl (fun t k => t.setEnt (tSFP + pg) (i + k) [w32 (leNat ((b.drop (4 * k)).take 4))]) s

/-- Sum of bytes `a` to `b` inclusive, modulo 256. -/
def byteSum (l : List Byte) (a b : Nat) : Nat :=
  ((l.drop a).take (b + 1 - a)).foldl (fun x y => (x + y.toNat) % 256) 0

/-- A module is inserted (R317): its A0h page is cached and checked, and its A2h page where byte 92 announces
diagnostics. -/
def sfpInsert (s : State) (pg : Nat) (a0 a2 : List Byte) : State :=
  if !hasCage pg || (s.mac pg).sfp then s
  else
    let d := (lget a0 92 0#8).toNat.testBit 6
    let s1 := sfpStore (s.setMac pg { s.mac pg with sfp := true, diag := d }) pg 0 a0
    let s2 := if d then sfpStore s1 pg 64 a2 else s1
    let s3 := raiseMac s2 pg 4
    if byteSum a0 0 62 != (lget a0 63 0#8).toNat || byteSum a0 64 94 != (lget a0 95 0#8).toNat then raiseMac s3 pg 5
    else s3

/-- Removal: the cache reads zero (R317), and a cage switched off is powered again (R581). -/
def sfpRemove (s : State) (pg : Nat) : State :=
  if !hasCage pg || !(s.mac pg).sfp then s
  else
    let s1 := s.setMac pg { s.mac pg with sfp := false, diag := false, txFault := false, rxLos := false }
    let s2 := sfpStore (sfpStore s1 pg 0 []) pg 64 []
    raiseMac (s2.setRegB R.PWR_CAGE (cageOf pg) false) pg 4

/-- The A2h diagnostics are refreshed (R317). -/
def sfpDiag (s : State) (pg : Nat) (a2 : List Byte) : State :=
  if (s.mac pg).sfp && (s.mac pg).diag then sfpStore s pg 64 a2 else s

/-- TX_FAULT of a cage rises or falls; a rise sets the event (R318). RX_LOS follows its pin. -/
def txFault (s : State) (pg : Nat) (level rxLos : Bool) : State :=
  if !hasCage pg then s
  else
    let rise := level && !(s.mac pg).txFault
    let s1 := s.setMac pg { s.mac pg with txFault := level, rxLos := rxLos }
    if rise then raiseMac s1 pg 6 else s1

/-- The counters of Table 9-10, in offset order. -/
def macCounters (pg : Nat) : List Nat := (List.range 17).map fun k => R.MAC_RXOK pg + 4 * k

/-- Buffers of a port's ring (Table 9-4) that are free. -/
def ringFree (s : State) (pg : Nat) : Nat := s.regF (R.MAC_RING pg) 0 14 - ((s.mac pg).ring.map (·.bufs)).foldl (· + ·) 0

/-- MAC_CLR.CNT: every counter of Table 9-10 is cleared; a hold under way counts from now. -/
def macClrCnt (s : State) (pg : Nat) : State :=
  let s1 := (macCounters pg).foldl (fun t a => t.setReg a 0#32) s
  let h := (s1.mac pg).hold.map fun h => { h with from_ := min s1.up h.until_ }
  s1.setMac pg { s1.mac pg with heldNs := 0, hold := h }

/-! Security (9.5) -/

/-- Remove the SAs of a page's port. -/
def removeSas (s : State) (pg : Nat) : State := s.setMac pg { s.mac pg with txSa := none, xpn := false, rxAns := [], rxSas := [] }

/-- MAC_STAT.SECURE (Table 9-9). -/
def secure (s : State) (pg : Nat) : Bool := (s.mac pg).txSa.isSome && !(s.mac pg).rxAns.isEmpty

/-- Highest packet number accepted from a channel under an association number. -/
def rxPn (s : State) (pg sci an : Nat) : Nat :=
  match (s.mac pg).rxSas.find? fun a => a.sci == sci && a.an == an with
  | some a => a.pn
  | none => 0

/-- A SecTAG passes check 6 (R303): its SCI is known to key agreement, a receive SA of its association number is
installed, the ICV verifies and the packet number lies above the highest accepted one (the replay window is 0, R514). -/
def secOk (s : State) (pg : Nat) (sec : Option (Nat × Bool × Nat × Nat × Bool)) : Bool :=
  match sec with
  | none => false
  | some (sci, known, an, pn, icv) =>
    known && icv && (s.mac pg).rxAns.contains an && decide (rxPn s pg sci an < pn)

/-- Note the packet number of an accepted protected frame. -/
def secAccept (s : State) (pg : Nat) (sec : Option (Nat × Bool × Nat × Nat × Bool)) : State :=
  match sec with
  | none => s
  | some (sci, _, an, pn, _) => s.setMac pg { s.mac pg with
      rxSas := ((s.mac pg).rxSas.filter fun a => !(a.sci == sci && a.an == an)) ++ [⟨sci, an, pn⟩] }

end Sys2Proof.Machine
end

