-- ==== Sys2Proof/Machine/Ingest.lean ====
section
/-! DEFINITION. Content ingest (chapter 5): pools, Perfer-IN, ST 2110 streams, E1.31 universes, and the INGEST_FIX items
that write layer buffers. U ports are numbered 0 and 1. -/

namespace Sys2Proof.Machine

/-! Formats and buffers (5.2) -/

/-- Round up to a multiple. -/
def roundUp (n m : Nat) : Nat := cdiv n m * m

/-- Planes of a format (Table 5-3): samples per row, rows, bytes per sample. -/
def planes (fmt w h : Nat) : List (Nat × Nat × Nat) :=
  match fmt with
  | 0x01 => [(w, h, 4)]
  | 0x02 => [(w, h, 4)]
  | 0x03 => [(w, h, 8)]
  | 0x10 => [(w, h, 1), (w, h, 1), (w, h, 1)]
  | 0x11 => [(w, h, 2), (w, h, 2), (w, h, 2)]
  | 0x12 => [(w, h, 2), (w / 2, h, 4)]
  | 0x13 => [(w, h, 1), (w / 2, h / 2, 2)]
  | 0x14 => [(w, h, 2), (w / 2, h / 2, 4)]
  | _ => []

/-- Bytes of a row (R148). -/
def rowBytes (p : Nat × Nat × Nat) : Nat := roundUp (p.1 * p.2.2) 64

/-- Offset of plane `k` in a buffer. -/
def planeOff (ps : List (Nat × Nat × Nat)) (k : Nat) : Nat :=
  ((ps.take k).map fun p => p.2.1 * rowBytes p).foldl (· + ·) 0

/-- Size of a buffer: planes rounded up to 4 KiB. -/
def bufSize (fmt w h : Nat) : Nat :=
  let ps := planes fmt w h
  roundUp (planeOff ps ps.length) 4096

/-- Planes of a layer. -/
def layPlanes (s : State) (n : Nat) : List (Nat × Nat × Nat) := planes (layFmt s n) (layW s n) (layH s n)

/-- Write bytes into the layer region. -/
def layWrite (s : State) (o : Nat) (bs : List Byte) : State :=
  { s with layMem := (bs.foldl (fun (a : SMap Byte × Nat) b => (sput a.1 a.2 b 0#8, a.2 + 1)) (s.layMem, o)).1 }

/-- Write rows into the layer region. -/
def writeRows (s : State) (rows : List BytesAt) : State := rows.foldl (fun t r => layWrite t r.off r.bytes) s

/-- Enabled layers, ascending: only listed entries can be enabled. -/
def enabledLayers (s : State) : List Nat :=
  ((s.tabs.filter fun e => e.1 / 2 ^ 32 == tLAY).map fun e => e.1 % 2 ^ 32).filter fun n => layEn s n

/-! Pools (5.1) -/

/-- Buffers of a frame of `len` bytes from its destination address to the last byte before its FCS, as received after the SecY
(R140). -/
def frameBufs (len : Nat) : Nat := max 1 (cdiv len 2048)

/-- Take buffers for a frame, where the pool has them (R143): the pool number of the frame. -/
def poolTake (s : State) (u len : Nat) : Option (State × Nat) :=
  let k := frameBufs len
  if poolFree s u < k then none
  else
    let p := s.pool u
    let pools := sput s.ing.pools u ⟨p.ring ++ [⟨p.nextId, k, false⟩], p.nextId + 1⟩ ⟨[], 0⟩
    let s1 := { s with ing := { s.ing with pools := pools } }
    let s2 := s1.setRegF (R.FST_RXSTAT u) 16 14 (min (s1.regF (R.FST_RXSTAT u) 16 14) (poolFree s1 u))
    some (pauseCheck s2 u, p.nextId)

/-- Released buffers become free in ring order (R142). -/
def popReleased : List PoolFrame → List PoolFrame
  | [] => []
  | f :: fs => if f.released then popReleased fs else f :: fs

/-- A frame that finds too few buffers is dropped whole (R143): those it filled before the pool ran out return in ring order
(R142). -/
def noBuf (s : State) (u : Nat) : State :=
  let k := poolFree s u
  let s1 := raise (s.count (R.FST_NOBUF u) 0 32 1) 0x08 u
  if k = 0 then s1
  else
    let p := s1.pool u
    let filled := p.ring ++ [⟨p.nextId, k, true⟩]
    let s2 := pauseCheck { s1 with ing := { s1.ing with pools := sput s1.ing.pools u ⟨filled, p.nextId + 1⟩ ⟨[], 0⟩ } } u
    pauseCheck ({ s2 with ing := { s2.ing with
      pools := sput s2.ing.pools u ⟨popReleased filled, p.nextId + 1⟩ ⟨[], 0⟩ } }.setRegF (R.FST_RXSTAT u) 16 14 0) u

/-- Release the buffers of a frame (R142); the pool level may end a PAUSE (R300). -/
def poolRelease (s : State) (u id : Nat) : State :=
  let p := s.pool u
  let ring := popReleased (p.ring.map fun f => if f.id = id then { f with released := true } else f)
  pauseCheck { s with ing := { s.ing with pools := sput s.ing.pools u ⟨ring, p.nextId⟩ ⟨[], 0⟩ } } u

/-! Layer frames -/

/-- Present and completed: count an INCOMPLETE layer frame (R177). -/
def countIncomplete (s : State) (n : Nat) : State :=
  raise (s.setLay n { s.lay n with incomplete := satAdd 16 (s.lay n).incomplete 1 }) 0x09 0

/-- A late auto commit (Table 5-9, R169). -/
def autoLate (s : State) (n : Nat) : State :=
  raise (s.setLay n { s.lay n with late := satAdd 16 (s.lay n).late 1 }) 0x09 3

/-- A commit of ingest at the present time (R154, R161, R168, R176): late where it lies in a lead interval (R224), as an
auto commit also on its layer (Table 5-9). -/
def commitNow (s : State) (n slot fnum : Nat) (inc : Bool) : State :=
  let c := nowNs s
  let d := layDom s n
  let s1 := if inLead s d c then commitLate (if laySrc s n = 0 then s else autoLate s n) d 0x09 0xF else s
  selectSlot s1 n ⟨slot, c, none, some fnum, inc, none, false⟩

/-- The first whole nanosecond at or after a media time (R167) and an offset in µs: P is at or after one where it is at or
after the other. -/
def mediaNs (media : Int) (mofs : Nat) : Nat := (-(-(media * 100000 + (mofs : Int) * 9000) / 9)).toNat

/-- The epoch of MEDIA mode (R169): the first epoch with P ≥ `t`, as number and latch point. -/
def mediaEpoch (s : State) (d t : Nat) : Nat × Nat :=
  let e := epochFrom s d t
  (e.k, e.l)

/-- The first latch point after `c`: its epoch (R224). -/
def nextLatchOf (s : State) (d c : Nat) : Nat :=
  max (s.dom d).next.k (latchFrom s d (c + 1)).k

/-- A commit in MEDIA mode (R169): on time for its target, or late for the first latch point that follows. -/
def commitMedia (s : State) (n slot fnum : Nat) (inc : Bool) (media : Int) (mofs : Nat) : State :=
  let c := nowNs s
  let d := layDom s n
  if !(s.dom d).running then selectSlot s n ⟨slot, c, none, some fnum, inc, some media, false⟩
  else
    let e := mediaEpoch s d (mediaNs media mofs)
    if c < e.2 then selectSlot s n ⟨slot, c, some e.1, some fnum, inc, some media, false⟩
    else
      let s2 := commitLate (autoLate s n) d 0x09 0xF
      selectSlot s2 n ⟨slot, c, some (nextLatchOf s d c), some fnum, inc, some media, false⟩

/-- An auto-committed layer frame is complete: held where it is INCOMPLETE under HOLD (R178), else committed
(R179). -/
def finishFrame (s : State) (n slot fnum : Nat) (inc : Bool) (media : Option (Int × Nat)) : State :=
  let s1 := if inc then countIncomplete s n else s
  if inc && !layPresent s n then
    if (slotAt s n slot).st = 1 then setSlot s1 n slot { slotAt s1 n slot with st := 0, inc := false } else s1
  else
    let s2 := setSlot s1 n slot { slotAt s1 n slot with inc := false }
    match media with
    | some (m, o) => commitMedia s2 n slot fnum inc m o
    | none => commitNow s2 n slot fnum inc

/-- An ST 2110 layer frame is complete (R166, R168, R169). -/
def finishVideo (s : State) (n slot fnum : Nat) (media : Int) : State :=
  if !layEn s n || (slotAt s n slot).st != 1 then s
  else
    let inc := (slotAt s n slot).inc
    match streamOf s n with
    | some i =>
      let c := (s.regF (R.LAY_SCNT i) 16 16 + 1) % 65536
      let s1 := s.setRegF (R.LAY_SCNT i) 16 16 c
      finishFrame s1 n slot fnum inc
        (if s.regB (R.LAY_SCTL i) 14 then some (media, s.regF (R.LAY_SMOFS i) 0 20) else none)
    | none => finishFrame s n slot fnum inc none

/-- An in-band COMMIT (R161, R162): judged by its REGIONS count, then committed like a register commit. -/
def finishCommit (s : State) (u n slot fnum regions : Nat) : State :=
  let key := u * 256 + n
  let cnt := sgetD s.ing.regions key 0
  let s1 := { s with ing := { s.ing with regions := sput s.ing.regions key 0 0 } }
  if !layEn s n || laySrc s n != 0 then s1
  else finishFrame s1 n slot fnum (cnt != regions) none

/-! INGEST_FIX items (R144) -/

/-- Key of a carried frame. -/
def carryKey (u n i : Nat) : Nat := u * 2 ^ 24 + n * 2 ^ 16 + i % 65536

/-- Take the frames of an item: operations in order, with their pool frames. -/
def carriedOf (s : State) (u n first count : Nat) : List Carried :=
  (List.range count).filterMap fun k => sget s.ing.carried (carryKey u n (first + k))

/-- Forget the frames of an item and release their buffers. -/
def dropCarried (s : State) (u n first count : Nat) : State :=
  (List.range count).foldl (fun t k =>
    let key := carryKey u n (first + k)
    match sget t.ing.carried key with
    | none => t
    | some c =>
      let t1 := { t with ing := { t.ing with carried := sdel t.ing.carried key } }
      match c.pool with
      | some id => poolRelease t1 u id
      | none => t1) s

/-- The frames of an item will not be written (R146, R177): an ST 2110 layer frame is INCOMPLETE, and complete where its
last frame is among them. -/
def lostFrames (s : State) (n fnum : Nat) (cs : List Carried) : State :=
  cs.foldl (fun t c =>
    match c.op with
    | .video slot _ fin =>
      let t1 := setSlot t n slot { slotAt t n slot with inc := true }
      match fin with
      | some m => finishVideo t1 n slot fnum m
      | none => t1
    | _ => t) s

/-- Close an item and enqueue it (R144); a refused enqueue drops its frames (R146). -/
def closeItem (s : State) (o : OpenItem) (op : Nat) : State :=
  let s1 := { s with ing := { s.ing with open_ := s.ing.open_.erase o } }
  let it := mkItem { kind := kIngest, flow := 242 + o.port } [o.layer + op * 256, o.first % 65536, o.count, o.fnum]
  match enqueueIn s1 it with
  | (s2, true) => s2
  | (s2, false) =>
    let cs := carriedOf s2 o.port o.layer o.first o.count
    let k := (cs.filter fun c => c.pool.isSome).length
    let s3 := dropCarried s2 o.port o.layer o.first o.count
    lostFrames (raise (s3.count (R.FST_QFULL o.port) 0 32 k) 0x08 2) o.layer o.fnum cs

/-- Close the items open on a port that a condition names, in the order of their first frames. -/
def closeItems (s : State) (u : Nat) (which : OpenItem → Bool) : State :=
  (s.ing.open_.filter fun o => o.port == u && which o).foldl (fun t o => closeItem t o 0) s

/-- Close an item and, before it, every other one open on its port, so that what arrived before the item's last frame has
been enqueued before it (R145, R161). -/
def closeLast (s : State) (o : OpenItem) : State := closeItem (closeItems s o.port (· != o)) o 0

/-- The open item of a port and layer. -/
def openOf (s : State) (u n : Nat) : Option OpenItem := s.ing.open_.find? fun o => o.port == u && o.layer == n

/-- Carry an accepted frame to its layer (R144): into the open item, or a new one; `close` closes the item with it. The
frames of an item follow one another on the port: a frame of another layer in between closes it, so that content reaches the
layers in arrival order (R145; DEDUCED, log 114). -/
def carryFrame (s : State) (u n fnum : Nat) (c : Carried) (close : Bool) : State :=
  let key := u * 256 + n
  let i := sgetD s.ing.nextOf key 0
  let nx := sput s.ing.nextOf key (i + 1) 0
  let ca := sset s.ing.carried (carryKey u n i) c
  let s1 := { s with ing := { s.ing with nextOf := nx, carried := ca } }
  let (s2, o) : State × OpenItem := match openOf s u n with
    | some o =>
      let o' := { o with count := o.count + 1, fnum := fnum }
      ({ s1 with ing := { s1.ing with open_ := s1.ing.open_.map fun x => if x = o then o' else x } }, o')
    | none =>
      let o' : OpenItem := ⟨u, n, i, 1, s.up, fnum⟩
      let t := closeItems s1 u fun _ => true
      ({ t with ing := { t.ing with open_ := t.ing.open_ ++ [o'] } }, o')
  if close || decide (64 ≤ o.count) then closeLast s2 o else s2

/-- An open item is closed 20 µs after its first frame arrived (R144). -/
def ingestItemClose (s : State) (u n : Nat) : State :=
  match openOf s u n with
  | some o => if elapsed s o.since 20000 then closeLast s o else s
  | none => s

/-! Perfer-IN (5.3) -/

/-- A parser takes frames of a port: both pages enabled, the port's enable, and island 4 running (R620). -/
def parserOn (s : State) (reg u : Nat) : Bool :=
  s.en 0x08 && s.en 0x09 && s.islUp 4 && s.regB reg (16 * b2n (reg == R.LAY_PIN) + u)

/-- The rows of a REGION for a buffer at `base`. -/
def regionRows (base : Nat) (ps : List (Nat × Nat × Nat)) (plane x y w h : Nat) (data : List Byte) : List BytesAt :=
  let p := lget ps plane (0, 0, 0)
  (List.range h).map fun r =>
    ⟨base + planeOff ps plane + (y + r) * rowBytes p + x * p.2.2, (data.drop (r * w * p.2.2)).take (w * p.2.2)⟩

/-- A REGION message is well formed for its layer (R159): header fields of Table 5-5, layer, slot, plane, rectangle and
payload length. -/
def regionOk (s : State) (m : List Byte) : Bool :=
  let n := beAt m 2 1
  let slot := beAt m 3 1
  let x := beAt m 8 2
  let y := beAt m 10 2
  let w := beAt m 12 2
  let h := beAt m 14 2
  let p := lget (layPlanes s n) (beAt m 16 1) (0, 0, 0)
  decide (20 ≤ m.length) && beAt m 0 1 == 1 && beAt m 1 1 == 1 && decide (n < 192) && decide (slot < 4) &&
    decide (1 ≤ w) && decide (w ≤ 8192) && decide (1 ≤ h) && decide (h ≤ 8192) && beAt m 17 1 == 0 &&
    layEn s n && laySrc s n == 0 && decide (slot < layNbuf s n) &&
    decide (beAt m 16 1 < (layPlanes s n).length) && decide (x + w ≤ p.1) && decide (y + h ≤ p.2.1) &&
    beAt m 18 2 == w * h * p.2.2 && m.length == 20 + w * h * p.2.2

/-- A COMMIT message is well formed (R159). -/
def commitOk (s : State) (m : List Byte) : Bool :=
  let n := beAt m 2 1
  m.length == 20 && beAt m 0 1 == 1 && beAt m 1 1 == 2 && decide (n < 192) && decide (beAt m 3 1 < 4) &&
    beAt m 12 8 == 0 && layEn s n && laySrc s n == 0 && decide (beAt m 3 1 < layNbuf s n)

/-- A Perfer-IN REGION (R159, R160): dropped and counted, or its rectangle is queued for its slot. REGIONs are stated
as the datagram `m` and the length of the frame that carried it. -/
def perferRegion (s : State) (u len : Nat) (m : List Byte) : State :=
  if !parserOn s R.LAY_PIN u then s
  else if !regionOk s m then s.count (R.FST_PARSE u) 0 32 1
  else
    let n := beAt m 2 1
    let slot := beAt m 3 1
    let st := (slotAt s n slot).st
    if 2 ≤ st then s.count (R.FST_BUSY u) 0 32 1
    else match poolTake s u len with
      | none => noBuf s u
      | some (s1, id) =>
        let s2 := if st = 0 then setSlotSt s1 n slot 1 else s1
        let ps := layPlanes s n
        let rows := regionRows (layBase s n slot) ps (beAt m 16 1) (beAt m 8 2) (beAt m 10 2) (beAt m 12 2) (beAt m 14 2) (m.drop 20)
        carryFrame s2 u n (beAt m 4 4) ⟨some id, .region slot (beAt m 4 4) rows⟩ false

/-- A Perfer-IN COMMIT (R161): the last frame of its item. -/
def perferCommit (s : State) (u len : Nat) (m : List Byte) : State :=
  if !parserOn s R.LAY_PIN u then s
  else if !commitOk s m then s.count (R.FST_PARSE u) 0 32 1
  else match poolTake s u len with
    | none => noBuf s u
    | some (s1, id) =>
      let regions := beAt m 8 2 + beAt m 10 2 * 65536
      carryFrame s1 u (beAt m 2 1) (beAt m 4 4) ⟨some id, .commit (beAt m 3 1) (beAt m 4 4) regions⟩ true

/-! ST 2110 (5.4) -/

/-- Frame rate of a stream as numerator and denominator (Table 5-19). -/
def streamRate (s : State) (i : Nat) : Nat × Nat :=
  lget [(24, 1), (24000, 1001), (25, 1), (30, 1), (30000, 1001), (50, 1), (60, 1), (60000, 1001)]
    (s.regF (R.LAY_SRATE i) 0 4) (60, 1)

/-- Layer format of SAMP and DEPTH, and bits per pixel on the wire (Table 5-7). -/
def streamFmt (samp depth : Nat) : Nat × Nat :=
  if samp = 0 then (0x12, 20) else if samp = 1 then (if depth = 0 then (0x10, 24) else (0x11, 30))
  else if depth = 0 then (0x01, 24) else (0x02, 30)

/-- Pixels and bytes of a pixel group. -/
def pgroup (samp depth : Nat) : Nat × Nat :=
  if samp = 0 then (2, 5) else if depth = 0 then (1, 3) else (4, 15)

/-- Value `k` of `w` bits, most significant first, of a group of `n` bytes. -/
def groupVal (g : List Byte) (n w k : Nat) : Nat := (beNat g >>> (8 * n - w * (k + 1))) % 2 ^ w

/-- The samples of one pixel group at pixel (x, y), as bytes for a buffer at `base`. The order of samples in a group is
that of SMPTE ST 2110-20: Cb Y Cr Y for 4:2:2, Cb Y Cr for 4:4:4, R G B. -/
def groupBytes (base : Nat) (ps : List (Nat × Nat × Nat)) (samp depth x y : Nat) (g : List Byte) : List BytesAt :=
  let at_ (k px bps : Nat) (bs : List Byte) : BytesAt :=
    ⟨base + planeOff ps k + y * rowBytes (lget ps k (0, 0, 0)) + px * bps, bs⟩
  if samp = 0 then
    let v := groupVal g 5 10
    [at_ 0 x 2 (leBytes 2 (v 1)), at_ 0 (x + 1) 2 (leBytes 2 (v 3)), at_ 1 (x / 2) 4 (leBytes 2 (v 0) ++ leBytes 2 (v 2))]
  else if samp = 1 then
    if depth = 0 then
      let v := groupVal g 3 8
      [at_ 0 x 1 (leBytes 1 (v 1)), at_ 1 x 1 (leBytes 1 (v 0)), at_ 2 x 1 (leBytes 1 (v 2))]
    else
      let v := groupVal g 15 10
      ((List.range 4).map fun i => [at_ 0 (x + i) 2 (leBytes 2 (v (3 * i + 1))), at_ 1 (x + i) 2 (leBytes 2 (v (3 * i))),
        at_ 2 (x + i) 2 (leBytes 2 (v (3 * i + 2)))]).flatten
  else if depth = 0 then [at_ 0 x 4 (g.take 3 ++ [255#8])]
  else
    let v := groupVal g 15 10
    (List.range 4).map fun i =>
      at_ 0 (x + i) 4 (leBytes 4 (v (3 * i) + v (3 * i + 1) * 2 ^ 10 + v (3 * i + 2) * 2 ^ 20 + 3 * 2 ^ 30))

/-- The samples of a row data segment. -/
def srdBytes (base : Nat) (ps : List (Nat × Nat × Nat)) (samp depth : Nat) (r : Srd) : List BytesAt :=
  let pg := pgroup samp depth
  ((List.range (r.data.length / pg.2)).map fun k =>
    groupBytes base ps samp depth (r.off + k * pg.1) r.line ((r.data.drop (k * pg.2)).take pg.2)).flatten

/-- A packet's segments fit the stream (Table 5-6): progressive, one to three segments, whole pixel groups inside the
picture. -/
def srdsOk (samp depth w h : Nat) (rs : List Srd) : Bool :=
  let pg := pgroup samp depth
  decide (1 ≤ rs.length) && decide (rs.length ≤ 3) && rs.all fun r =>
    !r.field && decide (r.line < h) && r.data.length % pg.2 == 0 && r.off % pg.1 == 0 &&
      decide (r.off + r.data.length / pg.2 * pg.1 ≤ w)

/-- Media time of a timestamp (R167) as a count of 90 kHz: the one within [a − 23,860 s, a + 23,860 s) of the arrival `a`. The
window is 1.86 s short of the counts' period: a timestamp that has no count in it has a media time the manual does not
state. -/
def mediaTime (arrival ts : Nat) : Int :=
  let n := arrival * 9 / 100000
  let lo : Int := (n : Int) - ((n + 2 ^ 32 - ts % 2 ^ 32) % 2 ^ 32 : Nat)
  let a : Int := arrival
  let within (c : Int) : Bool := decide ((a - 23860000000000) * 9 ≤ c * 100000) && decide (c * 100000 < (a + 23860000000000) * 9)
  if within lo then lo else if within (lo + 2 ^ 32) then lo + 2 ^ 32 else (Config.freeNat 9 ts : Int)

def stream0 : StreamRt := ⟨none, false, 0, none, none, [], [], []⟩
def State.stream (s : State) (i : Nat) : StreamRt := sgetD s.ing.streams i stream0
def State.setStream (s : State) (i : Nat) (r : StreamRt) : State :=
  { s with ing := { s.ing with streams := sput s.ing.streams i r stream0 } }

/-- Note a media time; those more than half a timestamp period behind are forgotten, as their timestamps come round again. -/
def noteMedia (l : List Int) (m : Int) : List Int := m :: l.filter fun x => decide (m - 2 ^ 31 ≤ x)

/-- End the frame a stream has open without its marker (R166, R170): the open item is closed and an OP 2 item marks the
layer frame INCOMPLETE (R177). -/
def endFrame (s : State) (i : Nat) : State :=
  match (s.stream i).cur with
  | none => s
  | some v =>
    let u := v.port
    let n := v.layer
    let s1 := s.setStream i { s.stream i with cur := none, done := noteMedia (s.stream i).done v.media }
    let s2 := setSlot s1 n v.slot { slotAt s1 n v.slot with inc := true }
    let s3 := match openOf s2 u n with | some o => closeLast s2 o | none => s2
    let key := u * 256 + n
    let k := sgetD s3.ing.nextOf key 0
    let nx := sput s3.ing.nextOf key (k + 1) 0
    let ca := sset s3.ing.carried (carryKey u n k) ⟨none, .video v.slot [] (some v.media)⟩
    closeItem { s3 with ing := { s3.ing with nextOf := nx, carried := ca } } ⟨u, n, k, 1, s.up, v.ts⟩ 2

/-- A packet of the frame `v` that stream `i` has open arrives: the packets missing before it mark the frame INCOMPLETE and
are counted (R166, R171). One that arrives late is not missing again, and moves the expected number no way back. -/
def seqArrive (s : State) (i seq : Nat) (v : VFrame) : State :=
  let miss := match (s.stream i).nextSeq with
    | some q => (seq + 2 ^ 32 - q) % 2 ^ 32
    | none => 0
  let late := decide (2 ^ 31 ≤ miss)
  let s1 := if late || miss == 0 then s
    else (setSlot (s.count (R.FST_SEQ v.port) 0 32 miss) v.layer v.slot { slotAt s v.layer v.slot with inc := true }).count
      (R.LAY_SCNT i) 0 16 miss
  if late then s1 else s1.setStream i { s1.stream i with nextSeq := some ((seq + 1) % 2 ^ 32) }

/-- A packet of the frame that a stream has open is written to its slot; packets missing before it mark the frame INCOMPLETE
and count (R166, R171), and so does its own loss for want of a buffer (R143, R177). -/
def videoWrite (s : State) (i len seq ts : Nat) (marker : Bool) (rs : List Srd) : State :=
  let samp := s.regF (R.LAY_SCTL i) 10 2
  let depth := s.regF (R.LAY_SCTL i) 12 2
  match (s.stream i).cur with
  | none => s
  | some v =>
    let u := v.port
    let n := v.layer
    let s1 := seqArrive s i seq v
    match poolTake s1 u len with
    | none => setSlot (noBuf s1 u) n v.slot { slotAt s1 n v.slot with inc := true }
    | some (s2, id) =>
      let rows := (rs.map (srdBytes (layBase s n v.slot) (layPlanes s n) samp depth)).flatten
      let r := s2.stream i
      let r1 := if marker then { r with cur := none, nextSeq := none, done := noteMedia r.done v.media } else r
      carryFrame (s2.setStream i r1) u n ts ⟨some id, .video v.slot rows (if marker then some v.media else none)⟩ marker

/-- A packet whose timestamp is dropped for want of a slot (R166): its buffers return. -/
def videoDrop (s : State) (u len : Nat) : State :=
  match poolTake s u len with
  | none => noBuf s u
  | some (s1, id) => poolRelease s1 u id

/-- A packet of stream `i` was dropped for want of a buffer (R143): the frame it belongs to is INCOMPLETE (R177), the one
open, which its arrival ends where its timestamp is a new one (R166), or one that opens later. -/
def streamLost (s : State) (i ssrc seq ts : Nat) : State :=
  let r := s.stream i
  let m := mediaTime (nowNs s) ts
  if !s.regB (R.LAY_SCTL i) 0 || (r.ssrc.isSome && r.ssrc != some ssrc) then s
  else match r.cur.filter (·.ts == ts) with
  | some v =>
    let s1 := seqArrive s i seq v
    setSlot s1 v.layer v.slot { slotAt s1 v.layer v.slot with inc := true }
  | none =>
    if r.done.contains m || r.noSlot.contains m then s
    else
      let s1 := endFrame s i
      s1.setStream i { s1.stream i with noBuf := noteMedia (s1.stream i).noBuf m }

/-- An ST 2110 packet of stream `i` (R163-R171), stated by the length of its frame, SSRC, extended sequence number, RTP
timestamp, marker bit and row data segments. -/
def st2110Packet (s : State) (i len ssrc seq ts : Nat) (marker : Bool) (rs : List Srd) : State :=
  let u := s.regF (R.LAY_SCTL i) 1 1
  let n := s.regF (R.LAY_SCTL i) 2 8
  let samp := s.regF (R.LAY_SCTL i) 10 2
  let depth := s.regF (R.LAY_SCTL i) 12 2
  let r := s.stream i
  if !(s.en 0x08 && s.en 0x09 && s.islUp 4 && s.regB (R.LAY_SCTL i) 0) then s
  else if !srdsOk samp depth (layW s n) (layH s n) rs then s.count (R.FST_PARSE u) 0 32 1
  else if r.ssrc.isSome && r.ssrc != some ssrc then s.count (R.FST_NOSRC u) 0 32 1
  else
    let isOpen := match r.cur with | some v => v.ts == ts | none => false
    let m := mediaTime (nowNs s) ts
    let fits := decide (frameBufs len ≤ poolFree s u)
    let s1 := if fits then s.setStream i { r with ssrc := some ssrc, live := true, lastPkt := s.up } else s
    if isOpen then videoWrite s1 i len seq ts marker rs
    else if r.done.contains m then s.count (R.FST_SEQ u) 0 32 1
    else if r.noSlot.contains m then videoDrop s1 u len
    else
      let s2 := endFrame s1 i
      if !fits then streamLost (noBuf s1 u) i ssrc seq ts
      else match freeSlot s2 n with
      | none =>
        let s3 := videoDrop (s2.setStream i { s2.stream i with noSlot := noteMedia r.noSlot m }) u len
        raise (s3.setLay n { s3.lay n with dropped := satAdd 16 (s3.lay n).dropped 1 }) 0x09 2
      | some slot =>
        let s3 := setSlot s2 n slot ⟨1, ts, r.noBuf.contains m⟩
        let s4 := s3.setStream i { s3.stream i with cur := some ⟨ts, m, u, n, slot⟩, nextSeq := none }
        videoWrite s4 i len seq ts marker rs

/-- A stream without a packet for three frame periods is lost (R170). -/
def streamLoss (s : State) (i : Nat) : State :=
  let r := s.stream i
  let f := streamRate s i
  if r.live && elapsed s r.lastPkt (3 * 1000000000 * f.2 / f.1) then
    raise ((endFrame s i).setStream i { (endFrame s i).stream i with live := false, ssrc := none, nextSeq := none }) 0x09 4
  else s

/-- A stream is disabled: its lock is released and an open frame ends (R165, R170). -/
def streamOff (s : State) (i : Nat) : State := (endFrame s i).setStream i stream0

/-- Errors of a write to a stream's control register (R164, Table 5-19). Rates are compared 1001-fold, in which every frame
rate is whole. -/
def streamErrors (s : State) (i : Nat) (v : Word) : List (Err × Nat) :=
  let n := fld v 2 8
  let samp := fld v 10 2
  let depth := fld v 12 2
  let o := 0x400 + 0x40 * i
  let w := s.regF (R.LAY_SGEOM i) 0 14
  let h := s.regF (R.LAY_SGEOM i) 16 14
  let rate (k samp depth : Nat) : Nat :=
    s.regF (R.LAY_SGEOM k) 0 14 * s.regF (R.LAY_SGEOM k) 16 14 * (streamFmt samp depth).2 *
      ((streamRate s k).1 * 1001 / (streamRate s k).2)
  let others := (List.range 4).filter fun k => k != i && s.regB (R.LAY_SCTL k) 0
  let used := (others.filter fun k => s.regF (R.LAY_SCTL k) 1 1 == fld v 1 1).foldl
    (fun a k => a + rate k (s.regF (R.LAY_SCTL k) 10 2) (s.regF (R.LAY_SCTL k) 12 2)) 0
  let line := if s.regF (R.MAC_CFG (0x10 + fld v 1 1)) 14 2 = 0 then 22500000000 else 9000000000
  (if samp = 0 ∧ depth = 0 then [(Err.range, o)] else []) ++
  (if !bit v 15 && (List.range 3).any (fun k => s.reg (R.LAY_SADDR0 i + 4 * k) != 0#32) then [(Err.range, o)] else []) ++
  (if bit v 0 && fld v 16 16 == 0 then [(Err.range, o)] else []) ++
  (if bit v 0 then
    (if !layEn s n || laySrc s n != 1 || layFmt s n != (streamFmt samp depth).1 || layW s n != w || layH s n != h ||
        others.any (fun k => s.regF (R.LAY_SCTL k) 2 8 == n) || decide (line * 1001 < used + rate i samp depth) then
      [(Err.state, o)] else []) else [])

/-! E1.31 (5.5) -/

def univLayer (s : State) (e : Nat) : Nat := s.entF tLAYU e 0 16 8
def univNum (s : State) (e : Nat) : Nat := s.entF tLAYU e 0 0 16
/-- Universe-table entries in use, ascending. -/
def univEntries (s : State) : List Nat :=
  ((s.tabs.filter fun e => e.1 / 2 ^ 32 == tLAYU).map fun e => e.1 % 2 ^ 32).filter fun e => univNum s e != 0

/-- Slots per pixel of a universe entry. -/
def univSpp (s : State) (e : Nat) : Nat := lget [1, 3, 4] (s.entF tLAYU e 0 24 2) 1

/-- Put slots into the universe store (R175): the layer is marked where they differ. -/
def univStore (s : State) (e : Nat) (slots : List Byte) : State :=
  let old := sgetD s.ing.univ e (List.replicate 512 0#8)
  let new := (slots ++ old.drop slots.length).take 512
  if new = old then s
  else
    let n := univLayer s e
    let s1 := { s with ing := { s.ing with univ := sput s.ing.univ e new (List.replicate 512 0#8) } }
    s1.setLay n { s1.lay n with changed := true }

/-- A sequence number lies less than 20 behind the last accepted one, or equals it (R172). -/
def seqStale (last seq : Nat) : Bool := decide ((last + 256 - seq) % 256 < 20)

/-- The sources of a universe entry. -/
def univSrcs (s : State) (e : Nat) : UnivSrcs := sgetD s.ing.srcs e ⟨[], none⟩
def setUnivSrcs (s : State) (e : Nat) (x : UnivSrcs) : State :=
  { s with ing := { s.ing with srcs := sput s.ing.srcs e x ⟨[], none⟩ } }

/-- Sources are lost (R173): where the one that has the universe is among them, the universe keeps its last slots and
UNIV_TIMEOUT is set. -/
def loseSources (s : State) (e : Nat) (lost : UnivSrc → Bool) : State :=
  let x := univSrcs s e
  let gone := x.seen.any fun y => lost y && x.taken == some y.cid
  let s1 := setUnivSrcs s e ⟨x.seen.filter fun y => !lost y, if gone then none else x.taken⟩
  if gone then raise s1 0x09 6 else s1

/-- A universe source silent for 2.5 s is lost; the universe keeps its last slots (R173). -/
def e131SourceTimeout (s : State) (e : Nat) : State := loseSources s e fun x => elapsed s x.last 2500000000

/-- A packet of a source is accepted (R173): a universe that no source has goes to it; otherwise to the source of the
highest priority, among equals the one seen first. -/
def acceptSource (x : UnivSrcs) (y : UnivSrc) : UnivSrcs :=
  let seen := if x.seen.any (fun z => z.cid == y.cid) then x.seen.map fun z => if z.cid = y.cid then y else z
    else x.seen ++ [y]
  let best := seen.find? fun z => seen.all fun w => decide (w.prio ≤ z.prio)
  ⟨seen, if x.taken.any fun c => seen.any fun z => z.cid == c then best.map (·.cid) else some y.cid⟩

/-- A packet may reach the E1.31 parser at its destination (R172): an address of the module, or the multicast address of a
universe in the table. -/
def e131Dest (s : State) (dest : Option Nat) : Bool :=
  match dest with
  | none => true
  | some n => (univEntries s).any fun e => univNum s e == n

/-- An E1.31 data packet (R172, R173, R175), stated by its destination, its universe, source, priority, sequence number,
options, start code and slots; `len` is the length of its frame. -/
def e131Data (s0 : State) (u len : Nat) (dest : Option Nat) (univ cid prio seq : Nat) (preview term : Bool) (start : Nat)
    (slots : List Byte) : State :=
  let s := ((univEntries s0).filter fun e => univNum s0 e == univ).foldl e131SourceTimeout s0
  if !(s.en 0x08 && s.en 0x09 && s.islUp 4 && s.regB R.LAY_E131CTL u) || !e131Dest s dest then s0
  else match (univEntries s).find? fun e => univNum s e == univ with
    | none => s.count (R.FST_NOSRC u) 0 32 1
    | some e =>
      if start ≠ 0 ∨ preview then s.count (R.FST_PARSE u) 0 32 1
      else
        let stale := (univSrcs s e).seen.any fun x => x.cid == cid && seqStale x.seq seq
        if stale then s.count (R.FST_SEQ u) 0 32 1
        else match poolTake s u len with
          | none => noBuf s u
          | some (s1, id) =>
            let s2 := poolRelease s1 u id
            let s3 := setUnivSrcs s2 e (acceptSource (univSrcs s2 e) ⟨cid, prio, seq, s.up⟩)
            if term then loseSources s2 e fun x => x.cid == cid
            else if (univSrcs s3 e).taken ≠ some cid then s3
            else
              let a := s3.entF tLAYU e 3 0 16
              -- slots held before are older than these (DESIGN CHOICE, log 132)
              let now := univStore { s3 with ing := { s3.ing with hold := sdel s3.ing.hold e } } e slots
              if a = 0 then now
              else match sget s3.ing.syncs a with
                | some y => if y.lost then now
                  else { s3 with ing := { s3.ing with hold := sset s3.ing.hold e slots } }
                | none =>
                  let hs := sset s3.ing.hold e slots
                  { s3 with ing := { s3.ing with hold := hs, syncs := sset s3.ing.syncs a ⟨s.up, false⟩ } }

/-- An E1.31 sync packet in a frame of `len` bytes passes through the pool (R140, R143) and moves the held universes of its
address into the store (R175). -/
def e131Sync (s0 : State) (u len addr : Nat) : State :=
  if !(s0.en 0x08 && s0.en 0x09 && s0.islUp 4 && s0.regB R.LAY_E131CTL u) || addr == 0 then s0
  else match poolTake s0 u len with
  | none => noBuf s0 u
  | some (t, id) =>
    let s := poolRelease t u id
    let es := (s.ing.hold.map Prod.fst).filter fun e => s.entF tLAYU e 3 0 16 == addr
    let s1 := es.foldl (fun t e => univStore t e (sgetD t.ing.hold e [])) s
    let hs := sdelIf s1.ing.hold fun e => es.contains e
    { s1 with ing := { s1.ing with hold := hs, syncs := sset s1.ing.syncs addr ⟨s.up, false⟩ } }

/-- A sync address without a sync packet for 2.5 s (R175). -/
def e131SyncTimeout (s : State) (addr : Nat) : State :=
  match sget s.ing.syncs addr with
  | some y => if !y.lost && elapsed s y.last 2500000000 then
      raise { s with ing := { s.ing with syncs := sset s.ing.syncs addr { y with lost := true } } } 0x09 5
    else s
  | none => s

/-- Runs of consecutive universe-table entries, as first entry and count. -/
def entryRuns : List Nat → List (Nat × Nat)
  | [] => []
  | e :: es =>
    match entryRuns es with
    | (f, c) :: rs => if e + 1 = f then (e, c + 1) :: rs else (e, 1) :: (f, c) :: rs
    | [] => [(e, 1)]

/-- FRAME_DROP of a scatter (R176). -/
def scatterDrop (s : State) (n : Nat) : State :=
  raise (s.setLay n { s.lay n with dropped := satAdd 16 (s.lay n).dropped 1 }) 0x09 2

/-- An INGEST_FIX item of a layer's scatter. -/
def isScatter (n id : Nat) (i : Item) : Bool :=
  i.kind == kIngest && i.f 6 8 2 == 1 && i.f 6 0 8 == n && (i.word 9).toNat == id

/-- Abandon a scatter one of whose enqueues was refused (R176): its queued items are flushed as one group. -/
def scatterAbandon (s : State) (n slot id : Nat) : State :=
  let gone := (((List.range 5).map fun l => sgetD s.htk.lists l []).flatten ++ (s.flow 247).queue).filter (isScatter n id)
  let ls := (List.range 5).foldl (fun m l => sput m l ((sgetD m l []).filter fun i => !isScatter n id i) []) s.htk.lists
  let s1 := { s with htk := { s.htk with lists := ls } }
  let r := s1.flow 247
  let d := satAdd 16 r.discarded gone.length
  let s2 := refresh (s1.setFlow 247 { r with queue := r.queue.filter fun i => !isScatter n id i, discarded := d }) 247
  let s3 := s2.setLay n { s2.lay n with scatter := (s2.lay n).scatter.filter fun x => x.id != id, changed := true }
  scatterDrop (setSlotSt s3 n slot 0) n

/-- Enqueue the items of a layer's scatter (R176). -/
def scatterItems (s : State) (n slot id d nbt : Nat) : List (Nat × Nat) → State
  | [] => s
  | (f, c) :: rs =>
    match enqueueIn s (mkItem { kind := kIngest, flow := 247, list := 1 + d, nbt := nbt } [n + 256, f, c, id]) with
    | (s1, true) => scatterItems s1 n slot id d nbt rs
    | (s1, false) => scatterAbandon s1 n slot id

/-- The scatter of one layer at s_k (R176); a layer that no universe is mapped to has none to write. -/
def scatterLayer (s : State) (n k sk : Nat) : State :=
  let s0 := s.setLay n { s.lay n with lastPrep := some k }
  let runs := entryRuns ((univEntries s0).filter fun e => univLayer s0 e == n)
  if !(s.lay n).changed || runs.isEmpty then s0
  else match freeSlot s0 n with
    | none => scatterDrop s0 n
    | some slot =>
      let id := ((s0.lay n).scatters + 1) % 2 ^ 32
      let l := s0.lay n
      let l1 := { l with changed := false, scatters := id, scatter := l.scatter ++ [⟨id, slot, runs.length, false⟩] }
      scatterItems (setSlot (s0.setLay n l1) n slot ⟨1, id, false⟩) n slot id (layDom s n) (time32 sk) runs

/-- At s_k of a domain the changed E1.31 layers are scattered, in ascending layer number (R176). PREP may be longer than an
epoch: several s_k may have come whose latch points have not. -/
def e131Scatter (s : State) (d : Nat) : State :=
  let prep := s.regF R.LAY_E131CTL 16 13 * 1000
  let kEnd := (latchFrom s d (nowNs s + prep + 1)).k
  if !(s.dom d).running then s
  else ((enabledLayers s).filter fun n => laySrc s n == 2 && layDom s n == d).foldl (fun t n =>
    let k := match (s.lay n).lastPrep.filter fun j => decide (j < kEnd) with
      | some j => max (s.dom d).next.k (j + 1)
      | none => (s.dom d).next.k
    if k < kEnd then scatterLayer t n k ((epochOf s d k).l - prep) else t) s

/-- The pixels of one universe (R176): slots become pixels from (X, Y) to the right. -/
def univPixels (s : State) (e : Nat) : List Byte :=
  let slots := sgetD s.ing.univ e (List.replicate 512 0#8)
  let first := s.entF tLAYU e 2 0 10
  let k := univSpp s e
  ((List.range (s.entF tLAYU e 2 16 10)).map fun i =>
    let at_ (j : Nat) : Byte := lget slots (first - 1 + i * k + j) 0#8
    if k = 1 then [at_ 0, at_ 0, at_ 0, 255#8] else if k = 3 then [at_ 0, at_ 1, at_ 2, 255#8]
    else [at_ 0, at_ 1, at_ 2, at_ 3]).flatten

/-- Write the universes of a scatter item into the layer's slot. -/
def scatterWrite (s : State) (n slot first count : Nat) : State :=
  ((List.range count).filter fun k => univNum s (first + k) != 0 && univLayer s (first + k) == n).foldl (fun t k =>
    let e := first + k
    let o := s.entF tLAYU e 1 16 14 * rowBytes (layW s n, layH s n, 4) + s.entF tLAYU e 1 0 14 * 4
    layWrite t (layBase s n slot + o) (univPixels s e)) s

/-- One item of a scatter has ended; the last one commits the layer frame (R176). -/
def scatterEnd (s : State) (n id : Nat) (bad : Bool) : State :=
  match (s.lay n).scatter.find? fun x => x.id == id with
  | none => s
  | some x =>
    let x1 : Scatter := { x with left := x.left - 1, bad := x.bad || bad }
    let rest := (s.lay n).scatter.erase x
    if x1.left = 0 then
      finishFrame (s.setLay n { s.lay n with scatter := rest }) n x.slot id x1.bad none
    else s.setLay n { s.lay n with scatter := rest ++ [x1] }

/-! Completion of INGEST_FIX items (R145) -/

/-- One carried frame takes effect, in a slot that is FREE by then as well (Table 5-9): a REGION is written and counted
(R162), a COMMIT judged, rows of an ST 2110 packet written. -/
def applyOp (s : State) (u n fnum : Nat) (op : IngOp) : State :=
  match op with
  | .region slot f rows =>
    let s1 := writeRows s rows
    let s2 := setSlot s1 n slot { slotAt s1 n slot with fnum := f }
    let key := u * 256 + n
    { s2 with ing := { s2.ing with regions := sput s2.ing.regions key (sgetD s2.ing.regions key 0 + 1) 0 } }
  | .commit slot f regions => finishCommit s u n slot f regions
  | .video slot rows fin =>
    let s1 := writeRows s rows
    match fin with
    | some m => finishVideo s1 n slot fnum m
    | none => s1

/-- The slots an item writes. -/
def opSlot : IngOp → Nat
  | .region slot _ _ => slot
  | .commit slot _ _ => slot
  | .video slot _ _ => slot

/-- Slots of a layer that an INGEST_FIX item writes. -/
def itemSlots (s : State) (i : Item) : List Nat :=
  let n := i.f 6 0 8
  if i.f 6 8 2 = 1 then
    match (s.lay n).scatter.find? fun x => x.id == (i.word 9).toNat with | some x => [x.slot] | none => []
  else (carriedOf s (i.flow - 242) n (i.f 7 0 16) (i.f 8 0 16)).map fun c => opSlot c.op

/-- An INGEST_FIX item completes on an engine: its frames are written in arrival order and their buffers released.
It waits while an item that started while a slot was SHOWN still reads that slot (R186). -/
def ingestFixComplete (s : State) (e : Nat) : State :=
  match svcOf s (.engine e) with
  | none => s
  | some v =>
    let i := v.item
    let n := i.f 6 0 8
    let fnum := (i.word 9).toNat
    if i.kind ≠ kIngest then s
    else if (itemSlots s i).any fun m => slotRead s n m && (slotAt s n m).st != 3 then s
    else if i.f 6 8 2 = 1 then
      match (s.lay n).scatter.find? fun x => x.id == fnum with
      | none => completeItem s v
      | some x => completeItem (scatterEnd (scatterWrite s n x.slot (i.f 7 0 16) (i.f 8 0 16)) n fnum false) v
    else
      let u := i.flow - 242
      let cs := carriedOf s u n (i.f 7 0 16) (i.f 8 0 16)
      let s1 := cs.foldl (fun t c => applyOp t u n fnum c.op) s
      completeItem (dropCarried s1 u n (i.f 7 0 16) (i.f 8 0 16)) v

/-- An INGEST_FIX item left without completing (R142, R177). -/
def ingestDropped (s : State) (i : Item) : State :=
  let n := i.f 6 0 8
  if i.f 6 8 2 = 1 then scatterEnd s n (i.word 9).toNat true
  else
    let u := i.flow - 242
    let cs := carriedOf s u n (i.f 7 0 16) (i.f 8 0 16)
    lostFrames (dropCarried s u n (i.f 7 0 16) (i.f 8 0 16)) n (i.word 9).toNat cs

/-! Table writes and resets -/

/-- A universe entry was written. An entry that names another universe keeps nothing of the one it named before: no source
(R173), and neither stored nor held slots (DESIGN CHOICE, log 133). -/
def univWritten (s : State) (e was : Nat) : State :=
  if univNum s e = was then s
  else { s with ing := { s.ing with
    srcs := sdel s.ing.srcs e, hold := sdel s.ing.hold e, univ := sdel s.ing.univ e } }

/-- A layer entry was written: enabling clears its counts, disabling frees its buffers (R152, Table 5-15); an E1.31
layer's buffers are filled with zeros. -/
def layerWritten (s : State) (n : Nat) (was : Bool) : State :=
  if was && !layEn s n then s.setLay n { s.lay n with
      slots := lay0.slots, pend := [], shownInc := false, shownFnum := none, shownMedia := none, scatter := [] }
  else if !was && layEn s n then
    let s0 := s.setLay n lay0
    let s1 := { s0 with ing := { s0.ing with regions := sput (sput s0.ing.regions n 0 0) (256 + n) 0 0 } }
    if laySrc s n = 2 then
      let sz := bufSize (layFmt s n) (layW s n) (layH s n)
      { s1 with layMem := sdelIf s1.layMem fun a => (List.range (layNbuf s n)).any fun m =>
          decide (layBase s n m ≤ a) && decide (a < layBase s n m + sz) }
    else s1
  else s

/-- Words of a layer entry that differ from the present one outside the bits of a mask of DATA0. -/
def layerDiffers (s : State) (n mask : Nat) (ws : List Word) : List Nat :=
  (List.range 6).filter fun k =>
    let m := if k = 0 then mask else 0
    (lget ws k 0#32).toNat ||| m != (s.entW tLAY n k).toNat ||| m

/-- Slots of a layer entry that overlap an earlier slot of its own or a buffer of another enabled layer (R150); `t` holds the
entry. -/
def layerOverlaps (s t : State) (n : Nat) : List Nat :=
  let buf (x : State) (m k : Nat) : Nat × Nat :=
    (layBase x m k, layBase x m k + bufSize (layFmt x m) (layW x m) (layH x m))
  let hit (a b : Nat × Nat) : Bool := decide (a.1 < b.2) && decide (b.1 < a.2)
  (List.range (layNbuf t n)).filter fun j =>
    ((List.range j).any fun i => hit (buf t n i) (buf t n j)) ||
      ((enabledLayers s).filter (· != n)).any fun m => (List.range (layNbuf s m)).any fun k => hit (buf s m k) (buf t n j)

/-- Errors of a layer entry write beyond its fields (R150, R151). The offset is that of the word (R55). -/
def layerErrors (s : State) (n : Nat) (ws : List Word) : List (Err × Nat) :=
  let t := s.setEnt tLAY n ws
  let sz := bufSize (layFmt t n) (layW t n) (layH t n)
  let nb := layNbuf t n
  let odd := (decide (layFmt t n = 0x12 ∨ layFmt t n = 0x13 ∨ layFmt t n = 0x14) && layW t n % 2 != 0) ||
    (decide (layFmt t n = 0x13 ∨ layFmt t n = 0x14) && layH t n % 2 != 0)
  let was := layEn s n
  let on := layEn t n
  (if on then
    ((List.range 4).map fun m => if nb ≤ m ∧ layBase t n m ≠ 0 then [(Err.range, 2 + m)] else []).flatten ++
    ((List.range nb).map fun m => if 262144 * 4096 < layBase t n m + sz then [(Err.range, 2 + m)] else []).flatten ++
    (if odd then [(Err.range, 1)] else []) ++
    (if laySrc t n = 2 ∧ layFmt t n ≠ 1 then [(Err.state, 0)] else []) ++
    (layerOverlaps s t n).map fun m => (Err.state, 2 + m)
  else []) ++
  (if was then
    ((layerDiffers s n (if on then 0x400000 else 1) ws).map fun k => (Err.state, k)) ++
      (if !on && ((streamOf s n).isSome || (univEntries s).any (fun e => univLayer s e == n)) then [(Err.state, 0)] else [])
  else [])

/-- Errors of a universe entry write (R174). -/
def universeErrors (s : State) (e : Nat) (ws : List Word) : List (Err × Nat) :=
  let t := s.setEnt tLAYU e ws
  let n := univLayer t e
  let cnt := t.entF tLAYU e 2 16 10
  if univNum t e = 0 then []
  else
    (if (univEntries s).any fun x => x != e && univNum s x == univNum t e then [(Err.state, 0)] else []) ++
    (if !layEn s n || laySrc s n != 2 then [(Err.state, 0)] else []) ++
    (if layW s n < t.entF tLAYU e 1 0 14 + cnt ∨ layH s n ≤ t.entF tLAYU e 1 16 14 then [(Err.range, 1)] else []) ++
    (if 512 < t.entF tLAYU e 2 0 10 + cnt * univSpp t e - 1 then [(Err.range, 2)] else [])

/-- FST_LAYUSE: units used by buffers of enabled layers. -/
def layUse (s : State) : Nat :=
  ((enabledLayers s).map fun n => layNbuf s n * (bufSize (layFmt s n) (layW s n) (layH s n) / 4096)).foldl (· + ·) 0

/-- What a reset of island 4 does to ingest (R182): frames held in the pools that no item carries yet are dropped, ST
2110 frames FILLING end INCOMPLETE, those whose last item is enqueued with that item, and SSRC locks are released. -/
def ingestReset (s : State) : State :=
  let s1 := s.ing.open_.foldl (fun t o =>
    let cs := carriedOf t o.port o.layer o.first o.count
    let t1 := { t with ing := { t.ing with open_ := t.ing.open_.erase o } }
    lostFrames (dropCarried t1 o.port o.layer o.first o.count) o.layer o.fnum cs) s
  let s2 := ((enabledLayers s1).filter fun n => laySrc s1 n == 1).foldl (fun t n =>
    ((List.range 4).filter fun m => (slotAt t n m).st == 1).foldl (fun t m =>
      setSlot t n m { slotAt t n m with inc := true }) t) s1
  (List.range 4).foldl (fun t i =>
    (endFrame t i).setStream i { (endFrame t i).stream i with ssrc := none, nextSeq := none }) s2

/-- FST_CLR.PORTn: the counters of Table 5-12 and the minimum (R143). -/
def fstClrPort (s : State) (u : Nat) : State :=
  let s1 := (List.range 6).foldl (fun t k => t.setReg (R.FST_NOBUF u + 4 * k) 0#32) s
  s1.setRegF (R.FST_RXSTAT u) 16 14 (poolFree s1 u)

end Sys2Proof.Machine
end

