-- ==== Sys2Proof/Machine/Render.lean ====
section
/-! DEFINITION. Mapping, composition and colour (chapter 6): from a RENDER item to endpoint words. Component values are
u1.16, 0 to 65,536, unless the manual gives another format. -/

namespace Sys2Proof.Machine

/-- "Round" of R184: add half of the least significant unit and shift right arithmetically. -/
def rnd (x : Int) (k : Nat) : Int := (x + 2 ^ (k - 1)) / 2 ^ k

/-- Clamp to 0-65,536. -/
def u116 (x : Int) : Nat := (clampI 0 65536 x).toNat

/-! CRC-32C (R250) -/

/-- One bit of the reflected CRC with polynomial 0x1EDC6F41. -/
def crcBit (c : Nat) : Nat := if c % 2 = 1 then (c / 2) ^^^ 0x82F63B78 else c / 2

/-- One byte. -/
def crcByte (c : Nat) (b : Byte) : Nat :=
  crcBit (crcBit (crcBit (crcBit (crcBit (crcBit (crcBit (crcBit (c ^^^ b.toNat))))))))

/-- The CRC register over bytes, before the final XOR. -/
def crcStep (c : Nat) (bs : List Byte) : Nat := bs.foldl crcByte c

/-- CRC-32C of a byte list. -/
def crc32c (bs : List Byte) : Nat := crcStep 0xFFFFFFFF bs ^^^ 0xFFFFFFFF

/-! Tables -/

/-- Run word fields (Table 6-2). -/
structure Run where
  first : Nat
  epl : Nat
  nlamp : Nat
  prof : Nat
  layer : Nat
  x0 : Nat
  y0 : Nat
  dx : Int
  dy : Int
  deriving DecidableEq, Repr

/-- The run held in four words. -/
def runOf (ws : List Word) : Run :=
  let w (k : Nat) : Word := lget ws k 0#32
  ⟨fld (w 0) 0 25, fld (w 0) 25 3, fld (w 1) 0 12, fld (w 1) 12 12, fld (w 1) 24 8, fld (w 2) 0 21, fld (w 3) 0 21,
   toSigned 13 (fld (w 0) 28 2 * 2048 + fld (w 2) 21 11), toSigned 13 (fld (w 0) 30 2 * 2048 + fld (w 3) 21 11)⟩

/-- The endpoints of a run: first, and one past the last; none for an empty run. -/
def Run.span (r : Run) : Nat × Nat := (r.first, if r.epl = 0 then r.first else r.first + (r.nlamp + 1) * r.epl)

/-- Indices of the valid runs: only listed entries are not empty. -/
def validRuns (s : State) : List Nat :=
  ((s.tabs.filter fun e => e.1 / 2 ^ 32 == tMAP).map fun e => e.1 % 2 ^ 32).filter fun i => (runOf (s.ent tMAP i)).epl != 0

/-- MAP_EPUSE: endpoints occupied (R191). -/
def epUse (s : State) : Nat :=
  ((validRuns s).map fun i => let r := runOf (s.ent tMAP i); (r.nlamp + 1) * r.epl).foldl (· + ·) 0

/-- Profile fields (Table 6-20). -/
def profEn (s : State) (p : Nat) : Bool := s.entF tCALP p 0 0 1 = 1
def profNch (s : State) (p : Nat) : Nat := s.entF tCALP p 0 1 3
def profChans (s : State) (p : Nat) : List Nat :=
  (List.range (profNch s p)).map fun k => s.entF tCALP p 1 (3 * k) 3

/-- Errors of a run WRITE (Table 6-3): error and word. -/
def runErrors (s : State) (i : Nat) (ws : List Word) : List (Err × Nat) :=
  let r := runOf ws
  (if r.epl = 7 then [(Err.range, 0)] else []) ++
  (if 192 ≤ r.layer ∧ r.layer < 255 then [(Err.range, 1)] else []) ++
  (if r.epl = 0 then (if ws.all (· == 0#32) then [] else [(Err.range, 0)])
   else
    (if 33554431 < r.span.2 - 1 then [(Err.range, 0)] else []) ++
    (if !profEn s r.prof || profNch s r.prof != r.epl then [(Err.state, 1)] else []) ++
    (if (validRuns s).any fun k => k != i &&
        (let q := runOf (s.ent tMAP k); decide (q.span.1 < r.span.2) && decide (r.span.1 < q.span.2))
     then [(Err.state, 0)] else []))

/-- A run names a profile. -/
def profUsed (s : State) (p : Nat) : Bool := (validRuns s).any fun i => (runOf (s.ent tMAP i)).prof == p

/-- Errors of a profile WRITE (Table 6-20): channel and WMIX rules bind only an entry written with EN = 1. -/
def profileErrors (s : State) (p : Nat) (ws : List Word) : List (Err × Nat) :=
  let w0 := lget ws 0 0#32
  let w1 := lget ws 1 0#32
  let nch := fld w0 1 3
  let ch := (List.range nch).map fun k => fld w1 (3 * k) 3
  let has (t : Nat) : Bool := ch.contains t
  let rgb := (if has 0 then 1 else 0) + (if has 1 then 1 else 0) + (if has 2 then 1 else 0)
  (if bit w0 0 then
    (if !ch.Nodup || (rgb != 0 && rgb != 3) || (List.range 6).any (fun k => decide (nch ≤ k) && fld w1 (3 * k) 3 != 0)
     then [(Err.range, 1)] else []) ++
    (if fld w0 12 2 = 1 && !(rgb == 3 && has 3) then [(Err.range, 0)] else []) else []) ++
  (if profUsed s p && (!bit w0 0 || nch != profNch s p) then [(Err.state, 0)] else [])

/-- Errors of a stack slot WRITE (Table 6-11). -/
def stackErrors (i : Nat) (ws : List Word) : List (Err × Nat) :=
  (if i % 32 = 16 ∧ fld (lget ws 0 0#32) 1 3 ≠ 0 then [(Err.range, 0)] else []) ++
  (if i % 32 = 16 ∧ fld (lget ws 1 0#32) 0 17 ≠ 65536 then [(Err.range, 1)] else [])

/-! Sampling (6.3) -/

/-- `n` bytes of the layer region as a little-endian number. -/
def layRead (s : State) (o n : Nat) : Nat := leNat ((List.range n).map fun k => sgetD s.layMem (o + k) 0#8)

/-- A sample of a plane of a layer's slot. -/
def planeSample (s : State) (n slot k x y : Nat) : Nat :=
  let ps := layPlanes s n
  let p := lget ps k (0, 0, 0)
  layRead s (layBase s n slot + planeOff ps k + y * rowBytes p + x * p.2.2) p.2.2

/-- An n-bit RGB or alpha value as u1.16 (R200). -/
def toU116 (v d : Nat) : Nat := (2 * v * 65536 + d) / (2 * d)

/-- A luma or chroma code widened to 10 bits (R197, R149). -/
def widen (eight full : Bool) (v : Nat) : Nat := if eight then (if full then 4 * v + v / 64 else 4 * v) else v % 1024

/-- Coefficients of Table 6-4: c_Y, c_RCr, c_GCb, c_GCr, c_BCb. -/
def coeffs (matrix : Nat) (full : Bool) : Int × Int × Int × Int × Int :=
  match matrix, full with
  | 0, false => (19152, 26252, 6444, 13372, 33180)
  | 0, true => (16400, 22993, 5644, 11712, 29061)
  | 1, false => (19152, 29487, 3508, 8765, 34745)
  | 1, true => (16400, 25827, 3072, 7677, 30432)
  | _, false => (19152, 27611, 3081, 10698, 35228)
  | _, true => (16400, 24183, 2699, 9370, 30855)

/-- Chroma of luma pixel (px, py) of a sub-sampled plane, times 16 (R198): `get` reads one chroma code of the plane at
clamped indices; `vert` is 4:2:0. -/
def chroma16 (get : Int → Int → Nat) (px py ups : Nat) (inter vert : Bool) : Int :=
  let u4 : Int := 2 * px - (if inter then 1 else 0)
  let v4 : Int := 2 * py - (if inter then 1 else 0)
  let m := u4 / 4
  let f := u4 - 4 * m
  let n := v4 / 4
  let g := v4 - 4 * n
  let rowN : Int := if vert then (py / 2 : Nat) else (py : Int)
  let h (row : Int) : Int := (4 - f) * get m row + f * get (m + 1) row
  if ups = 0 then 16 * (get ((px / 2 : Nat) : Int) rowN : Int)
  else if ups = 1 || !vert then 4 * h rowN
  else (4 - g) * h n + g * h (n + 1)

/-- Y'CbCr, each times 16, as R'G'B' (R199). -/
def yuvToRgb (matrix : Nat) (full : Bool) (y cb cr : Int) : Nat × Nat × Nat :=
  let c := coeffs matrix full
  let dy := y - 16 * (if full then 0 else 64)
  let db := cb - 16 * 512
  let dr := cr - 16 * 512
  (u116 ((c.1 * dy + c.2.1 * dr + 2048) / 4096), u116 ((c.1 * dy - c.2.2.1 * db - c.2.2.2.1 * dr + 2048) / 4096),
   u116 ((c.1 * dy + c.2.2.2.2 * db + 2048) / 4096))

/-- A pixel of a layer's slot: R', G', B' and alpha (R197-R200). -/
def pixel (s : State) (n slot px py ups : Nat) : Nat × Nat × Nat × Nat :=
  let fmt := layFmt s n
  let full := layFull s n
  let c (k x y : Nat) : Nat := planeSample s n slot k x y
  if fmt = 0x01 then
    let v := c 0 px py
    (toU116 (nfld v 0 8) 255, toU116 (nfld v 8 8) 255, toU116 (nfld v 16 8) 255, toU116 (nfld v 24 8) 255)
  else if fmt = 0x02 then
    let v := c 0 px py
    (toU116 (nfld v 0 10) 1023, toU116 (nfld v 10 10) 1023, toU116 (nfld v 20 10) 1023, toU116 (nfld v 30 2) 3)
  else if fmt = 0x03 then
    let v := c 0 px py
    (toU116 (nfld v 0 16) 65535, toU116 (nfld v 16 16) 65535, toU116 (nfld v 32 16) 65535, toU116 (nfld v 48 16) 65535)
  else
    let eight := fmt == 0x10 || fmt == 0x13
    let y : Int := 16 * widen eight full (c 0 px py)
    let sub := fmt == 0x12 || fmt == 0x13 || fmt == 0x14
    let p := lget (layPlanes s n) 1 (1, 1, 1)
    let half (k : Nat) (x y : Int) : Nat :=
      let cx := (clampI 0 (p.1 - 1 : Nat) x).toNat
      let cy := (clampI 0 (p.2.1 - 1 : Nat) y).toNat
      let v := c 1 cx cy
      if eight then widen true full (nfld v (8 * k) 8) else widen false full (nfld v (16 * k) 16)
    let vert := fmt != 0x12
    let cb : Int := if sub then chroma16 (half 0) px py ups (layInter s n) vert else 16 * widen eight full (c 1 px py)
    let cr : Int := if sub then chroma16 (half 1) px py ups (layInter s n) vert else 16 * widen eight full (c 2 px py)
    let rgb := yuvToRgb (layMatrix s n) full y cb cr
    (rgb.1, rgb.2.1, rgb.2.2, 65536)

/-- What rendering an item reads and counts: the item's slots, the surface's settings and the reads that fail. -/
structure RenCtx where
  surf : Nat
  epoch : Nat
  /-- The full number of the item's EPOCH. -/
  full : Nat
  reads : List (Nat × Nat × Nat)
  ue : Ue
  deriving DecidableEq, Repr

/-- A sample of layer `n` at a canvas position in 1/256 pixel, less an offset of whole pixels (R196): components, and
whether a read failed. -/
def sampleLayer (s : State) (c : RenCtx) (n ups : Nat) (x y ox oy : Int) : (Nat × Nat × Nat × Nat) × Bool :=
  let px := x / 256 - ox
  let py := y / 256 - oy
  match c.reads.find? fun r => r.1 == n with
  | none => ((0, 0, 0, 0), false)
  | some r =>
    if !layEn s n || decide (px < 0) || decide (py < 0) || decide ((layW s n : Int) ≤ px) || decide ((layH s n : Int) ≤ py)
    then ((0, 0, 0, 0), false)
    else if c.ue.pixels.contains (n, px.toNat, py.toNat) then ((0, 0, 0, 0), true)
    else (pixel s n r.2.1 px.toNat py.toNat ups, false)

/-! Composition (6.4) -/

/-- An applied stack or colour entry for an item of epoch number `e` (R205): the oldest replaced entry that still served
that epoch, or the applied one. -/
def appliedEnt (s : State) (t i e : Nat) : List Word :=
  let old := (s.ren.old.filter fun o => o.tab == t && o.idx == i && decide (e ≤ o.until_) && o.dom == srfDom s (engSurf t i))
  match old.head? with
  | some o => o.ws
  | none => (sget (if t = tENGK then s.ren.stack else s.ren.colour) i).getD (entryReset t i)

/-- Fields of a stack slot: enabled, mode, layer, opacity, offsets (Table 6-11). -/
def stackSlot (s : State) (surf k e : Nat) : Bool × Nat × Nat × Nat × Int × Int :=
  let ws := appliedEnt s tENGK (surf * 32 + k) e
  let w0 := lget ws 0 0#32
  let w2 := lget ws 2 0#32
  (bit w0 0, fld w0 1 3, fld w0 4 8, fld (lget ws 1 0#32) 0 17, toSigned 14 (fld w2 0 14), toSigned 14 (fld w2 16 14))

/-- One component composed (Table 6-5), but for LTP. -/
def blend (mode sv a d : Nat) : Nat :=
  let sa := (sv * a + 32768) / 65536
  if mode = 0 then u116 ((sv * a + d * (65536 - a) + 32768) / 65536 : Nat)
  else if mode = 1 then max d sa
  else if mode = 3 then min 65536 (d + sa)
  else
    let m := (sv * a + 65536 * (65536 - a) + 32768) / 65536
    u116 ((d * m + 32768) / 65536 : Nat)

/-- The destination of a lamp while its layers are composed: R', G', B', the LTP time T (none: below every time), and
samples lost to read errors. -/
structure Comp where
  r : Nat
  g : Nat
  b : Nat
  t : Option Nat
  ue : Nat
  deriving DecidableEq, Repr

/-- Place one layer over the destination in a mode at an opacity (R202, R203). -/
def compose (s : State) (c : RenCtx) (ups : Nat) (x y : Int) (mode n opacity : Nat) (ox oy : Int) (d : Comp) : Comp :=
  let (p, bad) := sampleLayer s c n ups x y ox oy
  let a := (p.2.2.2 * opacity + 32768) / 65536
  let d1 := if bad then { d with ue := d.ue + 1 } else d
  if mode = 2 then
    let t := ((c.reads.find? fun r => r.1 == n).map fun r => r.2.2).getD 0
    let newer := match d.t with | none => true | some x => decide (x ≤ t)
    if decide (0 < a) && newer then { d1 with r := p.1, g := p.2.1, b := p.2.2.1, t := some t } else d1
  else { d1 with r := blend mode p.1 a d.r, g := blend mode p.2.1 a d.g, b := blend mode p.2.2.1 a d.b }

/-- The slots a run composes, in order (R201): the surface stack or the direct layer, then the SAFETY slot (R204). -/
def runSlots (s : State) (c : RenCtx) (layer : Nat) : List (Nat × Nat × Nat × Int × Int) :=
  let stack (k : Nat) : List (Nat × Nat × Nat × Int × Int) :=
    let e := stackSlot s c.surf k c.full
    if e.1 then [(e.2.1, e.2.2.1, e.2.2.2.1, e.2.2.2.2.1, e.2.2.2.2.2)] else []
  (if layer = 255 then ((List.range 16).map stack).flatten else [(0, layer, 65536, 0, 0)]) ++ stack 16

/-! Linear light (6.5) -/

/-- The largest n up to 65,536 with (n - 1/2)^5 ≤ 65,536^5 · num / den: round(65,536 · (num / den)^(1/5)). -/
def rootSearch (num den : Nat) : Nat → Nat → Nat
  | 0, n => n
  | k + 1, n =>
    let m := n + 2 ^ k
    if (2 * m - 1) ^ 5 * den ≤ 32 * 65536 ^ 5 * num then rootSearch num den k m else rootSearch num den k n

/-- E[i] of a transfer function (Table 6-6): round(65,536 · f(i / 1,024)). -/
def eotfE (f i : Nat) : Nat :=
  if f = 0 then min 65536 (rootSearch (i ^ 12) (1024 ^ 12) 17 0)
  else if f = 1 then min 65536 (rootSearch (i ^ 11) (1024 ^ 11) 17 0)
  else if f = 2 then
    if i * 100000 ≤ 4045 * 1024 then (2 * 65536 * i * 100 + 1024 * 1292) / (2 * 1024 * 1292)
    else min 65536 (rootSearch ((1000 * i + 55 * 1024) ^ 12) ((1055 * 1024) ^ 12) 17 0)
  else 64 * i

/-- Stage 5 (R206). -/
def linear (f c : Nat) : Nat :=
  if c = 65536 then eotfE f 1024
  else
    let e0 : Int := eotfE f (c / 64)
    let e1 : Int := eotfE f (c / 64 + 1)
    u116 (e0 + ((e1 - e0) * (c % 64 : Nat) + 32) / 64)

/-- Saturation of stages 6 and 7. -/
def satS (x : Int) : Int := clampI (-262144) 262143 x

/-- Stages 6 and 7 for output r of a bin entry (R208). -/
def binOut (ws : List Word) (c : Nat × Nat × Nat) (r : Nat) : Int :=
  let m (k : Nat) : Int := toSigned 32 (lget ws k 0#32).toNat
  let o := satS ((m (3 * r) * c.1 + m (3 * r + 1) * c.2.1 + m (3 * r + 2) * c.2.2 + m (9 + r) * 65536 + 32768) / 65536)
  satS ((o * fld (lget ws 12 0#32) 0 16 + 16384) / 32768)

/-- Stage 8 (R209). -/
def gamut (hue : Bool) (o : Int × Int × Int) : Nat × Nat × Nat :=
  if !hue then (u116 o.1, u116 o.2.1, u116 o.2.2)
  else
    let a := max o.1 0
    let b := max o.2.1 0
    let c := max o.2.2 0
    let mx := max a (max b c)
    if mx ≤ 65536 then (a.toNat, b.toNat, c.toNat)
    else
      let q (v : Int) : Nat := ((v * 65536 + mx / 2) / mx).toNat
      (q a, q b, q c)

/-! Channels (6.6) -/

/-- x · s / 2^15, rounded. -/
def scale15 (x k : Nat) : Nat := (x * k + 16384) / 32768

/-- Stage 9 (R211): the value of each channel type R, G, B, W, A, UV, DIM, CCT of a lamp, from stage 8 and the raw o_0 of
a mono lamp. -/
def layout (s : State) (prof : Nat) (bw : List Word) (rgb : Nat × Nat × Nat) (v : Nat) : List Nat :=
  let ch := profChans s prof
  let hasRgb := ch.contains 0
  let w0 := s.entW tCALP prof 0
  let w2 := s.entW tCALP prof 2
  let wmin := fld w0 12 2 == 1
  let wr := fld w2 0 16
  let w := if hasRgb then (if wmin then scale15 (min rgb.1 (min rgb.2.1 rgb.2.2)) wr else 0) else v
  let sub (x : Nat) : Nat := if hasRgb then (if wmin then x - w else x) else 0
  let aux := fld w2 16 16
  let pick (k : Nat) : Nat := if k = 0 then 0 else if k = 1 then aux else w
  let b12 := lget bw 12 0#32
  let b13 := lget bw 13 0#32
  let b14 := lget bw 14 0#32
  let wS := scale15 w (fld b12 16 16)
  let aS := scale15 (pick (fld w0 14 2)) (fld b13 0 16)
  let uS := scale15 (pick (fld w0 16 2)) (fld b13 16 16)
  let base := [sub rgb.1, sub rgb.2.1, sub rgb.2.2, wS, aS, uS]
  let dark := bit b14 3
  let vals := base.mapIdx fun k x => if dark || bit b14 (4 + k) then 0 else x
  let cct := fld (s.entW tCALP prof 3) 0 16
  if ch.contains 6 then
    let colour := (List.range 6).filter fun t => ch.contains t
    let master := (colour.map fun t => lget vals t 0).foldl max 0
    let q (x : Nat) : Nat := if master = 0 then 0 else min 65536 ((x * 65536 + master / 2) / master)
    (vals.map q) ++ [if dark then 0 else master, cct]
  else vals ++ [0, cct]

/-- A curve entry (Table 6-22); D[4,096] reads as D[4,095] (R212). -/
def curveD (s : State) (curve i : Nat) : Int := s.entF tCALC (curve * 4096 + min i 4095) 0 0 16

/-- Stage 10 (R212) for channel type `t`. -/
def stage10 (s : State) (prof t c : Nat) : Nat :=
  let curve := s.entF tCALP prof 0 5 7
  let dim := (profChans s prof).contains 6
  if t = 7 then c
  else
    let v := min c 65535
    if curve = 127 ∨ (dim ∧ t ≠ 6) then v
    else
      let d0 := curveD s curve (v / 16)
      let d1 := curveD s curve (v / 16 + 1)
      (d0 + ((d1 - d0) * (v % 16 : Nat) + 8) / 16).toNat

/-- The dither order of R213. -/
def ditherB : List Nat := [0, 8, 4, 12, 2, 10, 6, 14, 1, 9, 5, 13, 3, 11, 7, 15]

/-- Stage 11 (R213): the word of a channel. -/
def encodeWord (sixteen dither : Bool) (t out lamp epoch : Nat) : Nat :=
  if sixteen then out
  else if t = 7 then out / 256
  else if dither then min 255 ((out + 16 * lget ditherB ((lamp + 5 * epoch) % 16) 0) / 256)
  else min 255 ((out + 128) / 256)

/-- Counts of one lamp or item: failed samples, SPACE mismatches, failed bin reads. -/
structure RenCnt where
  smp : Nat
  space : Nat
  bin : Nat
  deriving DecidableEq, Repr

/-- A lamp of a run: for each channel its stage-10 value and its word (R183-R213). -/
def lamp (s : State) (c : RenCtx) (r : Run) (i : Nat) : List (Nat × Nat) × RenCnt :=
  let cw := lget (appliedEnt s tENGC c.surf c.full) 0 0#32
  let x : Int := r.x0 + i * r.dx
  let y : Int := r.y0 + i * r.dy
  let d0 : Comp := ⟨0, 0, 0, none, 0⟩
  let d := (runSlots s c r.layer).foldl
    (fun d e => compose s c (fld cw 4 2) x y e.1 e.2.1 e.2.2.1 e.2.2.2.1 e.2.2.2.2 d) d0
  let f := fld cw 0 2
  let lin := (linear f d.r, linear f d.g, linear f d.b)
  let ep := r.first + i * r.epl
  let code := s.entF tMAPB (ep / 2) 0 (16 * (ep % 2)) 16
  let binBad := c.ue.bins.contains ep
  let ent := s.ent tCALB code
  let spaceBad := !binBad && (bit (lget ent 14 0#32) 2 != bit cw 2)
  let bw := if binBad || spaceBad then entryReset tCALB 0 else ent
  let o := (binOut bw lin 0, binOut bw lin 1, binOut bw lin 2)
  let sel := fld (lget bw 14 0#32) 0 2
  let rgb := gamut (sel == 2 || (sel == 0 && bit cw 3)) o
  let vals := layout s r.prof bw rgb rgb.1
  let sixteen := s.entF tCALP r.prof 0 4 1 == 1
  let out := (profChans s r.prof).map fun t =>
    let v := stage10 s r.prof t (lget vals t 0)
    (v, encodeWord sixteen (bit cw 6) t v i c.epoch)
  (out, ⟨d.ue, b2n spaceBad, b2n binBad⟩)

/-- A render in progress: state (egress words), CRC register of the digest, counts, and whether the item failed. -/
structure RenAcc where
  s : State
  crc : Nat
  cnt : RenCnt
  bad : Bool
  deriving DecidableEq, Repr

/-- Write an endpoint word at its byte of the egress-buffer region (R195). -/
def egrWrite (s : State) (o v : Nat) : State :=
  let m := sput (sput s.egrMem o (BitVec.ofNat 8 v) 0#8) (o + 1) (BitVec.ofNat 8 (v / 256)) 0#8
  { s with egrMem := m }

/-- Write the channels of one lamp, up to the first word out of range (R194); the digest takes six bytes for each
(R214). -/
def writeLamp (egr ep : Nat) (eight : Bool) : List (Nat × Nat) → RenAcc → RenAcc
  | [], a => a
  | (v, w) :: xs, a =>
    let o := egr * 16 + 2 * ep
    if a.bad || decide (251658240 ≤ o + 1) then { a with bad := true }
    else
      let crc := crcStep a.crc (leBytes 4 (ep + b2n eight * 2 ^ 31) ++ leBytes 2 v)
      writeLamp egr (ep + 1) eight xs { a with s := egrWrite a.s o w, crc := crc }

/-- The lamps of one run; the tables read are those of `t`, the state at the start of the item's writes. -/
def renderRun (t : State) (c : RenCtx) (egr idx : Nat) (a : RenAcc) : RenAcc :=
  if a.bad then a
  else
    let r := runOf (t.ent tMAP idx)
    let curve := t.entF tCALP r.prof 0 5 7
    if c.ue.runs.contains idx then { a with bad := true }
    else if r.epl = 0 then a
    else if c.ue.profiles.contains r.prof || (curve != 127 && c.ue.curves.contains curve) then { a with bad := true }
    else
      let eight := t.entF tCALP r.prof 0 4 1 == 0
      (List.range (r.nlamp + 1)).foldl (fun a i =>
        let l := lamp t c r i
        let a1 := writeLamp egr (r.first + i * r.epl) eight l.1 a
        if a.bad then a
        else { a1 with cnt := ⟨a1.cnt.smp + l.2.smp, a1.cnt.space + l.2.space, a1.cnt.bin + l.2.bin⟩ }) a

/-- Count `k` uncorrectable reads on page FST, the first of which is of a word; FST_UEADDR takes it where it holds no
record (Table 5-9, Table 5-11). -/
def fstUe (s0 : State) (k word : Nat) : State :=
  if k = 0 then s0
  else
    let s := if s0.regB R.FST_UEADDR 31 then s0 else s0.setReg R.FST_UEADDR (w32 (word % 2 ^ 28 + 2 ^ 31))
    let p := s.pair
    let es := List.replicate k s.up ++ p.ueErrors.filter fun t => decide (s.up < t + 60000000000)
    raise ({ s with pair := { p with ueErrors := es } }.count R.FST_ECC 16 16 k) 0x08 4

/-- Make the counts of a render (R196, R207, R210, R194). -/
def renderCounts (s : State) (n : RenCnt) (bad : Bool) (ueBad word : Nat) : State :=
  let s1 := if n.smp = 0 then s else raise (s.count R.ENG_CNT0 0 16 n.smp) 0x06 1
  let s2 := if n.space = 0 then s1 else raise (s1.count R.ENG_CNT0 16 16 n.space) 0x06 2
  let s3 := if n.bin = 0 then s2 else raise (s2.count R.ENG_CNT1 0 16 n.bin) 0x06 3
  let s4 := if bad then raise (s3.count R.ENG_CNT1 16 16 1) 0x06 4 else s3
  fstUe s4 (n.smp + n.bin + ueBad) word

/-- Render an item: the egress words written, and its digest, or none where it ended with error status (R194). -/
def renderItem (s : State) (i : Item) (reads : List (Nat × Nat × Nat)) (ue : Ue) : State × Option Nat :=
  let run0 := i.f 7 0 24
  let n := i.f 8 0 16
  let c : RenCtx := ⟨i.f 6 0 6, (i.word 10).toNat, fullEpoch s (srfDom s (i.f 6 0 6)) (i.word 10).toNat, reads, ue⟩
  if 16777216 < run0 + n then (renderCounts s ⟨0, 0, 0⟩ true 0 ue.word, none)
  else
    let a := (List.range n).foldl (fun a k => renderRun s c (i.f 9 0 24) (run0 + k) a) ⟨s, 0xFFFFFFFF, ⟨0, 0, 0⟩, false⟩
    let fail := ue.runs.length + ue.profiles.length + ue.curves.length
    (renderCounts a.s a.cnt a.bad (if a.bad then min fail 1 else 0) ue.word, if a.bad then none else some (a.crc ^^^ 0xFFFFFFFF))

/-! Engines (6.8, Table 6-10) -/

/-- The reset of one engine begins. -/
def engDownNow (s : State) (e : Nat) : State := { s with ren := { s.ren with resets := sset s.ren.resets e s.up } }

/-- Record an engine fault: causes 1 parity, 2 watchdog, 3 ENG_RST, 4 island reset. -/
def engFault (s : State) (e cause : Nat) : State :=
  let n := s.regF R.ENG_FAULT 16 16
  let p := s.pair
  let fs := s.up :: p.engFaults.filter fun t => decide (s.up < t + 1000000000)
  raise ({ s with pair := { p with engFaults := fs } }.setReg R.ENG_FAULT (w32 (e + cause * 32 + satAdd 16 n 1 * 65536))) 0x06 0

/-- Reset engine `e`: an item in service returns to its flow (R129) and the reset is recorded; an idle engine's reset is
recorded nowhere (Table 6-10). -/
def engReset (s : State) (e cause : Nat) : State :=
  let s1 := engDownNow s e
  match svcOf s (.engine e) with
  | some v => faultItem (engFault s1 e cause) v
  | none => if cause = 3 then s1 else engFault s1 e cause

/-- ENG_RST (R129). -/
def engRst (s : State) (mask : Nat) : State := (bitsOf 24 mask).foldl (fun t e => engReset t e 3) s

/-- ENG_CLR.CNT clears the render counters and ENG_FAULT.COUNT. -/
def engClr (s : State) : State :=
  ((s.setReg R.ENG_CNT0 0#32).setReg R.ENG_CNT1 0#32).setRegF R.ENG_FAULT 16 16 0

end Sys2Proof.Machine
end

