-- ==== Sys2Proof/Machine/PairOps.lean ====
section
/-! DEFINITION. What a pair member sends over the Cuff: the ordered stream with its acknowledgements (14.3), and the
frames of Tables 14-2 and 14-3; the stored form of a Lining record (15.1). -/

namespace Sys2Proof.Machine

/-! Stored records (R476) -/

/-- Header and payload of a record as stored (Table 15-1). -/
def recHead (r : LRec) : List Byte :=
  leBytes 2 (if r.partner then 0x4D4C else 0x4E4C) ++ leBytes 1 r.typ ++
    leBytes 1 (b2n r.final + 2 * b2n r.log + 4 * b2n r.base) ++ leBytes 2 r.payload.length ++ leBytes 6 r.seq ++
    leBytes 4 r.ns ++ leBytes 6 r.sec ++ leBytes 2 0 ++ r.payload

/-- The record as it stands in the flash (Table 15-2): padded with 0xFF, then its commit mark. -/
def recFlash (r : LRec) : List Byte :=
  let b := recHead r
  let crc := leBytes 4 (crc32c b)
  b ++ crc ++ List.replicate (recBytes r.payload.length - 20 - b.length) 0xFF#8 ++
    leBytes 2 0x434D ++ leBytes 6 r.seq ++ crc ++ leBytes 4 0

/-- The header of a journal sector (R479): a retired sector keeps that of a FULL one. -/
def Sector.header (x : Sector) : List Byte :=
  leBytes 2 0x534C ++ leBytes 1 1 ++ leBytes 1 (if x.state = 0 then 0xFF else if x.state = 1 then 0xFE else 0xFC) ++
    leBytes 4 x.erases ++ leBytes 4 x.gen ++ leBytes 6 x.first ++ List.replicate 14 0xFF#8

/-- The record as stored, to its CRC-32C. -/
def recStored (r : LRec) : List Byte := recHead r ++ leBytes 4 (crc32c (recHead r))

/-! Cuff frames -/

/-- EtherType of the Cuff. -/
def cuffType (s : State) : Nat := s.regF R.MIR_CFG 16 16

/-- Send a Cuff frame of a type with the stream sequence and payload (Table 14-2): group address of all stations. -/
def cuffSend (s : State) (typ seq : Nat) (payload : List Byte) : State :=
  let head := beBytes 1 1 ++ beBytes 1 typ ++ beBytes 1 (s.regF R.MIR_CFG 1 1) ++ beBytes 1 0 ++
    beBytes 4 (fence s) ++ beBytes 4 seq
  macSend s 0x24 2 (etherFrame s 0x24 (2 ^ 48 - 1) (cuffType s) (head ++ payload))

/-- Bytes of a MIRROR entry (Table 14-3). -/
def mirBytes (e : MirEntry) : List Byte :=
  match e with
  | .write a v t => beBytes 1 1 ++ beBytes 2 15 ++ beBytes 3 a ++ beBytes 4 v.toNat ++ beBytes 4 (nsOf t) ++
      beBytes 4 (secOf t)
  | .record r => beBytes 1 2 ++ beBytes 2 (recStored r).length ++ recStored r
  | .acc ws => beBytes 1 3 ++ beBytes 2 (4 * ws.length) ++ (ws.map fun w => beBytes 4 w.toNat).flatten

/-- Type and payload of a stream message. -/
def streamBytes (m : StreamMsg) : Nat × List Byte :=
  match m with
  | .mirror es => (0x02, beBytes 2 es.length ++ (es.map mirBytes).flatten)
  | .epoch d k ls => (0x04, beBytes 1 d ++ beBytes 3 0 ++ beBytes 8 k ++ beBytes 2 ls.length ++
      (ls.map fun l => beBytes 1 l.layer ++ beBytes 4 l.fnum ++ beBytes 1 (b2n l.inc)).flatten)
  | .resyncEnd st => (0x09, beBytes 1 st)

/-- Size of the area of unacknowledged messages (R457). -/
def mirArea : Nat := 16777216

/-- Bring MIR_LAG up to date. -/
def mirLag (s : State) : State :=
  let n := min s.pair.unacked.length 65535
  s.setReg R.MIR_LAG (w32 (n + max n (s.regF R.MIR_LAG 16 16) * 65536))

/-- The own Lining records in a stream message. -/
def StreamMsg.records (m : StreamMsg) : List Nat :=
  match m with
  | .mirror es => es.filterMap fun e => match e with | .record r => if r.partner then none else some r.seq | _ => none
  | _ => []

/-- Send a message of the ordered stream (R452, R457): one that finds the area full is discarded, and the sequence still
advances. -/
def streamSend (s : State) (m : StreamMsg) : State :=
  let b := streamBytes m
  let size := b.2.length + 12
  let used := (s.pair.unacked.map (·.bytes)).foldl (· + ·) 0
  let seq := s.pair.txSeq
  let s1 := { s with pair := { s.pair with txSeq := (seq + 1) % 2 ^ 32 } }
  let rest := s1.pair.unsent.filter fun q => !m.records.contains q
  if mirArea < used + size then { s1 with pair := { s1.pair with unsent := rest ++ m.records } }
  else
    let u := s1.pair.unacked ++ [⟨seq, m, size, s1.up⟩]
    cuffSend (mirLag { s1 with pair := { s1.pair with unacked := u, unsent := rest } }) b.1 seq b.2

/-- Pages whose accepted writes are mirrored (Table 14-4). -/
def mirPage (p : Nat) : Bool :=
  p == 4 || p == 5 || p == 8 || p == 9 || p == 0x0A || p == 0x0D || p == 0x0E || (decide (0x12 ≤ p) && decide (p ≤ 0x21))

/-- Windows left out of the mirror: the SRF tile window and the TDM cue and action windows. -/
def mirSkip (a : Nat) : Bool :=
  (decide (0x0A0040 ≤ a) && decide (a ≤ 0x0A005C)) || (decide (0x0D0180 ≤ a) && decide (a ≤ 0x0D01AC))

/-- A write that has taken effect is mirrored by an active member (R452). A lock operation is no write of the page's
contents; a sequence is mirrored as its release applies it. -/
def mirWrite (s : State) (a : Nat) (v : Word) : State :=
  if s.pair.role = .active ∧ mirPage (pageOf a) && !mirSkip a then
    streamSend s (.mirror [.write a v (nowNs s)])
  else s

/-- A node-table entry that the reply unit writes is mirrored as writes of the node window. -/
def mirNode (s : State) (p n : Nat) : State :=
  let b := (ppPage p) * 65536
  let ws := s.ent (tNode p) n
  let s1 := mirWrite s (b + 0xA0) (w32 n)
  let s2 := (List.range 4).foldl (fun t k => mirWrite t (b + 0xA4 + 4 * k) (lget ws k 0#32)) s1
  mirWrite s2 (b + 0xB4) 2#32

/-! The shadow sample (R459, R460) -/

/-- A tile belongs to the shadow sample of an epoch. -/
def sampleTile (tile k : Nat) : Bool := tile % 64 == k % 64

/-- A DIGEST frame for one tile. -/
def sendDigest (s : State) (k surf tile : Nat) (res : Option Nat) : State :=
  cuffSend s 0x07 0 (beBytes 8 k ++ beBytes 2 1 ++ beBytes 1 surf ++ beBytes 2 tile ++ beBytes 1 (b2n res.isNone) ++
    beBytes 4 (res.getD 0))

/-- Record the outcome of one sample tile (R460). -/
def shadowResult (s : State) (own theirs : Shadow) : State :=
  match own.digest, theirs.digest with
  | some a, some b =>
    if own.excluded || theirs.excluded || a == b then s
    else
      let s1 := s.count R.MIR_CNT0 16 16 1
      let ref := (match (s.dom (s.regF R.MIR_CFG 3 2)).cur with | some c => c.k | none => 0)
      raise { s1 with pair := { s1.pair with mism := ref :: s1.pair.mism } } 0x24 6
  | _, _ => s

/-- Bring together the two results of a sample tile. -/
def shadowMatch (s : State) (x : Shadow) (mine : Bool) : State :=
  let same (y : Shadow) : Bool := y.surf == x.surf && y.tile == x.tile && y.epoch == x.epoch
  if mine then
    match s.pair.theirs.find? same with
    | some y => shadowResult { s with pair := { s.pair with theirs := s.pair.theirs.erase y } } x y
    | none => { s with pair := { s.pair with own := s.pair.own ++ [x] } }
  else
    match s.pair.own.find? same with
    | some y => shadowResult { s with pair := { s.pair with own := s.pair.own.erase y } } y x
    | none => { s with pair := { s.pair with theirs := s.pair.theirs ++ [x] } }

/-- A machine-enqueued RENDER item of a sample tile has ended (R460): an active member sends a DIGEST, a standby compares
with the active's. -/
def shadowEnded (s : State) (k surf tile : Nat) (res : Option Nat) (divergent : Bool) : State :=
  if !sampleTile tile k then s
  else if s.pair.role = .active then sendDigest s k surf tile res
  else if s.pair.role = .standby then shadowMatch s ⟨surf, tile, k, res, divergent⟩ true
  else s

end Sys2Proof.Machine
end

