-- ==== Sys2Proof/Machine/Domain.lean ====
section
/-! DEFINITION. The settings and grids of the timing domains (7.1), their numbering, and the placing of timing changes
(7.4). A getter `g` reads a register as applied, as pending or as a commit would leave it. -/

namespace Sys2Proof.Machine

/-- A register as its pending set would leave it (R51). -/
def pendVal (s : State) (a : Nat) : Word :=
  match sget s.ctl.pend a with
  | some p => p.val
  | none => s.reg a

/-- A register as written: staged, else pending, else applied. -/
def writtenVal (s : State) (a : Nat) : Word :=
  match sget s.ctl.stage a with
  | some v => v
  | none => pendVal s a

/-- The offsets of a domain block that hold the timing-mode fields (7.4). -/
def timingOffs : List Nat := [0x00, 0x04, 0x08, 0x10, 0x14, 0x18]

/-- Timing-mode registers of a domain. -/
def timingRegs (d : Nat) : List Nat := timingOffs.map fun o => R.TDM_CTL d + o

/-- Fields of a domain's settings. -/
def gEn (g : Nat → Word) (d : Nat) : Bool := bit (g (R.TDM_CTL d)) 0
def gSrc (g : Nat → Word) (d : Nat) : Nat := fld (g (R.TDM_CTL d)) 1 2
def gNum (g : Nat → Word) (d : Nat) : Nat := fld (g (R.TDM_RATE d)) 0 8
def gFrac (g : Nat → Word) (d : Nat) : Bool := bit (g (R.TDM_RATE d)) 8
def gWcdiv (g : Nat → Word) (d : Nat) : Nat := fld (g (R.TDM_RATE d)) 16 16
def gLead (g : Nat → Word) (d : Nat) : Nat := fld (g (R.TDM_LEAD d)) 0 17 * 1000
def gPhase (g : Nat → Word) (d : Nat) : Nat := fld (g (R.TDM_PHASE d)) 0 30
def gAct (g : Nat → Word) (d : Nat) : Nat :=
  (g (R.TDM_ACT_S d)).toNat * 1000000000 + fld (g (R.TDM_ACT_NS d)) 0 30

/-- Frame rate of the LTC input (TIO_LTC.RATE): NUM and FRAC at 1×, and frames of a day counted in drop-frame form at
29.97 fps. -/
def ltcNum (s : State) : Nat := lget [24, 25, 30, 30] (s.regF R.TIO_LTC 1 2) 25
def ltcFrac (s : State) : Bool := s.regF R.TIO_LTC 1 2 == 2
def ltcDay (s : State) : Nat := if ltcFrac s then 2589408 else ltcNum s * 86400

/-- The rate of a domain relative to LTC: 1, 2, or none. -/
def ltcMult (s : State) (g : Nat → Word) (d : Nat) : Option Nat :=
  if gFrac g d != ltcFrac s then none
  else if gNum g d = ltcNum s then some 1
  else if gNum g d = 2 * ltcNum s then some 2
  else none

/-- The grid of a domain's settings (R219, Table 7-1); none where the source gives no prediction. -/
def gridOf (s : State) (g : Nat → Word) (d : Nat) : Option Grid :=
  if gSrc g d = 1 then
    match s.tio.ltc.pred, ltcMult s g d with
    | some p, some m => some ⟨p.org + gPhase g d, p.num, p.den * m⟩
    | _, _ => none
  else if gSrc g d = 2 then
    s.tio.wclk.pred.map fun p => ⟨p.org + gPhase g d, p.num * gWcdiv g d, p.den⟩
  else some ⟨gPhase g d, 1000000000 * (if gFrac g d then 1001 else 1000), gNum g d * 1000⟩

/-- The nominal period in ns (R219); for the word clock the measured one (R220). -/
def periodOf (s : State) (g : Nat → Word) (d : Nat) : Option Nat :=
  if gSrc g d = 2 then (gridOf s g d).map fun x => x.num / x.den
  else some (1000000000 * (if gFrac g d then 1001 else 1000) / (gNum g d * 1000))

/-- The number of a first epoch at grid index `j` (Table 7-1). -/
def firstNo (s : State) (g : Nat → Word) (d j : Nat) : Nat :=
  if gSrc g d = 1 then
    let m := (ltcMult s g d).getD 1
    ((s.tio.ltc.tcBase * m + j) % (ltcDay s * m : Nat)).toNat
  else if gSrc g d = 2 then 0
  else j

/-- The extra condition of Table 7-1. -/
def srcOk (s : State) (g : Nat → Word) (d : Nat) : Bool :=
  if gSrc g d = 1 then s.tio.ltc.lock && (ltcMult s g d).isSome
  else if gSrc g d = 2 then s.tio.wclk.lock
  else true

/-- The first epoch of settings from a time on (R221): the first grid point at or after max(c + T_lead, ACT). -/
def firstEpoch (s : State) (g : Nat → Word) (d c : Nat) (x : Grid) : EpochPt :=
  let j := x.firstAt (max (c + gLead g d) (gAct g d))
  ⟨firstNo s g d j, j, x.pt j, x.pt j - gLead g d⟩

/-- Show the next latch point in TDM_LNd. -/
def showNext (s : State) (d : Nat) : State :=
  let l := (s.dom d).next.l
  (s.setReg (R.TDM_LN_NS d) (w32 (nsOf l))).setReg (R.TDM_LN_S d) (w32 (secOf l))

/-- A domain starts (R221, R258): its applied settings have EN = 1. -/
def startDomain (s : State) (d c : Nat) : State :=
  match gridOf s s.reg d with
  | none => s
  | some x =>
    let e := firstEpoch s s.reg d c x
    let r : DomRt := ⟨true, x, none, e, none, [⟨e.k, e.j, x, gLead s.reg d, e.l⟩]⟩
    -- entries kept for epochs of an earlier run that number as high say nothing of this one (R205)
    let old := s.ren.old.filter fun o => decide (o.until_ < e.k) || o.dom != d
    -- nor do the epochs told of its surfaces (R243)
    let told := sdelIf s.pres.told fun key => srfDom s (key / 65536) == d
    let s1 := { s with ren := { s.ren with old := old }, pres := { s.pres with told := told } }
    showNext ((s1.setDom d r).setRegF (R.TDM_LATE d) 0 16 0) d

/-- The epoch that follows `e` in a grid with a lead. -/
def after (x : Grid) (lead : Nat) (e : EpochPt) : EpochPt :=
  ⟨e.k + 1, e.j + 1, x.pt (e.j + 1), x.pt (e.j + 1) - lead⟩

/-- The latest epoch of the old timing that runs and whose latch point is at or before `c` (R229), processed or not; a
pending change has cancelled others. -/
def oldLast (s : State) (d c : Nat) : Option EpochPt :=
  let r := s.dom d
  match (dueEpoch s d c).filter fun e => r.bridge.all fun b => decide (e.1.k < b.k) && b.pm.isSome with
  | some e => some e.1
  | none => r.cur

/-- The first epoch of the old timing after the last one for a timing change at time `c`: a pending change has cancelled
epochs whose latch point has passed. -/
def oldNext (s : State) (d c : Nat) : EpochPt :=
  let r := s.dom d
  let lead := gLead s.reg d
  let n := match oldLast s d c, r.bridge with
    | some e, _ => after r.grid lead e
    | none, some b => b.old
    | none, none => r.next
  let j := max n.j (r.grid.firstAt (c + lead + 1))
  if n.l ≤ c then ⟨n.k + (j - n.j), j, r.grid.pt j, r.grid.pt j - lead⟩ else n

/-- Place a timing change made at time `c` (R229-R231, R618), with the settings the pending registers give. -/
def placeBridge (s : State) (d c : Nat) : State :=
  match gridOf s (pendVal s) d with
  | none => s
  | some x =>
    let r := s.dom d
    let n := oldNext s d c
    let lead := gLead (pendVal s) d
    let last := oldLast s d c
    let from_ := max (c + lead) (gAct (pendVal s) d)
    let b0 := x.firstAt (match last with | some e => max from_ (e.p + 1) | none => from_)
    let pb := x.pt b0
    -- the latest old point before B_0 that is not cancelled
    let jm := r.grid.firstAt pb - 1
    let pm : Option (Nat × Nat × Nat) :=
      if n.p < pb then some (n.k + (jm - n.j), jm, r.grid.pt jm) else last.map fun e => (e.k, e.j, e.p)
    match pm with
    | none =>
      let e : EpochPt := ⟨firstNo s (pendVal s) d b0, b0, pb, pb - lead⟩
      showNext (s.setDom d { r with next := e, bridge := some ⟨none, x, lead, b0, pb, pb - lead, e.k, n⟩ }) d
    | some (k, j, p) =>
      let half := (periodOf s s.reg d).getD 0
      let jb := if half ≤ 2 * (pb - p) then b0 else b0 + 1
      let l := max (x.pt jb - lead) p
      let br : Bridge := ⟨some (j, p), x, lead, jb, x.pt jb, l, k + 1, n⟩
      let nx : EpochPt := if last != r.cur then r.next else if n.p ≤ p then n else ⟨k + 1, jb, x.pt jb, l⟩
      showNext (s.setDom d { r with next := nx, bridge := some br }) d

/-- The epoch that follows epoch `e` of a domain, bridge included. -/
def followOf (s : State) (d : Nat) (e : EpochPt) : EpochPt := epochOf s d (e.k + 1)

/-- The joint rules of R220 on the settings a commit would leave: the lowest register of each rule that it breaks for any
domain. `surf` tells whether an enabled surface names a domain. -/
def tdmJoint (s : State) (g : Nat → Word) (surf : Nat → Bool) : List Nat :=
  ((List.range 4).map fun d =>
    let lead := gLead g d
    (match periodOf s g d with
     | some p => if lead + 1000000 ≤ p ∧ gPhase g d < p then [] else [offOf (R.TDM_RATE d)]
     | none => [offOf (R.TDM_CTL d)]) ++
    (if fld (g (R.TDM_GUARD d)) 0 11 * 1000 < lead then [] else [offOf (R.TDM_LEAD d)]) ++
    (if !srcOk s g d then [offOf (R.TDM_CTL d)] else []) ++
    (if !gEn g d && surf d then [offOf (R.TDM_CTL d)] else [])).flatten

end Sys2Proof.Machine
end

