-- ==== Sys2Proof/Machine/Drive.lean ====
section
/-! DEFINITION. The local drive (chapter 10): dark-safe, port L and its images, strings and rails, derating, and the
matrix ports. -/

namespace Sys2Proof.Machine

/-! Records -/


def State.rail (s : State) (r : Nat) : RailRt := lget s.drv.rails r rail0
def State.setRail (s : State) (r : Nat) (x : RailRt) : State :=
  { s with drv := { s.drv with rails := s.drv.rails.set r x } }
def State.str (s : State) (n : Nat) : StrRt := sgetD s.drv.strs n str0
def State.setStr (s : State) (n : Nat) (x : StrRt) : State :=
  { s with drv := { s.drv with strs := sput s.drv.strs n x str0 } }
def State.mxp (s : State) (p : Nat) : MxRt := lget s.drv.mx p mx0
def State.setMx (s : State) (p : Nat) (x : MxRt) : State := { s with drv := { s.drv with mx := s.drv.mx.set p x } }

/-! Settings -/

/-- The drive's timing domain (R324). -/
def drvDom (s : State) : Nat := s.regF R.DRV_CTL 0 2

/-- String entries as applied (Table 10-11). -/
def strEn (s : State) (n : Nat) : Bool := s.entF tSTR n 0 0 1 = 1
def strIset (s : State) (n : Nat) : Nat := s.entF tSTR n 0 8 10
def strAddr (s : State) (n : Nat) : Nat := s.entF tSTR n 1 0 27
def strBin (s : State) (n : Nat) : Nat := s.entF tSTR n 2 8 8

/-- Matrix port settings as applied (Table 10-13). -/
def mxEn (s : State) (p : Nat) : Bool := s.regB (R.MX_CFG p) 0
def mxLines (s : State) (p : Nat) : Nat := s.regF (R.MX_CFG p) 1 6
def mxFpe (s : State) (p : Nat) : Nat := s.regF (R.MX_CFG p) 8 4
def mxBase (s : State) (p : Nat) : Nat := s.regF (R.MX_BASE p) 0 27
def mxIcol (s : State) (p m : Nat) : Nat := s.regF (R.MX_ICOL p) (8 * m) 8

/-- Matrix supply fault. -/
def mxSupFault (s : State) : Bool := s.regB R.DRV_MXSUP 15

/-- A matrix port is stopped by a fault (Table 10-5). -/
def mxStopped (s : State) (p : Nat) : Bool := mxSupFault s || s.reg (R.MX_LSHORT p) != 0#32

/-- Pseudo-addresses under which staged string entry words are held (R334): beyond every register. -/
def strPseudo (n k : Nat) : Nat := 0x10000000 + n * 4 + k

/-! Rails (10.4) -/

/-- Derating factor in force. -/
def factor (s : State) : Nat := s.regF R.DRV_FACTOR 0 9

/-- Forward voltage of a string of a voltage bin at a sink current (R336): measured where valid, else predicted with I of
R331. -/
def vfAt (s : State) (n b iset : Nat) : Nat :=
  if (s.str n).vf ≠ 0 then (s.str n).vf * 1000000
  else s.entF tSTRV b 0 0 14 * 1000000 + s.entF tSTRV b 0 16 16 * iset * factor s * 100 / 256

/-- Forward voltage of a string as it is driven since P_k, and as its applied entry will have it driven (R334). -/
def strVf (s : State) (n : Nat) : Nat := vfAt s n (s.str n).bin (s.str n).iset
def strVfNext (s : State) (n : Nat) : Nat := vfAt s n (strBin s n) (strIset s n)

/-- A string is on in the present epoch: its word since P_k is not zero, and neither it nor its rail has a fault or waits
for the next P_k after one (R333, R340, R341). -/
def strOn (s : State) (n : Nat) : Bool :=
  let x := s.str n
  let r := s.rail (n / 16)
  x.word != 0 && x.fault == 0 && !x.wait && !r.fault && !r.wait

/-- The word of an address as the images due up to time `p` leave it: the latest pending image that writes it, else the current
image (R329). -/
def imgWord (s : State) (p a : Nat) : Nat :=
  let b := s.drv.img.foldl (fun b i =>
    match sget i.2 a with
    | some w => if i.1 ≤ p ∧ b.1 ≤ i.1 then (i.1, w) else b
    | none => b) (0, sgetD s.drv.cur a 0)
  b.2

/-- Strings of a rail that are on in the present epoch, and those that will be for a pending image (R337). -/
def onNow (s : State) (r : Nat) : List Nat :=
  ((List.range 16).map fun k => 16 * r + k).filter (strOn s)
def onAhead (s : State) (r : Nat) : List Nat :=
  ((List.range 16).map fun k => 16 * r + k).filter fun n =>
    strEn s n && (s.str n).fault == 0 && s.drv.img.any fun i => imgWord s i.1 (strAddr s n) != 0

/-- The value VSET moves to (R337), in units of 10 nV; none where the rail is disabled. -/
def railTarget (s : State) (r : Nat) : Option Nat :=
  let x := s.rail r
  let vs := (onNow s r).map (strVf s) ++ (onAhead s r).map (strVfNext s)
  if s.drv.dark ≠ 0 ∨ x.fault ∨ x.wait ∨ vs = [] then none
  else some (min 11000000000 (max 2000000000 (vs.foldl max 0 + s.regF R.DRV_RAIL 0 6 * 10000000)))

/-- A setpoint that moves from `v` toward `target` for `t` ns (R338). -/
def slewed (s : State) (v target t : Nat) : Nat :=
  let d := s.regF R.DRV_RAIL 8 6 * t
  if v ≤ target then min target (v + d) else max target (v - d)

/-- A rail whose recomputation at a sub-period end has come due (R338), as it is from then on. -/
def railNow (s : State) (r : Nat) : RailRt :=
  let x := s.rail r
  match x.due with
  | some t =>
    if s.up < t then x
    else { x with v := slewed s x.v x.target (t - x.at_), at_ := t, target := (railTarget s r).getD x.target, due := none }
  | none => x

/-- Setpoint of a rail now (R338), in units of 10 nV. -/
def railV (s : State) (r : Nat) : Nat :=
  let x := railNow s r
  slewed s x.v x.target (s.up - x.at_)

/-- Bring the rails' setpoints up to now, before something they follow changes. -/
def railMove (s : State) : State :=
  (List.range 4).foldl (fun t r => t.setRail r { railNow t r with v := railV t r, at_ := t.up }) s

/-- Recompute a rail's setpoint now (R337, R338). -/
def railUpdate1 (s : State) (r : Nat) : State :=
  let x := s.rail r
  match railTarget s r with
  | none => s.setRail r { x with v := 0, at_ := s.up, target := 0, on := false, due := none }
  | some v => s.setRail r { x with v := railV s r, at_ := s.up, target := v, on := true, due := none }

/-- Every rail. -/
def railUpdate (s : State) : State := (List.range 4).foldl railUpdate1 s

/-! Matrix ports: settings -/

/-- Write settings of a matrix port. -/
def mxWrite (s : State) (ws : List (Nat × Word)) : State := ws.foldl (fun t w => t.setReg w.1 w.2) s

/-- A port stops scanning: what was committed and waits for a scan frame applies (R349). -/
def mxStop (s : State) (p : Nat) : State :=
  let x := s.mxp p
  (mxWrite s (x.due ++ x.pend.map (·.2))).setMx p { x with scanning := false, left := 0, pend := [], due := [] }

/-! Dark-safe (R325) -/

/-- A cause of Table 10-2 that holds now, by its bit in DRV_DARK; the watchdog ends by a push.
A failed self-test holds the first (R550). -/
def darkHolds (s : State) (c : Nat) : Bool :=
  match c with
  | 0 => !s.en 0x30 || s.regB R.BST_POST 1
  | 1 => s.regB R.DRV_CTL 2
  | 2 => !(s.dom (drvDom s)).running
  | 3 => true
  | 4 => !s.drv.fed
  | _ => s.pair.failing &&& s.regF R.MIR_DIAG 0 7 != 0

/-- A cause of dark-safe arises: outputs off at once; images stay (R326). -/
def darkEnter (s : State) (c : Nat) : State :=
  if !s.hw.drive || s.drv.dark.testBit c then s
  else
    let s1 := mxStop (mxStop (railMove s) 0) 1
    let s2 := railUpdate { s1 with drv := { s1.drv with dark := s1.drv.dark + 2 ^ c } }
    if s.drv.dark = 0 then raise s2 0x30 6 else s2

/-! Port L (10.2) -/

/-- The egress-word addresses the drive keeps (R328). -/
def keptAddrs (s : State) (lo n : Nat) : List Nat :=
  let inR (a : Nat) : Bool := decide (lo ≤ a) && decide (a < lo + n)
  let strs := ((List.range 64).filter (strEn s)).map (strAddr s)
  let win (p : Nat) : List Nat :=
    if mxEn s p then
      let a := max lo (mxBase s p)
      let b := min (lo + n) (mxBase s p + mxLines s p * 192)
      (List.range (b - a)).map (a + ·)
    else []
  strs.filter inR ++ win 0 ++ win 1

/-- Merge words over an image. -/
def mergeImg (img ws : SMap Nat) : SMap Nat := ws.foldl (fun m e => sset m e.1 e.2) img

/-- An image's words replace those of the current image (R329). -/
def applyWords (s : State) (ws : SMap Nat) : State :=
  let cur := ws.foldl (fun m e => sput m e.1 e.2 0) s.drv.cur
  { s with drv := { s.drv with cur := cur, fed := true } }

/-- The outcome of Table 8-7 for an L push read now (R327): the push's presentation time, or none where it is
dropped. -/
def lDeadline (s : State) (i : Item) (p cls : Nat) : State × Option Nat :=
  if now32 s < i.ddl then (s, some p)
  else if cls = 1 then (raise (s.count R.DRV_LCNT0 16 16 1) 0x30 8, none)
  else
    let d := srfDom s (i.f 11 0 6)
    let t := if (s.dom d).running then time32 (restampP s d (nowNs s)) else p
    if cls = 0 then (raise (s.count R.DRV_LCNT0 0 16 1) 0x30 7, some t)
    else (s.count R.DRV_LCNT1 0 16 1, some t)

/-- The pending image that is due first. -/
def dueImage (s : State) (t : Nat) : Option (Nat × SMap Nat) :=
  (s.drv.img.filter fun i => decide (i.1 ≤ t)).foldl (fun b i =>
    match b with
    | none => some i
    | some x => if i.1 < x.1 then some i else b) none

/-- At P the words of a pending image replace those of the current image (R329). -/
def imageApply (s : State) (t : Nat) : State :=
  match dueImage s t with
  | none => s
  | some i =>
    let t := railMove s
    applyWords { t with drv := { t.drv with img := t.drv.img.erase i } } i.2

/-- Both pending images, where due. -/
def imagesApply (s : State) (t : Nat) : State := imageApply (imageApply s t) t

/-- Put the words of a push into the image for its presentation time (R328, R329), after the images whose time has come. A
late push applies at once. One that is dropped whole is not sent: a later push is judged by those before it (R113). -/
def lStore (s0 : State) (p : Nat) (ws : SMap Nat) : State :=
  let s := railMove (imagesApply s0 (now32 s0))
  let sent (img : List (Nat × SMap Nat)) : State := { s with drv := { s.drv with img := img, lastP := p } }
  if p ≤ now32 s then applyWords (raise ((sent s.drv.img).count R.DRV_LCNT0 0 16 1) 0x30 7) ws
  else if s.drv.img.any fun i => i.1 == p then
    railUpdate (sent (s.drv.img.map fun i => if i.1 == p then (p, mergeImg i.2 ws) else i))
  else if s.drv.img.length < 2 then railUpdate (sent (s.drv.img ++ [(p, ws)]))
  else raise (s.count R.DRV_LCNT2 0 16 1) 0x30 9

/-- The L reader reads a PORT 16 push (R327): deadline, presentation order, words kept; the item completes at once.
A read that island 3 aborts drops the push (R566). -/
def lPushRead (s : State) : State :=
  match svcOf s (.framer 16) with
  | none => s
  | some v =>
    let i := v.item
    if !s.islUp 3 then completeItem (raise ((abortCount s 3 1).count R.DRV_LCNT2 0 16 1) 0x30 9) v else
    let p0 := (i.word 10).toNat * 1000000000 + (i.word 9).toNat
    match lDeadline s i p0 (fClass s v.flow) with
    | (s1, none) => completeItem s1 v
    | (s1, some p) =>
      if p < s1.drv.lastP then completeItem (s1.count R.DRV_LCNT1 16 16 1) v
      else
        let lo := i.f 7 0 24 * 8
        let ws : SMap Nat := (keptAddrs s1 lo (i.f 8 0 16 * 8)).foldl (fun m a => sset m a (egrWord s1 (2 * a))) []
        completeItem (lStore s1 p ws) v

/-! Strings (10.3) -/

/-- On-time T of a word in an epoch, in ticks of 10 ns (R332). -/
def strTicks (s : State) (w : Nat) : Nat := (w * s.drv.nsub * s.drv.sub + 32767) / 65535

/-- On-time of sub-period `j` (R332). -/
def subTicks (s : State) (w j : Nat) : Nat :=
  let n := s.drv.nsub
  let t := strTicks s w
  let r := t % n
  t / n + (if j * r / n < (j + 1) * r / n then 1 else 0)

/-! Derating (10.6) -/

/-- Predicted power of a rail at F = 256 in units of 10 pW: VSET × ISET × duty (R342). -/
def railPower (s : State) (r : Nat) : Nat :=
  let d := s.drv.nsub * s.drv.sub
  ((onNow s r).map fun n =>
    if d = 0 then 0 else railV s r * (s.str n).iset * strTicks s (s.str n).word / d).foldl (· + ·) 0

/-- Steps of a matrix word over the 32 passes (R348), and the on-window of pass `k`. -/
def mxSteps (v : Nat) : Nat := min 16383 ((v + 2) / 4)
def rev5 (x : Nat) : Nat :=
  nfld x 0 1 * 16 + nfld x 1 1 * 8 + nfld x 2 1 * 4 + nfld x 3 1 * 2 + nfld x 4 1
def mxPassSteps (v k : Nat) : Nat :=
  let q := mxSteps v
  q / 32 + (if rev5 k < q % 32 then 1 else 0)

/-- Line slot and step time of a port (R345). -/
def mxSlot (s : State) (p : Nat) : Nat := (s.mxp p).pass / mxLines s p
def mxStep (s : State) (p : Nat) : Nat := (mxSlot s p - s.regF (R.MX_BLANK p) 0 11) / 512

/-- The sink current of a column in µA while it is on (R344): its ICOL in 0.25 mA steps, scaled by F. -/
def colCurrent (s : State) (p c : Nat) : Nat := mxIcol s p (c % 3) * 250 * factor s / 256

/-- Where a scanning port stands now (R345): pass, line, and ns into the line's slot; the residual of a pass belongs to its last
line, and that of the epoch to the last line of the last pass. -/
def mxPlace (s : State) (p : Nat) : Option (Nat × Nat × Nat) :=
  let x := s.mxp p
  if !x.scanning || x.pass == 0 then none
  else
    let t := nowNs s - x.start
    let k := min 31 (t / x.pass)
    let l := min (mxLines s p - 1) ((t - k * x.pass) / mxSlot s p)
    some (k, l, t - k * x.pass - l * mxSlot s p)

/-- The line whose high-side switch is closed (R347): none in blanking. -/
def mxLineClosed (s : State) (p : Nat) : Option Nat :=
  match mxPlace s p with
  | some (_, l, t) => if t < 512 * mxStep s p then some l else none
  | none => none

/-- A column sink is on (R347, R348): the word of the closed line at this column has steps left in this pass. -/
def mxColumnOn (s : State) (p c : Nat) : Bool :=
  match mxPlace s p with
  | some (k, l, t) =>
    decide (t < 512 * mxStep s p) &&
      decide (t < mxPassSteps (sgetD s.drv.shown (mxBase s p + l * 192 + c) 0) k * mxStep s p)
  | none => false

/-- The columns are discharged through 50 Ω (R347): DISCH = 1, in the first half of a blanking interval. -/
def mxDischarge (s : State) (p : Nat) : Bool :=
  match mxPlace s p with
  | some (k, l, t) =>
    let x := s.mxp p
    let on := 512 * mxStep s p
    let last := if l + 1 < mxLines s p then mxSlot s p
      else if k < 31 then x.pass - l * mxSlot s p
      else if x.left = 0 then s.drv.next - x.start - 31 * x.pass - l * mxSlot s p
      else x.pass - l * mxSlot s p
    s.regB (R.MX_CFG p) 16 && decide (on ≤ t) && decide (2 * (t - on) < last - on)
  | none => false

/-- Predicted output power of the matrix supply in units of 10 pW. -/
def mxPower (s : State) : Nat :=
  ((List.range 2).map fun p =>
    if !(s.mxp p).scanning || (s.mxp p).pass == 0 then 0
    else
      let lo := mxBase s p
      let hi := lo + mxLines s p * 192
      let a := (s.drv.shown.map fun e =>
        if lo ≤ e.1 ∧ e.1 < hi then mxIcol s p ((e.1 - lo) % 192 % 3) * mxSteps e.2 else 0).foldl (· + ·) 0
      s.regF R.DRV_VMX 0 10 * a * mxStep s p * 250000 / (32 * (s.mxp p).pass)).foldl (· + ·) 0

/-- Baseplate temperature in whole degrees Celsius. -/
def baseDeg (s : State) : Int := toSigned 16 (s.regF R.THM_BASE 0 16) / 10

/-- The thermal term (R342). -/
def thermTerm (s : State) : Nat :=
  let a := s.regF R.DRV_DERATE 0 7
  let b := s.regF R.DRV_DERATE 8 7
  let t := baseDeg s
  if t ≤ a then 256 else if (b : Int) ≤ t then 0 else (256 * (b - t) / (b - a : Nat)).toNat

/-- A power term: floor(256 × limit ÷ power) above the limit (units of 10 pW). -/
def powerTerm (watts p : Nat) : Nat := if watts * 100000000000 < p then 256 * watts * 100000000000 / p else 256

/-- Recompute the factor (R342, R343). -/
def newFactor (s : State) : State :=
  let th := thermTerm s
  let ps := (List.range 4).map (railPower s)
  let rl := (ps.map (powerTerm 120)).foldl min 256
  let tot := powerTerm (s.regF R.DRV_DERATE 16 9) (ps.foldl (· + ·) 0 + mxPower s)
  let f := min th (min rl tot)
  let old := factor s
  let b (x : Nat) : Nat := b2n (f < 256 && x == f)
  let s1 := s.setReg R.DRV_FACTOR (w32 (f + b th * 512 + b rl * 1024 + b tot * 2048))
  if f < old then raise s1 0x30 3 else s1

/-! Matrix ports (10.7) -/

/-- The latch point of the frame after the present one: the end of the on-window of the last line of pass 31 (R349). -/
def mxLatch (s : State) (p : Nat) : Nat :=
  (s.mxp p).start + 31 * (s.mxp p).pass + (mxLines s p - 1) * mxSlot s p + 512 * mxStep s p

/-- A commit on a matrix page (R349). -/
def mxCommit (s : State) (p : Nat) (ws : List (Nat × Word)) : State :=
  let x := s.mxp p
  if !x.scanning then mxWrite s ws
  else if nowNs s < mxLatch s p then s.setMx p { x with pend := x.pend ++ ws.map fun w => (x.frame + 1, w.1, w.2) }
  else
    let s1 := s.setMx p { x with pend := x.pend ++ ws.map fun w => (x.frame + 2, w.1, w.2) }
    raise (s1.count (R.MX_STAT p) 16 16 1) (0x32 + p) 0

/-- At the latch point the settings committed before it become due for the next scan frame (R349). -/
def mxFrameLatch (s : State) (p : Nat) : State :=
  let x := s.mxp p
  if x.scanning && decide (mxLatch s p ≤ nowNs s) then
    let now := x.pend.filter fun e => decide (e.1 ≤ x.frame + 1)
    let rest := x.pend.filter fun e => !decide (e.1 ≤ x.frame + 1)
    s.setMx p { x with due := x.due ++ now.map (·.2), pend := rest }
  else s

/-- A scan frame starts at `t`: due settings apply, and the frame before it has been shown. A port that they disable stops. -/
def mxStartFrame (s : State) (p t left pass : Nat) (clamped shown : Bool) : State :=
  let x := s.mxp p
  let f := x.frame + 1
  let now := x.due ++ ((x.pend.filter fun e => decide (e.1 ≤ f)).map (·.2))
  let rest := x.pend.filter fun e => !decide (e.1 ≤ f)
  let s1 := mxWrite s now
  let s2 := if shown then s1.setRegF (R.MX_CNT p) 16 16 (s1.regF (R.MX_CNT p) 16 16 + 1) else s1
  let s3 := s2.setMx p ⟨true, f, t, left, pass, clamped, rest, [], none⟩
  if mxEn s3 p then s3 else mxStop s3 p

/-- Between presentations the next frame of the epoch starts on time (R345), with the pass period worked out last. -/
def mxTick1 (s : State) (p : Nat) : State :=
  let x := s.mxp p
  let t := x.start + 32 * x.pass
  let q := x.again.getD (x.pass, x.clamped)
  if x.scanning && decide (0 < x.left) && decide (t ≤ nowNs s) && decide (t < s.drv.next) then
    mxStartFrame s p t (x.left - 1) q.1 q.2 true
  else s
def mxTick (s : State) : State := mxTick1 (mxTick1 s 0) 1

/-- The clamped frame still running at P_{k+1} is stopped and counted (R350). -/
def mxFrameCut (s : State) (p : Nat) : State :=
  let x := s.mxp p
  let due := match s.drv.p with | some _ => decide (s.drv.next ≤ nowNs s) | none => false
  if x.scanning && x.clamped && due && decide (s.drv.next < x.start + 32 * x.pass) then
    raise ((s.count (R.MX_CNT p) 0 16 1).setMx p { x with scanning := false, left := 0 }) (0x32 + p) 4
  else s

/-- The pass period of an epoch of `len` ns (R345), and whether it is clamped. -/
def mxPeriod (s : State) (p len : Nat) : Nat × Bool :=
  let q := len / (32 * mxFpe s p)
  (max q 130208, decide (q < 130208))

/-- P_{k+1} of the epoch that the drive presents has moved (R229, R345): sub-periods and pass period are worked out anew. A
scan frame under way ends with the period it began with (DESIGN CHOICE, log 146). -/
def driveRetime (s : State) : State :=
  match (s.dom (drvDom s)).cur, s.drv.p with
  | some e, some p =>
    let pn := (followOf s (drvDom s) e).p
    if !s.hw.drive || !(s.dom (drvDom s)).running || e.p != p || pn == s.drv.next then s
    else
      let s1 := { s with drv := { s.drv with next := pn, sub := (pn - p) / (10 * s.drv.nsub) } }
      (List.range 2).foldl (fun t m =>
        if (t.mxp m).scanning then
          let q := mxPeriod t m (pn - p)
          (t.setMx m { t.mxp m with again := some q }).setReg (R.MX_PASS m) (w32 q.1)
        else t) s1
  | _, _ => s

/-- The first frame of an epoch [t, t + len) (R345). -/
def mxPresent (s : State) (p t len : Nat) : State :=
  let x := s.mxp p
  if s.drv.dark ≠ 0 ∨ mxStopped s p then mxStop s p
  else
    -- settings due apply before the port's enable and frame count are read
    let s1 := mxStartFrame s p t 0 0 false x.scanning
    if !mxEn s1 p then s1
    else
      let q := mxPeriod s1 p len
      let s2 := s1.setMx p { s1.mxp p with left := mxFpe s1 p - 1, pass := q.1, clamped := q.2 }
      s2.setReg (R.MX_PASS p) (w32 q.1)

/-! Presentation (R330) -/

/-- Store the measured outputs: rail voltages come through their sense offsets, the matrix current follows its reference
(Table 18-1). -/
def storeMeas (s : State) (m : DrvMeas) : State :=
  let s1 := (List.range 4).foldl (fun t r =>
    let x := lget m.rails r (0, 0, 0)
    (t.setRegF (R.DRV_RAILS r) 16 14 (railSense t r x.1)).setReg (R.DRV_RPWR r) (w32 (x.2.1 % 65536 + x.2.2 % 65536 * 65536))) s
  (s1.setRegF R.DRV_MXSUP 0 10 m.vmx).setRegF R.DRV_MXSUP 16 14 (refCurrent s1 0x35 m.imx)

/-- The L watchdog at a P_k (Table 10-2). -/
def lWatchdog (s : State) : State :=
  let w := s.regF R.DRV_CTL 16 16
  let q := if s.drv.fed then 0 else s.drv.quiet + 1
  let s1 := { s with drv := { s.drv with quiet := q } }
  if w ≠ 0 ∧ w ≤ q ∧ !s1.drv.dark.testBit 4 then raise (darkEnter s1 4) 0x30 10 else s1

/-- Causes of dark-safe that no longer hold are left at a P_k (Table 10-2). -/
def darkLeave (s : State) : State :=
  let d := (bitsOf 6 s.drv.dark).foldl (fun a c => if darkHolds s c then a else a - 2 ^ c) s.drv.dark
  { s with drv := { s.drv with dark := d } }

/-- The words the strings present in the epoch that begins; a string off for the whole last epoch loses its measured
voltage, and the outputs use the applied entries from now on (R333, R334, R336). -/
def presentStrings (s : State) : State :=
  (List.range 64).foldl (fun t n =>
    let x := t.str n
    let w := if t.drv.dark = 0 ∧ strEn t n ∧ x.fault = 0 then sgetD t.drv.cur (strAddr t n) 0 else 0
    let y : StrRt := { x with
      wait := false, word := w, vf := if x.ran then x.vf else 0, iset := strIset t n, bin := strBin t n }
    t.setStr n { y with ran := w != 0 && !(t.rail (n / 16)).fault }) s

/-- Presentation at P_k of the drive domain (R330): the current image is presented, sub-periods and scan frames restart,
rails and strings whose faults were cleared resume, and the new derating factor applies. A clamped scan frame that no
MX_FRAME_CUT has stopped yet is cut first (R350). -/
def drivePresentation (s : State) (m : DrvMeas) : State :=
  match (s.dom (drvDom s)).cur with
  | none => s
  | some e =>
    if !s.hw.drive || !(s.dom (drvDom s)).running || decide (nowNs s < e.p) || s.drv.p == some e.p then s
    else
      let s0 := mxFrameCut (mxFrameCut s 0) 1
      let s1 := imagesApply (railMove (storeMeas s0 m)) (time32 e.p)
      let pn := (followOf s (drvDom s) e).p
      let f := s1.slf
      let s2 := darkLeave (lWatchdog { s1 with slf := { f with paths := sdelIf f.paths fun q => decide (0x30 ≤ q) } })
      let nsub := s2.regF R.DRV_PWM 0 11
      let rails := s2.drv.rails.map fun x => { x with wait := false }
      let sub := (pn - e.p) / (10 * nsub)
      let d := { s2.drv with shown := s2.drv.cur, p := some e.p, next := pn, nsub := nsub, sub := sub, rails := rails, fed := false }
      let s3 := presentStrings { s2 with drv := d }
      let s4 := mxPresent (mxPresent s3 0 e.p (pn - e.p)) 1 e.p (pn - e.p)
      railUpdate (newFactor (railUpdate s4))

/-! Measurements and faults -/

/-- The outputs of a drive quantity (Table 18-1) are off in the epoch that is presented: the strings of the rail, every string,
or every column. -/
def qtyOff (s : State) (q : Nat) : Bool :=
  if q < 0x34 then (onNow s (q - 0x30)).isEmpty
  else if q = 0x34 then (List.range 4).all fun r => (onNow s r).isEmpty
  else [0, 1].all fun p => !(s.mxp p).scanning ||
    s.drv.shown.all fun e => e.2 == 0 || !(decide (mxBase s p ≤ e.1) && decide (e.1 < mxBase s p + mxLines s p * 192))

/-- The end of the sub-period in which an on-interval ends now, as up time (R332, R338). -/
def subEnd (s : State) : Nat :=
  let len := 10 * s.drv.sub
  let t := nowNs s - s.drv.p.getD 0
  if len = 0 then s.up else s.up + ((t + len - 1) / len * len - t)

/-- The end of an on-interval of a string (R336, R339): rail and sink voltage in 10 mV, current in mA, ticks of the
interval; the voltage as the rail's sense gives it without its offset, the current as the sink gives it without its
calibrated reference (Table 18-1). -/
def stringMeasurement (s : State) (n vraw vsink iraw ticks : Nat) : State :=
  if !(strOn s n && s.drv.dark == 0) then s
  else
    let vrail := railSense s (n / 16) vraw
    let imeas := refCurrent s 0x34 iraw
    let s0 := railMove s
    let s1 := (s0.setRegF (R.DRV_RAILS (n / 16)) 16 14 vrail).setStr n { s.str n with imeas := imeas }
    let s2 := if 500 ≤ ticks then
        (s1.setStr n { s1.str n with vf := vrail - vsink }).setRail (n / 16) { s1.rail (n / 16) with due := some (subEnd s) }
      else s1
    if vsink < 30 ∧ imeas * 100 * 256 < 95 * (s.str n).iset * factor s then
      raise (s2.count R.DRV_LCNT2 16 16 1) 0x30 2
    else s2

/-- A string fault (R341): 0 OPEN, 1 SHORT. -/
def stringFault (s : State) (n : Nat) (short : Bool) : State :=
  if (s.str n).fault ≠ 0 then s
  else
    let s1 := railMove s
    raise (railUpdate (s1.setStr n { s1.str n with fault := if short then 3 else 2, word := 0, wait := false }))
      0x30 (b2n short)

/-- STR_FCLR0 and STR_FCLR1: clear string faults; a string resumes from the next P_k. -/
def strFclr (s : State) (half : Nat) (mask : Nat) : State :=
  (bitsOf 32 mask).foldl (fun t b =>
    let n := 32 * half + b
    if (t.str n).fault = 0 then t else t.setStr n { t.str n with fault := 0, wait := true }) (railMove s)

/-- A rail fault (R340). -/
def railFault (s : State) (r : Nat) : State :=
  if 4 ≤ r ∨ (s.rail r).fault then s
  else
    let t := railMove s
    raise (railUpdate (t.setRail r { t.rail r with fault := true, wait := false })) 0x30 4

/-- DRV_FCLR.RAIL (R340). -/
def railClear (s : State) (mask : Nat) : State :=
  (bitsOf 4 mask).foldl (fun t r =>
    if (t.rail r).fault then t.setRail r { t.rail r with fault := false, wait := true } else t) (railMove s)

/-- A column fault seen in three consecutive frames (Table 10-5): driving continues. -/
def mxColumnFault (s : State) (p c : Nat) (short : Bool) : State :=
  if 192 ≤ c ∨ !(s.mxp p).scanning then s
  else
    let a := if short then R.MX_CSHORT p (c / 32) else R.MX_COPEN p (c / 32)
    raise (s.setRegB a (c % 32) true) (0x32 + p) (1 + b2n short)

/-- A line short (Table 10-5). -/
def mxLineShort (s : State) (p l : Nat) : State :=
  if 32 ≤ l then s
  else
    let s1 := s.setRegB (R.MX_LSHORT p) l true
    raise (mxStop s1 p) (0x32 + p) 3

/-- A fault of the matrix supply stops both ports (Table 10-5). -/
def mxSupplyFault (s : State) : State :=
  let s1 := s.setRegB R.DRV_MXSUP 15 true
  raise (mxStop (mxStop s1 0) 1) 0x30 5

/-- MXn_FCLR.COL and MXn_FCLR.LINE. -/
def mxClearCols (s : State) (p : Nat) : State :=
  (List.range 6).foldl (fun t i => (t.setReg (R.MX_COPEN p i) 0#32).setReg (R.MX_CSHORT p i) 0#32) s
def mxClearLines (s : State) (p : Nat) : State := s.setReg (R.MX_LSHORT p) 0#32

/-- DRV_CLR.CNT. -/
def drvClr (s : State) : State :=
  ((s.setReg R.DRV_LCNT0 0#32).setReg R.DRV_LCNT1 0#32).setReg R.DRV_LCNT2 0#32

/-! Settings checks -/

/-- The nominal rate of a domain in epochs a second, as a fraction (R219): NUM and FRAC, or the measured word clock. -/
def rateOf (s : State) (d : Nat) : Option (Nat × Nat) :=
  if gSrc s.reg d = 2 then (gridOf s s.reg d).map fun x => (1000000000 * x.den, x.num)
  else some (gNum s.reg d * 1000, if gFrac s.reg d then 1001 else 1000)

/-- The joint rules of a commit on a matrix page (R346, Table 10-13): the lowest register of each rule that it breaks. `g`
reads the settings the commit would leave for port `p`, and staged, pending or applied settings of the other port. -/
def mxJoint (s : State) (g : Nat → Word) (p : Nat) : List Nat :=
  let fpe := fld (g (R.MX_CFG p)) 8 4
  let lines := fld (g (R.MX_CFG p)) 1 6
  let cur (q : Nat) : Nat :=
    if bit (g (R.MX_CFG q)) 0 then
      64 * (fld (g (R.MX_ICOL q)) 0 8 + fld (g (R.MX_ICOL q)) 8 8 + fld (g (R.MX_ICOL q)) 16 8)
    else 0
  (match rateOf s (drvDom s) with
   | some (n, d) => if 960 * d ≤ 32 * fpe * n ∧ 32 * fpe * n ≤ 7680 * d then [] else [offOf (R.MX_CFG p)]
   | none => []) ++
  (if cur 0 + cur 1 ≤ 40000 then [] else [offOf (R.MX_CFG p)]) ++
  (if fld (g (R.MX_BASE p)) 0 27 + lines * 192 ≤ 125829120 then [] else [offOf (R.MX_CFG p)])

/-- Page DRV has been reset while it stays enabled: a domain that is disabled, or DARK in the persisted copy, darkens the outputs
(R325). -/
def drvHolds (s : State) : State :=
  if !s.en 0x30 then s
  else
    let s1 := if (s.dom (drvDom s)).running then s else darkEnter s 2
    if s1.regB R.DRV_CTL 2 then darkEnter s1 1 else s1

/-- What a reset of island 11 leaves of the drive beside its registers (R354): a power-fail warning and a failed health check
still hold the outputs (Table 10-2). -/
def drvReset (s : State) : State := { s with drv := { drv0 with dark := 1 + (s.drv.dark &&& 40) } }

end Sys2Proof.Machine
end

