-- ==== Sys2Proof/Machine/Present.lean ====
section
/-! DEFINITION. Presentation timing (chapter 7): commits to a domain, latch points, surfaces, change-only pushing, cues
and picture checks. -/

namespace Sys2Proof.Machine

/-! Surfaces -/

def srf0 : SrfRt := ⟨0, 0, 0, none, []⟩
def State.srf (s : State) (n : Nat) : SrfRt := sgetD s.pres.srfs n srf0
def State.setSrf (s : State) (n : Nat) (x : SrfRt) : State :=
  { s with pres := { s.pres with srfs := sput s.pres.srfs n x srf0 } }

/-- A surface is live: ACTIVE or HOLD (R234). -/
def srfLive (s : State) (n : Nat) : Bool := (s.srf n).state != 0

/-- The DOMAIN in force for a surface after a commit or write (R617). -/
def srfDomForce (s : State) (n : Nat) : Nat := fld (pendVal s (R.SRF_CTL n)) 2 2

/-- An enabled surface names a domain, as applied or pending, or as `g` leaves it (R220). -/
def surfNames (s : State) (g : Nat → Word) (d : Nat) : Bool :=
  (List.range 64).any fun n =>
    let on (w : Word) : Bool := bit w 0 && fld w 2 2 == d
    on (s.reg (R.SRF_CTL n)) || on (pendVal s (R.SRF_CTL n)) || on (g (R.SRF_CTL n))

/-- Live surfaces (PG_STAT.LIVE). -/
def liveCount (s : State) : Nat := ((List.range 64).filter (srfLive s)).length

/-- The domain of a latched register (Table 7-2): surfaces, domain blocks, staged string entries. -/
def domOfReg (s : State) (a : Nat) : Option Nat :=
  if 0x0A0100 ≤ a ∧ a < 0x0A0500 then some (srfDomForce s ((a - 0x0A0100) / 16))
  else if 0x0D0040 ≤ a ∧ a < 0x0D0140 then some ((a - 0x0D0040) / 0x40)
  else if 0x10000000 ≤ a then some (drvDom s)
  else none

/-- A surface enters ACTIVE (Table 7-5): no digest stored, counts cleared. -/
def srfEnable (s : State) (n : Nat) : State :=
  let dg := sdelIf s.ren.digests fun k => k / 65536 == n
  let s1 := { s with ren := { s.ren with digests := dg } }
  (s1.setReg (R.SRF_CNT n) 0#32).setSrf n { srf0 with state := 1 }

/-- An applied latched register takes effect: string entry words go to their table; a surface whose EN applies as 0
while its domain is stopped is disabled at once (R226). -/
def applyReg (s : State) (a : Nat) (v : Word) : State :=
  if 0x10000000 ≤ a then
    let n := (a - 0x10000000) / 4
    (railMove s).setEntW tSTR n ((a - 0x10000000) % 4) v
  else
    let s1 := s.setReg a v
    if 0x0A0100 ≤ a ∧ a < 0x0A0500 ∧ a % 16 = 0 then
      let n := (a - 0x0A0100) / 16
      if !(s1.dom (fld v 2 2)).running && !bit v 0 && srfLive s1 n then s1.setSrf n { s1.srf n with state := 0 } else s1
    else s1

/-! Pending sets -/

/-- The pending registers of a domain that a latch point applies: all but its own timing-mode registers. -/
def pendOf (s : State) (d : Nat) : List (Nat × PendW) :=
  s.ctl.pend.filter fun e => e.2.dom == d && !(timingRegs d).contains e.1

/-- Insert by commit time. -/
def insertPend (x : Nat × PendW) : List (Nat × PendW) → List (Nat × PendW)
  | [] => [x]
  | y :: ys => if x.2.time < y.2.time then x :: y :: ys else y :: insertPend x ys

/-- Apply the commits of pending registers whose latch point passed before a later commit came (R224). -/
def applyDue (s : State) (d t : Nat) : State :=
  (pendOf s d).foldl (fun u e =>
    match e.2.due with
    | some (v, t0) =>
      if t0 < t then
        applyReg { u with ctl := { u.ctl with pend := sset u.ctl.pend e.1 { e.2 with due := none } } } e.1 v
      else u
    | none => u) s

/-- Apply pending registers in the order of their commit times. -/
def applyPend (s : State) (es : List (Nat × PendW)) : State :=
  (es.foldr insertPend []).foldl (fun t e =>
    let t1 := { t with ctl := { t.ctl with pend := sdel t.ctl.pend e.1 } }
    applyReg t1 e.1 e.2.val) s

/-- Apply a stack or colour entry; the entry it replaces serves items of epochs up to `upto`, or none where it applies as
on an IMMEDIATE page (R205, R226). -/
def applyEng (s : State) (e : EngPend) (upto : Option Nat) : State :=
  let old := (sget (if e.tab = tENGK then s.ren.stack else s.ren.colour) e.idx).getD (entryReset e.tab e.idx)
  let olds := match upto with
    | some k => s.ren.old ++ [⟨e.tab, e.idx, old, k, e.dom⟩]
    | none => s.ren.old.filter fun o => !(o.tab == e.tab && o.idx == e.idx)
  let rest := s.ren.pend.erase e
  if e.tab = tENGK then
    { s with ren := { s.ren with stack := sput s.ren.stack e.idx e.ws (entryReset e.tab e.idx), old := olds, pend := rest } }
  else
    { s with ren := { s.ren with colour := sput s.ren.colour e.idx e.ws (entryReset e.tab e.idx), old := olds, pend := rest } }

/-- Apply the stack and colour entries that wait for a domain and were written before `t`. -/
def applyEngs (s : State) (d t : Nat) (upto : Option Nat) : State :=
  (s.ren.pend.filter fun e => decide (e.time < t) && e.dom == d).foldl
    (fun u e => applyEng u e upto) s

/-- Apply a tile entry (R236). -/
def applyTile (s : State) (e : TilePend) : State :=
  { s with pres := { s.pres with
      tilePend := s.pres.tilePend.erase e, tiles := sput s.pres.tiles e.tile e.ws (entryReset tSRFT e.tile) } }

/-- Fields of a tile entry (Table 7-14). -/
def tileEn (ws : List Word) : Bool := bit (lget ws 0 0#32) 0
def tileSurf (ws : List Word) : Nat := fld (lget ws 0 0#32) 1 6

/-- Apply the tile entries that wait for a domain and were written before `t`. -/
def applyTiles (s : State) (d t : Nat) : State :=
  (s.pres.tilePend.filter fun e => decide (e.time < t) && e.dom == d).foldl applyTile s

/-- Layers of a domain that have pending selections. -/
def pendLayers (s : State) (d : Nat) : List Nat :=
  (s.ing.lays.filter fun e => !e.2.pend.isEmpty && layDom s e.1 == d).map Prod.fst

/-- Step 2 of R227 for registers, windows and layers: what was committed before `t` applies. -/
def applySets (s : State) (d k t : Nat) : State :=
  let s1 := applyPend s ((pendOf s d).filter fun e => decide (e.2.time < t))
  let s2 := applyTiles (applyEngs (applyDue s1 d t) d t (if k = 0 then none else some (k - 1))) d t
  (pendLayers s2 d).foldl (fun u n => latchLayer u n k t) s2

/-! Stopping and changing a domain (7.1, 7.4) -/

/-- A domain stops (R222): its list is flushed, every pending set applies at once, pending selections are shown. -/
def stopDomain (s : State) (d c : Nat) : State :=
  let r := s.dom d
  let s1 := flushList (s.setDom d { r with running := false, bridge := none }) d
  let s2 := applyPend s1 (s1.ctl.pend.filter fun e => e.2.dom == d)
  let s3 := applyTiles (applyEngs s2 d (2 ^ 80) (r.cur.map (·.k))) d (2 ^ 80)
  let s4 := (pendLayers s3 d).foldl (fun u n =>
    match (u.lay n).pend.getLast? with
    | none => u
    | some p0 =>
      let ps := (u.lay n).pend
      let p := ps.foldl (fun a b => if mediaBefore b.media a.media then a else b) p0
      let u1 := u.setLay n { u.lay n with pend := [] }
      showSlot ((ps.filter (· != p)).foldl (fun t q => supersede t n q (some p.slot)) u1) n p c) s3
  if drvDom s4 = d then darkEnter s4 2 else s4

/-- Put committed writes of a latched page into the pending sets (R51). A commit whose latch point has passed at `c` and is
not processed yet still applies there (R224). -/
def addPend (s : State) (ws : List (Nat × Word)) (c req d : Nat) : State :=
  let passed (o : PendW) : Bool := match dueEpoch s o.dom c with | some e => decide (o.time < e.1.l) | none => false
  let put (m : SMap PendW) (w : Nat × Word) : SMap PendW :=
    let due := match sget m w.1 with
      | some o => if passed o && o.dom == d then some (o.val, o.time) else o.due
      | none => none
    sset m w.1 ⟨w.2, c, req, d, due⟩
  { s with ctl := { s.ctl with pend := ws.foldl put s.ctl.pend } }

/-- A commit of page SRF or STR: each write waits for its domain's latch point, or applies at once where that domain is
stopped (R224, R226, R334). -/
def commitLatched (s : State) (page : Nat) (ws : List (Nat × Word)) (c req : Nat) : State :=
  -- the DOMAIN a write of this commit leaves in force (R617)
  let g (a : Nat) : Word := match ws.find? fun w => w.1 == a with | some w => w.2 | none => pendVal s a
  let dOf (a : Nat) : Nat :=
    if 0x10000000 ≤ a then drvDom s else fld (g (R.SRF_CTL ((a - 0x0A0100) / 16))) 2 2
  (List.range 4).foldl (fun t d =>
    let mine := ws.filter fun w => dOf w.1 == d
    if mine = [] then t
    else if !(s.dom d).running then mine.foldl (fun u w => applyReg u w.1 w.2) t
    else
      let t1 := addPend t mine c req d
      if inLead s d c then commitLate t1 d page req else t1) s

/-- The joint rule of a commit on page SRF (R220): no surface is enabled on a disabled domain. The registers that break
it. -/
def srfJoint (g : Nat → Word) (domOn : Nat → Bool) : List Nat :=
  ((List.range 64).filter fun n => let w := g (R.SRF_CTL n); bit w 0 && !domOn (fld w 2 2)).map fun n => offOf (R.SRF_CTL n)

/-- A write of SRF_CTLn would change DOMAIN while EN, as written or applied, is 1. -/
def srfDomainLocked (s : State) (n : Nat) (v : Word) : Bool :=
  let a := R.SRF_CTL n
  let w := writtenVal s a
  fld v 2 2 != fld w 2 2 && (bit v 0 || bit w 0 || bit (pendVal s a) 0 || bit (s.reg a) 0)

/-! The work of an epoch (7.5) -/

/-- The keepalive slice of an epoch and the number of slices (R240). -/
def keepSlice (s : State) (n k : Nat) : Option (Nat × Nat) :=
  let m := s.regF (R.SRF_CTL n) 16 7
  let ka := s.regF (R.SRF_HOLD n) 16 16
  if (s.srf n).state = 2 then (if k % ka = 0 then some (k / ka % m, m) else none) else some (k % m, m)

/-- A tile is in the slice. -/
def inSlice (sl : Option (Nat × Nat)) (tile : Nat) : Bool :=
  match sl with
  | some (x, m) => tile % m == x
  | none => false

/-- The epoch of a surface closes (R241). -/
def closeEpoch (s : State) (n : Nat) (e : OpenEp) : State :=
  let x := s.srf n
  let open_ := x.open_.filter fun o => o.k != e.k
  let y := { x with open_ := open_, changed := min e.changed 255 }
  if 0 < e.changed then
    s.setSrf n { y with static := 0, decided := if x.decided = some true then none else x.decided }
  else if e.bad then s.setSrf n y
  else
    let st := satAdd 16 x.static 1
    let hold := x.state == 1 && s.regB (R.SRF_CTL n) 1 && decide (s.regF (R.SRF_HOLD n) 0 16 ≤ st)
    s.setSrf n { y with static := st, decided := if hold then some true else x.decided }

/-- The open epoch of a surface with the low number bits `e`. -/
def openEp (s : State) (n e : Nat) : Option OpenEp := (s.srf n).open_.find? fun o => o.k % 2 ^ 32 == e

/-- Replace an open epoch, and close it where no item is left. -/
def setOpen (s : State) (n : Nat) (e : OpenEp) : State :=
  let x := s.srf n
  let s1 := s.setSrf n { x with open_ := x.open_.map fun o => if o.k = e.k then e else o }
  if e.tiles = [] then closeEpoch s1 n e else s1

/-- The layers that a tile of surface `n` samples in epoch `k` (R201): those that its runs compose. -/
def tileLayers (s : State) (n k : Nat) (ws : List Word) : List Nat :=
  let c : RenCtx := ⟨n, k % 2 ^ 32, k, [], ⟨[], [], [], [], [], 0⟩⟩
  (List.range (fld (lget ws 2 0#32) 0 13)).flatMap fun j =>
    let r := runOf (s.ent tMAP (fld (lget ws 1 0#32) 0 24 + j))
    if r.epl = 0 then [] else (runSlots s c r.layer).map (·.2.1)

/-- A layer that the tile samples was divergent in the epoch (R455, R460). -/
def divergentAt (s : State) (n d k : Nat) (ws : List Word) : Bool :=
  s.pair.diverg.any fun x => x.2.1 == d && x.2.2 == k && (tileLayers s n k ws).contains x.1

/-- Note that a tile was pushed or counted as missed in epoch `k` (R243); epochs that an EPOCH field can name no more are
forgotten (R218). -/
def tellTile (s : State) (n tile k : Nat) : State :=
  let key := n * 65536 + tile
  let l := k :: (sgetD s.pres.told key []).filter fun x => x != k && decide (k ≤ x + 2 ^ 31)
  { s with pres := { s.pres with told := sput s.pres.told key l [] } }

/-- A tile misses epoch `k`: it counts once for an epoch in which it is not pushed (R243). -/
def missTile (s : State) (n tile k : Nat) : State :=
  if (sgetD s.pres.told (n * 65536 + tile) []).contains k then s
  else raise ((tellTile s n tile k).count (R.SRF_CNT n) 0 16 1) 0x0A 3

/-- The machinery's RENDER of a tile and epoch no longer waits in a STOPPED flow. -/
def unhold (s : State) (n tile k : Nat) : State :=
  { s with pres := { s.pres with held := s.pres.held.filter fun h => !(h.surf == n && h.tile == tile && h.k == k) } }

/-- The machinery's RENDER that waits in a STOPPED flow, by the low bits of its epoch. -/
def heldOf (s : State) (n tile e : Nat) : Option HeldRender :=
  s.pres.held.find? fun h => h.surf == n && h.tile == tile && h.k % 2 ^ 32 == e

/-- A RENDER item of a tile ended without completing (R241, R243): the tile misses this epoch. One that a STOPPED flow holds
may complete after all (R132). -/
def renderLost (s : State) (n tile e : Nat) (held : Bool) : State :=
  match openEp s n e with
  | none => match heldOf s n tile e with
    | some h => if held then s else unhold s n tile h.k
    | none => s
  | some o =>
    match sget o.tiles tile with
    | none => if held then s else unhold s n tile o.k
    | some ws =>
      let s1 := missTile s n tile o.k
      let s2 := if held then
          { s1 with pres := { s1.pres with held := s1.pres.held ++ [⟨n, tile, o.k, ws, o.p, o.ddl, o.slice⟩] } }
        else s1
      let s3 := setOpen s2 n { o with tiles := sdel o.tiles tile, bad := true }
      shadowEnded s3 o.k n tile none (divergentAt s3 n (srfDom s n) o.k ws)

/-- The RENDER item of a tile entry for an epoch (Table 7-6). -/
def renderItemOf (s : State) (d tile : Nat) (ws : List Word) (e : EpochPt) : Item :=
  let w (k : Nat) : Word := lget ws k 0#32
  let flow := fld (w 0) 8 8
  let h : ItemHead := ⟨kRender, flow, d + 1, fClass s flow != 0, fld (w 0) 24 8, time32 e.l, time32 (e.p - guardNs s d),
    fld (w 2) 16 16, 0, true⟩
  mkItem h [tileSurf ws + tile * 256, fld (w 1) 0 24, fld (w 2) 0 13, fld (w 3) 0 24, e.k]

/-- The tiles whose RENDER items an epoch enqueues, in ascending order (Table 7-6, R459). -/
def epochTiles (s : State) (d k : Nat) : SMap (List Word) :=
  s.pres.tiles.filter fun t =>
    tileEn t.2 && srfLive s (tileSurf t.2) && srfDom s (tileSurf t.2) == d &&
    (s.pair.role != .standby || fld (lget t.2 4 0#32) 0 5 == 16 || sampleTile t.1 k)

/-- Step 5 of R227: RENDER items; each surface's epoch opens, and a refused item counts as failed (R241). -/
def enqueueRenders (s : State) (d : Nat) (e : EpochPt) : State :=
  let ts := epochTiles s d e.k
  let surfs := (List.range 64).filter fun n => srfLive s n && srfDom s n == d
  let s1 := surfs.foldl (fun t n =>
    let mine := ts.filter fun x => tileSurf x.2 == n
    let o : OpenEp := ⟨e.k, e.p, time32 (e.p - guardNs s d), mine, keepSlice s n e.k, 0, false⟩
    let t1 := t.setSrf n { t.srf n with open_ := (t.srf n).open_ ++ [o] }
    if mine = [] then closeEpoch t1 n o else t1) s
  ts.foldl (fun t x =>
    let r := enqueueIn t (renderItemOf t d x.1 x.2 e)
    if r.2 then r.1 else renderLost r.1 (tileSurf x.2) x.1 (e.k % 2 ^ 32) false) s1

/-- Rectangle fields (Table 7-17). -/
def chkEn (s : State) (n : Nat) : Bool := s.entF tCHKR n 0 0 1 = 1
def chkEndp (s : State) (n : Nat) : Bool := s.entF tCHKR n 0 1 1 = 1
def chkPeriod (s : State) (n : Nat) : Nat := s.entF tCHKR n 0 24 8

/-- Step 5 of R227: the periodic CHECK items of epoch `e`; the next latch point is `l1`. -/
def enqueueChecks (s : State) (d : Nat) (e : EpochPt) (l1 : Nat) : State :=
  (List.range 64).foldl (fun t n =>
    if chkEn t n && chkPeriod t n != 0 && e.k % chkPeriod t n == 0 && srfDom t (chkSurf t n) == d then
      let h : ItemHead := ⟨kCheck, t.entF tCHKR n 0 16 8, d + 1, true, 0, time32 e.l, time32 l1, t.entF tCHKR n 4 0 16, 0, true⟩
      (enqueueIn t (mkItem h [n + t.entF tCHKR n 0 2 1 * 64, e.k])).1
    else t) s

/-- Step 4 of R227: the surfaces of the domain change state (Table 7-5). -/
def surfaceSteps (s : State) (d : Nat) : State :=
  (List.range 64).foldl (fun t n =>
    if srfDom t n != d then t
    else
      let x := t.srf n
      let en := t.regB (R.SRF_CTL n) 0
      if x.state = 0 then (if en then srfEnable t n else t)
      else if !en then t.setSrf n { x with state := 0, decided := none }
      else match x.decided with
        | some true => raise ((t.setSrf n { x with state := 2, decided := none }).count (R.SRF_CNT n) 16 16 1) 0x0A 1
        | some false => t.setSrf n { x with state := 1, decided := none }
        | none => t) s

/-- The bridge latch point (R232): the new timing applies, and the change is announced. -/
def bridgeLatch (s : State) (d : Nat) (b : Bridge) : State :=
  let ps := s.ctl.pend.filter fun e => (timingRegs d).contains e.1
  let s1 := applyPend s ps
  let r := s1.dom d
  let s2 := s1.setDom d { r with grid := b.grid, bridge := none, hist := r.segs }
  let s3 := raise s2 0x0D 1
  let surfs := (List.range 64).filter fun n => s3.regB (R.SRF_CTL n) 0 && srfDom s3 n == d
  if surfs = [] then s3
  else raise (surfs.foldl (fun t n => t.setRegB (R.SRF_STAT n) 2 true) s3) 0x0A 0

/-- The layers of a domain shown from a latch point, for the EPOCH message (R455): frames that LAY_FRAMEn selected have no
number and reach the standby as mirrored writes. -/
def epochLayers (s : State) (d : Nat) : List EpLayer :=
  s.ing.lays.filterMap fun e =>
    if layDom s e.1 == d && (shownSlot s e.1).isSome then e.2.shownFnum.map fun f => ⟨e.1, f, e.2.shownInc⟩ else none

/-- A latch point is processed for epoch `e` (R227): `sets` is step 2. -/
def processLatch (s : State) (d : Nat) (e : EpochPt) (br : Bool) (sets : State → State) : State :=
  let r := s.dom d
  let s1 := match br, r.bridge with
    | true, some b => bridgeLatch s d b
    | _, _ => s
  let s2 := sets s1
  let skipped := e.k - r.next.k
  let s3 := if skipped = 0 then s2 else raise (s2.count (R.TDM_STAT d) 16 16 skipped) 0x0D 2
  let s4 := (s3.setReg (R.TDM_EP_LO d) (w32 e.k)).setReg (R.TDM_EP_HI d) (w32 (e.k / 2 ^ 32))
  let r1 := { s4.dom d with cur := some e }
  let s5 := s4.setDom d r1
  let s6 := showNext (s5.setDom d { r1 with next := followOf s5 d e }) d
  let s7 := enqueueRenders (surfaceSteps s6 d) d e
  enqueueChecks s7 d e (s7.dom d).next.l

/-- The next latch point of a domain where it is due at `t` (R227). An active member sends an EPOCH message (Table 14-4). -/
def latchUntil (s : State) (d t : Nat) : State :=
  match dueEpoch s d t with
  | none => s
  | some (e, br) =>
    let s1 := processLatch s d e br fun t => applySets t d e.k e.l
    if s.pair.role = .active then streamSend s1 (.epoch d e.k (epochLayers s1 d)) else s1

/-- LATCH_POINT of a domain (R227). A standby waits for the EPOCH message or its limit (R454). -/
def latchPoint (s : State) (d : Nat) : State :=
  if s.pair.role = .standby then s else latchUntil s d (nowNs s)

/-- The writes of a commit to page TDM for a running domain (R222, R224, R229). -/
def commitRunning (s : State) (d : Nat) (ws : List (Nat × Word)) (c req : Nat) : State :=
  let isT (w : Nat × Word) : Bool := (timingRegs d).contains w.1
  if ws.any fun w => w.1 == R.TDM_CTL d && !bit w.2 0 then
    let s1 := stopDomain s d c
    ws.foldl (fun t w => t.setReg w.1 w.2) s1
  else
    let changes := (ws.filter isT).any fun w => pendVal s w.1 != w.2
    let ts := if changes then ws.filter isT else []
    let rest := ws.filter fun w => !isT w
    let s1 := if changes then driveRetime (placeBridge (addPend s ts c req d) d c) else s
    let s2 := addPend s1 rest c req d
    if (rest != [] || !changes) && inLead s d c then commitLate s2 d 0x0D req else s2

/-- The writes of a commit to page TDM that belong to one domain (R221, R226). A commit at or after a bridge latch point that
is not processed yet finds the new timing in force (R233). -/
def commitDomain (s : State) (d : Nat) (ws : List (Nat × Word)) (c req : Nat) : State :=
  if ws = [] then s
  else if !(s.dom d).running then
    let s1 := ws.foldl (fun t w => t.setReg w.1 w.2) s
    -- one that was enabled and has not started is disabled like one that runs (R118)
    if gEn s1.reg d then startDomain s1 d c else if gEn s.reg d then flushList s1 d else s1
  else
    match (s.dom d).bridge with
    | some b => commitRunning (if b.l ≤ c then latchPoint s d else s) d ws c req
    | none => commitRunning s d ws c req

/-- A commit of page TDM. -/
def commitTdm (s : State) (ws : List (Nat × Word)) (c req : Nat) : State :=
  (List.range 4).foldl (fun t d => commitDomain t d (ws.filter fun w => domOfReg s w.1 == some d) c req) s

/-! Change-only pushing (7.6) -/

/-- The PUSH item of a tile (Table 7-6). -/
def pushItemOf (s : State) (ws : List Word) (p ddl e : Nat) (keep : Bool) : Item :=
  let w (k : Nat) : Word := lget ws k 0#32
  let flow := fld (w 0) 16 8
  let port := fld (w 4) 0 5
  let len := fld (w 5) 0 16
  let h : ItemHead := ⟨kPush, flow, 0, fClass s flow == 1, fld (w 1) 24 8, 0, ddl, 1, 0, true⟩
  mkItem h
    [port + b2n keep * 1024 + fld (w 4) 16 12 * 4096, fld (w 3) 0 24, len + nframe s port len * 65536, nsOf p,
     secOf p, tileSurf ws, e]

/-- The PUSH that a completed RENDER of epoch `k` causes (R240): where its tile changed or lies in the slice. -/
def renderPush (s : State) (n tile k : Nat) (ws : List Word) (p ddl : Nat) (slice : Option (Nat × Nat)) (changed : Bool) : State :=
  if changed || inSlice slice tile then
    tellTile (enqueueIn s (pushItemOf s ws (time32 p) ddl (k % 2 ^ 32) (!changed))).1 n tile k
  else s

/-- A change seen by the machinery's own item ends HOLD and the static count (R241, R242). -/
def seenChange (s : State) (n : Nat) (changed : Bool) : State :=
  let x := s.srf n
  if changed && x.state == 2 then raise (s.setSrf n { x with static := 0, decided := some false }) 0x0A 2 else s

/-- A change that a machine item shows after its epoch has counted it as failed: it counts with the epoch's tiles while the
epoch is open, and ends the static count afterwards (R241). -/
def changedLate (s : State) (n e : Nat) (changed : Bool) : State :=
  match openEp s n e with
  | some o => setOpen s n { o with changed := o.changed + b2n changed }
  | none =>
    let x := s.srf n
    if changed then s.setSrf n { x with static := 0, decided := if x.decided = some true then none else x.decided } else s

/-- A RENDER item has completed with digest `dg` (R214, R240-R242, R619): the PUSH is enqueued before the posts. -/
def renderDone (s : State) (i : Item) (dg : Nat) : State :=
  let n := i.f 6 0 6
  let tile := i.f 6 8 16
  let e := (i.word 10).toNat
  let key := n * 65536 + tile
  let changed := sget s.ren.digests key != some dg
  let s1 := { s with ren := { s.ren with digests := sset s.ren.digests key dg } }
  let d := srfDom s n
  if i.mach then
    match (openEp s1 n e).bind fun o => (sget o.tiles tile).map fun ws => (o, ws) with
    | some (o, ws) =>
      let s2 := renderPush (seenChange s1 n changed) n tile o.k ws o.p o.ddl o.slice changed
      let s3 := setOpen s2 n { o with tiles := sdel o.tiles tile, changed := o.changed + b2n changed }
      shadowEnded s3 o.k n tile (some dg) (divergentAt s3 n d o.k ws)
    | none =>
      -- its epoch has counted it as failed and RETRY ran it again: the change counts as of a closing epoch (R241)
      let s2 := if srfLive s1 n then changedLate (seenChange s1 n changed) n e changed else s1
      match heldOf s2 n tile e with
      | some h => renderPush (unhold s2 n tile h.k) n tile h.k h.ws h.p h.ddl h.slice changed
      | none => s2
  else
    let ws := (sget s1.pres.tiles tile).getD (entryReset tSRFT tile)
    let m := tileSurf ws
    let dm := srfDom s1 m
    let k := fullEpoch s1 dm e
    let p := (epochOf s1 dm k).p
    if tileEn ws && srfLive s1 m then
      renderPush s1 m tile k ws p (time32 (p - guardNs s1 dm)) (keepSlice s1 m k) changed
    else s1

/-- A RENDER item that the host enqueued failed, expired or was lost (R131, R243): its tile misses the item's epoch, where its
completion could have pushed it (R619). -/
def hostRenderLost (s : State) (tile e : Nat) : State :=
  let ws := (sget s.pres.tiles tile).getD (entryReset tSRFT tile)
  let n := tileSurf ws
  if tileEn ws && srfLive s n then missTile s n tile (fullEpoch s (srfDom s n) e) else s

/-- RENDER_COMPLETE on an engine: the endpoint words are written, and the item completes or ends with error status
(R194, R214). -/
def renderComplete (s : State) (eng : Nat) (ue : Ue) : State :=
  match svcOf s (.engine eng) with
  | none => s
  | some v =>
    if v.item.kind ≠ kRender then s
    else match renderItem s v.item v.reads ue with
      | (s1, none) => failItem s1 v 2
      | (s1, some dg) => completeItem (renderDone s1 v.item dg) v

/-! Cues (7.7) -/

/-- A CUE item (Table 7-6). -/
def cueItem (cue dom e nbt : Nat) : Item :=
  let h : ItemHead := ⟨kCue, 245, if dom = 4 then 5 else dom + 1, false, 0, nbt, noTime, 1, 0, true⟩
  mkItem h [cue + dom * 4096, e]

/-- Not-before time of a cue for epoch `e` of a domain: L_E less the cue lead (R245). -/
def cueTime (s : State) (dom e : Nat) : Nat :=
  time32 ((epochOf s dom e).l - s.regF (R.TDM_GUARD dom) 16 16 * 1000)

/-- The last epoch number of a domain that TDM_EPd shows. -/
def shownEp (s : State) (d : Nat) : Nat := (s.reg (R.TDM_EP_HI d)).toNat * 2 ^ 32 + (s.reg (R.TDM_EP_LO d)).toNat

/-- Arming is rejected with STATE (R245). -/
def cueArmBad (s : State) (dom e : Nat) : Bool := dom < 4 && (!(s.dom dom).running || decide (e ≤ shownEp s dom))

/-- Arm a cue for an epoch or a time (R245). -/
def cueArm (s : State) (cue dom lo hi : Nat) : State :=
  if dom = 4 then (enqueueIn s (cueItem cue 4 0 (hi * 1000000000 + lo))).1
  else
    let e := hi * 2 ^ 32 + lo
    (enqueueIn s (cueItem cue dom (e % 2 ^ 32) (cueTime s dom e))).1

/-- A cue that completed chains to its NEXT (R248); where R245 would reject the arming, the chain ends. -/
def cueChain (s : State) (i : Item) : State :=
  let cue := i.f 6 0 12
  let dom := i.f 6 12 3
  if s.entF tTDMQ cue 2 12 1 = 0 then s
  else
    let nx := s.entF tTDMQ cue 2 0 12
    let dl := s.entF tTDMQ cue 2 16 16
    if dom = 4 then (enqueueIn s (cueItem nx 4 0 (i.nbt + dl * 1000000))).1
    else
      let e := fullEpoch s dom (i.word 7).toNat + dl
      if cueArmBad s dom e then s else (enqueueIn s (cueItem nx dom (e % 2 ^ 32) (cueTime s dom e))).1

/-- CUE items armed and not yet run (TDM_QPEND). -/
def cuesArmed (s : State) : Nat := (s.flow 245).queue.length + (delayedOf s 245).length

/-! Picture checks (7.8) -/

def chk0 : ChkRt := ⟨[], 0, 0, 0, 0, 0, 0, 0, 0, 0, []⟩
def State.chk (s : State) (n : Nat) : ChkRt := sgetD s.pres.chks n chk0
def State.setChk (s : State) (n : Nat) (x : ChkRt) : State :=
  { s with pres := { s.pres with chks := sput s.pres.chks n x chk0 } }

/-- Epoch `a` is later than epoch `b` (R251). -/
def later32 (a b : Nat) : Bool :=
  let x := (a + 2 ^ 32 - b) % 2 ^ 32
  decide (0 < x) && decide (x < 2 ^ 31)

/-- The valid runs of the enabled tiles of a surface, each with the tile's egress offset. -/
def surfRuns (s : State) (n : Nat) : List (Run × Nat) :=
  (((s.pres.tiles.filter fun t => tileEn t.2 && tileSurf t.2 == n).map fun t =>
    let r0 := fld (lget t.2 1 0#32) 0 24
    let nr := fld (lget t.2 2 0#32) 0 13
    ((validRuns s).filter fun i => decide (r0 ≤ i) && decide (i < r0 + nr)).map fun i =>
      (runOf (s.ent tMAP i), fld (lget t.2 3 0#32) 0 24))).flatten

/-- Insert an endpoint with its egress offset in ascending order; the first tile found gives its address. -/
def insertEp (x : Nat × Nat) : List (Nat × Nat) → List (Nat × Nat)
  | [] => [x]
  | y :: ys => if x.1 < y.1 then x :: y :: ys else if x.1 = y.1 then y :: ys else y :: insertEp x ys

/-- The endpoints of a CANVAS rectangle (R249). -/
def canvasEps (s : State) (n : Nat) : List (Nat × Nat) :=
  let a := s.entW tCHKR n 1
  let b := s.entW tCHKR n 2
  let x0 := fld a 0 14
  let y0 := fld a 16 14
  let x1 := fld b 0 15
  let y1 := fld b 16 15
  let inside (r : Run) (i : Nat) : Bool :=
    let x : Int := (r.x0 + i * r.dx) / 256
    let y : Int := (r.y0 + i * r.dy) / 256
    decide ((x0 : Int) ≤ x) && decide (x < x1) && decide ((y0 : Int) ≤ y) && decide (y < y1)
  let eps := ((surfRuns s (chkSurf s n)).map fun q =>
    (((List.range (q.1.nlamp + 1)).filter (inside q.1)).map fun i =>
      (List.range q.1.epl).map fun c => (q.1.first + i * q.1.epl + c, q.2)).flatten).flatten
  eps.foldl (fun l e => insertEp e l) []

/-- The CRC of a rectangle from the egress buffer (R250). -/
def chkCrc (s : State) (n : Nat) : Nat :=
  if chkEndp s n then
    let first := s.entF tCHKR n 1 0 25
    let count := s.entF tCHKR n 2 0 17
    let runs := surfRuns s (chkSurf s n)
    let word (ep : Nat) : List Byte :=
      match runs.find? fun q => decide (q.1.span.1 ≤ ep) && decide (ep < q.1.span.2) with
      | some q => beBytes 2 (egrWord s (q.2 * 16 + 2 * ep))
      | none => beBytes 2 0
    (List.range count).foldl (fun c k => crcStep c (word (first + k))) 0xFFFFFFFF ^^^ 0xFFFFFFFF
  else
    ((canvasEps s n).foldl (fun c e => crcStep c (beBytes 2 (egrWord s (e.2 * 16 + 2 * e.1)))) 0xFFFFFFFF) ^^^ 0xFFFFFFFF

/-- Record a SKIPPED result (R253). -/
def chkSkipped (s : State) (n e : Nat) : State :=
  raise (s.setChk n { s.chk n with last := 4, epoch := e }) 0x0E 2

/-- Compare with the queue of expected values (R252). -/
def chkCompare (s : State) (n e crc : Nat) : State :=
  let x := s.chk n
  let stale := x.queue.takeWhile fun q => later32 e q.1
  let q := x.queue.drop stale.length
  let y := { x with stale := satAdd 16 x.stale stale.length, epoch := e, crc := crc }
  match q with
  | h :: t =>
    if h.1 = e then
      if h.2 = crc then s.setChk n { y with queue := t, last := 1 }
      else raise (s.setChk n { y with queue := t, last := 2, mismatch := satAdd 16 y.mismatch 1 }) 0x0E 0
    else raise (s.setChk n { y with queue := q, last := 3, noexp := satAdd 16 y.noexp 1 }) 0x0E 3
  | [] => raise (s.setChk n { y with queue := [], last := 3, noexp := satAdd 16 y.noexp 1 }) 0x0E 3

/-- Hand an echo request to the framer of the rectangle's port (R254, Table 8-4). -/
def echoRequest (s : State) (n e cls flow crc : Nat) : State :=
  let port := s.entF tCHKR n 3 0 5
  let node := s.entF tCHKR n 3 16 12
  let first := s.entF tCHKR n 1 0 25
  let count := s.entF tCHKR n 2 0 17
  let p := time32 (epochP s (srfDom s (chkSurf s n)) e)
  let waddr := match (surfRuns s (chkSurf s n)).find? fun q => decide (q.1.span.1 ≤ first) && decide (first < q.1.span.2) with
    | some q => q.2 * 8 + first
    | none => first
  let x := s.chk n
  let w : EchoWait := ⟨port, node, first, count, p, crc, p + s.regF R.CHK_ECHOTO 0 16 * 1000⟩
  let s1 := s.setChk n { x with elast := 4, echoes := x.echoes ++ [w] }
  handFrame s1 port (ctlFrame 2 node flow cls p (beBytes 4 first ++ beBytes 4 count ++ beBytes 4 waddr) 0 false)

/-- CHECK_COMPLETE on an engine (R249-R255, R459). -/
def checkComplete (s : State) (eng : Nat) : State :=
  match svcOf s (.engine eng) with
  | none => s
  | some v =>
    if v.item.kind ≠ kCheck then s
    else
      let n := v.item.f 6 0 6
      let echo := v.item.f 6 6 1 = 1
      let e := (v.item.word 7).toNat
      if !chkEn s n then failItem s v 2
      else if echo ∧ (!chkEndp s n ∨ s.entF tCHKR n 3 0 5 = 16) then failItem s v 2
      else if s.pair.role = .standby then
        let x := s.chk n
        completeItem (s.setChk n { x with queue := x.queue.dropWhile fun q => !later32 q.1 e }) v
      else if v.late && (s.dom (srfDom s (chkSurf s n))).running then completeItem (chkSkipped s n e) v
      else
        let crc := chkCrc s n
        let s1 := chkCompare s n e crc
        completeItem (if echo then echoRequest s1 n e (fClass s v.flow) v.flow crc else s1) v

/-- Errors of an expected-value push (R251). -/
def expPushErr (s : State) (n e : Nat) : Option Err :=
  let q := (s.chk n).queue
  if 8 ≤ q.length then some .busy
  else match q.getLast? with
    | some l => if later32 e l.1 then none else some .state
    | none => none

/-- CHK_XOP.PUSH and CHK_XOP.FLUSH (R251). -/
def expPush (s : State) (n e crc : Nat) : State :=
  s.setChk n { s.chk n with queue := (s.chk n).queue ++ [(e, crc)] }
def expFlush (s : State) (n : Nat) : State := s.setChk n { s.chk n with queue := [] }

/-- An ECHO_REP (R254): matched by port, node, endpoints and presentation time; a later reply is discarded. -/
def echoRep (s : State) (port node first count p crc : Nat) : State :=
  -- a standby's reply unit handles no reply (R459)
  if s.pair.role = .standby then s else
  let same (w : EchoWait) : Bool := w.port == port && w.node == node && w.first == first && w.count == count && w.p == p
  match (List.range 64).find? fun n => (s.chk n).echoes.any fun w => same w && decide (now32 s < w.limit) with
  | none => s
  | some n =>
    match (s.chk n).echoes.find? same with
    | none => s
    | some w =>
      let x := s.chk n
      let y := { x with echoes := x.echoes.erase w, ecrc := crc }
      if w.crc = crc then s.setChk n { y with elast := 1 }
      else raise (s.setChk n { y with elast := 2, echoBad := satAdd 16 x.echoBad 1 }) 0x0E 1

/-- ECHO_TIMEOUT of a rectangle (R254). -/
def echoTimeout (s : State) (n : Nat) : State :=
  match (s.chk n).echoes.find? fun w => decide (w.limit ≤ now32 s) with
  | none => s
  | some w =>
    let x := s.chk n
    raise (s.setChk n { x with echoes := x.echoes.erase w, elast := 3, echoBad := satAdd 16 x.echoBad 1 }) 0x0E 1

/-- A CHECK item expired (R253). -/
def chkExpired (s : State) (i : Item) : State := chkSkipped s (i.f 6 0 6) (i.word 7).toNat

/-! Entries -/

/-- Errors of a tile entry (Table 7-14): error and word. -/
def tileErrors (s : State) (ws : List Word) : List (Err × Nat) :=
  let w (k : Nat) : Word := lget ws k 0#32
  let port := fld (w 4) 0 5
  let node := fld (w 4) 16 12
  (if 16777216 < fld (w 1) 0 24 + fld (w 2) 0 13 then [(Err.range, 2)] else []) ++
  (if 251658240 < (fld (w 3) 0 24 + fld (w 5) 0 16) * 16 then [(Err.range, 3)] else []) ++
  (if port = 16 ∧ !s.hw.drive then [(Err.unmapped, 4)] else []) ++
  (if port ≤ 16 ∧ (if port = 16 then node ≠ 0 else node = 0 ∨ node = 4095) then [(Err.range, 4)] else [])

/-- A tile entry is written (R236): applied at once where its surface's domain is stopped. -/
def tileWritten (s : State) (i : Nat) (ws : List Word) (c : Nat) : State :=
  let s1 := s.setEnt tSRFT i ws
  let d := srfDomForce s (tileSurf ws)
  let e : TilePend := ⟨i, ws, c, d⟩
  if (s.dom d).running then
    { s1 with pres := { s1.pres with tilePend := s1.pres.tilePend ++ [e] } }
  else applyTile s1 e

/-- A stack or colour entry is written (R205): applied at once where its surface's domain is stopped. -/
def engWritten (s : State) (tab i : Nat) (ws : List Word) (c : Nat) : State :=
  let s1 := s.setEnt tab i ws
  let d := srfDomForce s (engSurf tab i)
  let e : EngPend := ⟨tab, i, ws, c, d⟩
  if (s.dom d).running then
    { s1 with ren := { s1.ren with pend := s1.ren.pend ++ [e] } }
  else applyEng s1 e none

/-- Errors of a rectangle entry (Table 7-17). -/
def rectErrors (s : State) (ws : List Word) : List (Err × Nat) :=
  let w (k : Nat) : Word := lget ws k 0#32
  let endp := bit (w 0) 1
  let aecho := bit (w 0) 2
  let port := fld (w 3) 0 5
  let node := fld (w 3) 16 12
  (if aecho && !endp then [(Err.range, 0)] else []) ++
  (if endp then
    (if fld (w 1) 25 7 ≠ 0 then [(Err.reserved, 1)] else []) ++
    (if fld (w 2) 17 15 ≠ 0 then [(Err.reserved, 2)] else []) ++
    (if fld (w 2) 0 17 = 0 ∨ 65536 < fld (w 2) 0 17 ∨ 33554432 < fld (w 1) 0 25 + fld (w 2) 0 17 then [(Err.range, 2)] else []) ++
    (if port = 16 ∧ !s.hw.drive then [(Err.unmapped, 3)] else []) ++
    (if 16 < port ∨ (port = 16 ∧ (aecho ∨ node ≠ 0)) ∨ (port < 16 ∧ (node = 0 ∨ node = 4095)) then [(Err.range, 3)] else [])
   else
    (if fld (w 1) 14 2 ≠ 0 ∨ fld (w 1) 30 2 ≠ 0 then [(Err.reserved, 1)] else []) ++
    (if fld (w 2) 15 1 ≠ 0 ∨ fld (w 2) 31 1 ≠ 0 then [(Err.reserved, 2)] else []) ++
    (if 8191 < fld (w 1) 0 14 ∨ 8191 < fld (w 1) 16 14 then [(Err.range, 1)] else []) ++
    (if 8192 < fld (w 2) 0 15 ∨ 8192 < fld (w 2) 16 15 ∨ fld (w 2) 0 15 ≤ fld (w 1) 0 14 ∨ fld (w 2) 16 15 ≤ fld (w 1) 16 14
     then [(Err.range, 2)] else []) ++
    (if port ≠ 0 ∨ node ≠ 0 then [(Err.range, 3)] else []))

/-- A rectangle entry is written: its queue empties and its counts are cleared; echo replies under way are still awaited
(R254). -/
def rectWritten (s : State) (i : Nat) (ws : List Word) : State :=
  (s.setEnt tCHKR i ws).setChk i { chk0 with echoes := (s.chk i).echoes }

/-- Errors of a cue and of an action entry (Table 7-11). -/
def cueErrors (ws : List Word) : List (Err × Nat) :=
  let w (k : Nat) : Word := lget ws k 0#32
  (if 65536 < fld (w 1) 0 16 + fld (w 0) 8 7 then [(Err.range, 1)] else []) ++
  (if bit (w 2) 12 && fld (w 2) 16 16 == 0 then [(Err.range, 2)] else [])
def actionErrors (ws : List Word) : List (Err × Nat) :=
  if fld (lget ws 0 0#32) 0 2 ≠ 0 then [(Err.range, 0)] else []

/-- A soft reset of page TDM (R49, R257): its domains stop; what waits for them applies as R222 states. -/
def tdmReset (s : State) : State :=
  (List.range 4).foldl (fun t d => if (t.dom d).running then stopDomain t d (nowNs t)
    else if gEn t.reg d then flushList t d else t) s

/-- A soft reset of page SRF (R49, R257): every surface is disabled; the tiles keep their entries. -/
def srfReset (s : State) : State :=
  { s with pres := { s.pres with srfs := [] } }

/-- A soft reset of page CHK (R49, R257): queues and results empty; echo requests under way are forgotten. -/
def chkReset (s : State) : State := { s with pres := { s.pres with chks := [] } }

end Sys2Proof.Machine
end

