-- ==== Sys2Proof/Machine/Time.lean ====
section
/-! DEFINITION. Time (chapter 12): the local clock, its servo, PTP, and the timing inputs and outputs. -/

namespace Sys2Proof.Machine

/-! The local clock (12.1) -/

/-- CLK_CTL.MODE is NORMAL. -/
def clkNormal (s : State) : Bool := s.regB R.CLK_CTL 0

/-- Units per tick of a slew at the configured rate (R395). -/
def slewRate (s : State) : Nat := (s.regF R.CLK_SLEWCFG 0 9 * 134217728 + 500000) / 1000000

/-- What a slew adds on one tick, and what is left of it (R395): the last tick applies only the remainder. -/
def slewTick (x : Slew) : Int × Option Slew :=
  if x.left.natAbs ≤ x.rate then (x.left, none)
  else
    let d : Int := if x.left < 0 then -(x.rate : Int) else x.rate
    (d, some { x with left := x.left - d })

/-- Start a slew of signed ns; 0 ends one. -/
def startSlew (s : State) (ns : Int) : Option Slew :=
  if ns = 0 then none else some ⟨ns * 16777216, slewRate s⟩

/-- What the writes before a tick make of the slew when no step intervenes: the last one stands. -/
def slewOps (s : State) (x : Option Slew) (ops : List ClkOp) : Option Slew :=
  ops.foldl (fun a o => match o with | .slew n => startSlew s n | .raw => none | _ => a) x

def ClkOp.isStep : ClkOp → Bool
  | .stepAbs _ => true
  | .stepRel _ => true
  | _ => false

/-- The mode was written RAW among these operations (R393). -/
def rawAmong (ops : List ClkOp) : Bool := ops.contains .raw

/-- The servo returns to FREE when RAW takes effect (Table 12-1); that it then uses no source is a change too (R401). -/
def servoFree (s : State) : State :=
  let t := { s with clkr := { s.clkr with state := 0, src := 0, good := 0, bad := 0, meas := none } }
  if s.clkr.src = 0 then t else raise t 0x28 5

/-- Record the increment of a tick while LOCKED, over at most 1,000 s (R405). -/
def histAdd (h : List (Nat × Nat)) (inc : Nat) : List (Nat × Nat) :=
  let h1 := match h with
    | (i, n) :: t => if i = inc then (i, n + 1) :: t else (inc, 1) :: (i, n) :: t
    | [] => [(inc, 1)]
  if 125000000000 < (h1.map Prod.snd).foldl (· + ·) 0 then
    match h1.reverse with
    | (_, 1) :: t => t.reverse
    | (i, n) :: t => ((i, n - 1) :: t).reverse
    | [] => []
  else h1

/-- Mean increment while LOCKED (CLK_INCAVG). -/
def incAvg (s : State) : Nat :=
  let n := (s.clkr.hist.map Prod.snd).foldl (· + ·) 0
  if n = 0 then 0x08000000 else (s.clkr.hist.map fun e => e.1 * e.2).foldl (· + ·) 0 / n

/-- The clock stands within a second that it did not enter at its whole second: nothing is written before the next (R399). -/
def secondHere (c : ClkRt) (now : Nat) : ClkRt := if nsOf now = 0 then c else { c with lastSec := secOf now }

/-- One cycle of the 125 MHz time clock (R391-R396). -/
def clockTick (s : State) : State :=
  let c := s.clkr
  let pre := c.ops.takeWhile fun o => !o.isStep
  let base := if clkNormal s then (s.reg R.CLK_INC).toNat else 0x08000000
  match c.ops.drop pre.length with
  | [] =>
    let sl := slewOps s c.slew pre
    let t := match sl with | some x => slewTick x | none => (0, none)
    let inc := ((base : Int) + t.1).toNat
    let h := if c.state = 2 then histAdd c.hist inc else c.hist
    let s1 := { s with up := s.up + 8, clk := s.clk + inc, clkr := { c with ops := [], slew := t.2, hist := h } }
    if rawAmong pre then servoFree s1 else s1
  | st :: rest =>
    -- a step ends every slew written before it; a slew written after it starts at this tick
    let post := rest.takeWhile fun o => !o.isStep
    let sl := slewOps s none post
    let clk := match st with
      | .stepAbs v => v * 16777216
      | .stepRel d => ((s.clk : Int) + base + d * 16777216).toNat
      | _ => s.clk
    let h := if c.state = 2 then histAdd c.hist base else c.hist
    let r := { c with ops := rest.drop post.length, slew := sl, hist := h }
    let s1 := { s with up := s.up + 8, clk := clk, clkr := secondHere r (clk / 16777216) }
    let s2 := if rawAmong pre || rawAmong post then servoFree s1 else s1
    -- the delay lists see the step too (R117)
    raise (if s2.islUp 2 then raise s2 0x04 5 else s2) 0x28 0

/-- SLEW_END: the last tick of a slew (R395). -/
def slewEnd (s : State) : State :=
  match s.clkr.slew with
  | some x => if x.left.natAbs ≤ x.rate ∧ s.clkr.ops = [] then clockTick s else s
  | none => s

/-- Put a clock operation in the list for the next tick. -/
def clkOp (s : State) (o : ClkOp) : State := { s with clkr := { s.clkr with ops := s.clkr.ops ++ [o] } }

/-- CLK_SLEWLEFT: signed ns, rounded toward zero. -/
def slewLeft (s : State) : Int :=
  match s.clkr.slew with
  | some x => if x.left < 0 then -((x.left.natAbs / 16777216 : Nat) : Int) else (x.left.natAbs / 16777216 : Nat)
  | none => 0

/-- The Gauntlet's seconds counter now. -/
def rtcNs (s : State) : Nat := s.clkr.rtc + (s.up - s.clkr.rtcAt)
def rtcNow (s : State) : Nat := rtcNs s / 1000000000

/-- The tick now is the first at or after a whole second of local-clock time `t`: a tick adds less than 9 ns (R394, R395). -/
def secondTick (t : Nat) : Bool := decide (nsOf t < 9)

/-- At every whole second while VALID the clock's seconds are written to the counter (R399). -/
def secondsSync (s : State) : State :=
  let sec := secOf (nowNs s)
  if s.clkr.valid && secondTick (nowNs s) && s.clkr.lastSec != sec then
    { s with clkr := { s.clkr with rtc := sec * 1000000000, rtcAt := s.up, lastSec := sec } }
  else s

/-! Sources and the servo (12.2) -/

def ptp0 : PtpPort := ⟨0, 0, 0, 0, [], none, 0, 0, none, 0, 0, 0, 0, 0, 125000000⟩
def State.pport (s : State) (p : Nat) : PtpPort := sgetD s.ptp.ports p ptp0
def State.setPport (s : State) (p : Nat) (x : PtpPort) : State :=
  { s with ptp := { s.ptp with ports := sput s.ptp.ports p x ptp0 } }

/-- A source is available (R400). -/
def srcAvail (s : State) (c : Nat) : Bool :=
  match c with
  | 1 => (s.pport 0).state == 3 || (s.pport 1).state == 3
  | 2 => (s.pport 2).state == 3 || (s.pport 3).state == 3 || (s.pport 4).state == 3
  | 3 => s.tio.ppsOk && s.clkr.valid
  | _ => false

/-- The sources of CLK_SEL in order of preference. -/
def selected (s : State) : List Nat :=
  ([s.regF R.CLK_SEL 0 3, s.regF R.CLK_SEL 4 3, s.regF R.CLK_SEL 8 3]).filter (· != 0)

/-- CLK_CTL.SERVO = FIRMWARE. -/
def firmware (s : State) : Bool := !s.regB R.CLK_CTL 1

/-- Bring the record of availability up to date. -/
def availNote (s : State) : State :=
  let m := (List.range 4).foldl (fun m c =>
    if srcAvail s c then (match sget m c with | some _ => m | none => sset m c s.up) else sdel m c) s.clkr.avail
  { s with clkr := { s.clkr with avail := m } }

/-- The source in use is still selected and available. -/
def srcGood (s : State) : Bool := s.clkr.src != 0 && srcAvail s s.clkr.src && (selected s).contains s.clkr.src

/-- Take a source into use: the servo begins correcting where it was not (Table 12-1). -/
def useSource (s : State) (c : Nat) : State :=
  let st := if s.clkr.state == 0 || s.clkr.state == 3 then 1 else s.clkr.state
  let s1 := { s with clkr := { s.clkr with src := c, state := st, good := 0, bad := 0, meas := none } }
  if s.clkr.src = c then s1 else raise s1 0x28 5

/-- The first available source of the list, and the first that has been available for REVERT seconds (R401). -/
def bestSource (s : State) : Option Nat := (selected s).find? (srcAvail s)
def revertSource (s : State) : Option Nat :=
  (selected s).find? fun c => srcAvail s c &&
    (c == s.clkr.src || (match sget s.clkr.avail c with
      | some t => elapsed s t (s.regF R.CLK_SEL 16 12 * 1000000000)
      | none => false))

/-- In NORMAL mode, where no source is in use or the one in use is not available, the first available source of the list is
taken at once (R401, R402). -/
def takeSource (s : State) : State :=
  if srcGood s || !clkNormal s then s
  else match bestSource s with
    | some c => useSource s c
    | none => s

/-- After a change of what is available or selected. -/
def availTouch (s : State) : State := takeSource (availNote s)

/-- The clock becomes valid (R398): domains restored enabled start (R258). -/
def setValid (s : State) : State :=
  if s.clkr.valid then s
  else
    let s1 := raise { s with clkr := { secondHere s.clkr (nowNs s) with valid := true } } 0x28 1
    let s2 := (List.range 4).foldl (fun t d =>
      if gEn t.reg d && !(t.dom d).running then startDomain t d (nowNs t) else t) s1
    availTouch s2

/-- SOURCE_CHANGE (R401, Table 12-1): a more preferred source is taken after REVERT. -/
def sourceChange (s : State) : State :=
  if !srcGood s then takeSource s
  else match revertSource s with
    | some c => if c = s.clkr.src then s else useSource s c
    | none => s

/-- SOURCE_LOSS (Table 12-1): no selected source is available any more. The writes are those the firmware makes (R404). -/
def sourceLoss (s : State) : State × List (Nat × Word) :=
  if s.clkr.src = 0 ∨ srcGood s then (s, [])
  else if (bestSource s).isSome then (takeSource s, [])
  else
    let s1 := raise { s with clkr := { s.clkr with src := 0, good := 0, bad := 0, meas := none } } 0x28 5
    if s.clkr.state = 1 ∨ s.clkr.state = 2 then
      if s.clkr.everLocked then
        (raise { s1 with clkr := { s1.clkr with state := 3, holdStart := s.up, expired := false } } 0x28 3,
         if firmware s then [(R.CLK_INC, w32 (incAvg s))] else [])
      else ({ s1 with clkr := { s1.clkr with state := 0 } }, [])
    else (s1, [])

/-- HOLD_EXPIRED (Table 12-1). -/
def holdExpired (s : State) : State :=
  if s.clkr.state = 3 ∧ !s.clkr.expired ∧ elapsed s s.clkr.holdStart (s.regF R.CLK_SERVO 16 16 * 1000000000) then
    raise { s with clkr := { s.clkr with inspec := false, expired := true } } 0x28 4
  else s

/-- The writes with which the firmware corrects an offset (R403): a step of the opposite amount, or a slew. -/
def corrections (s : State) (o : Int) : List (Nat × Word) :=
  if !firmware s || !clkNormal s then []
  else if 100000 ≤ o.natAbs ∧ (!s.clkr.valid ∨ s.regB R.CLK_CTL 2) then
    let sec := ofSigned 48 (-o / 1000000000)
    [(R.CLK_STEPNS, w32 (-o % 1000000000).toNat), (R.CLK_STEPSLO, w32 sec), (R.CLK_STEPSHI, w32 (sec / 2 ^ 32)),
     (R.CLK_STEPOP, 2#32)]
  else if o.natAbs ≤ 100000000 then [(R.CLK_SLEW, w32 (ofSigned 32 (-o)))]
  else []

/-- An offset that the firmware does not correct is reported (R403). -/
def bigOffset (s : State) (o : Int) : State :=
  if firmware s && clkNormal s && (corrections s o).isEmpty then raise s 0x28 6 else s

/-- The frequency correction of the firmware, within R394 (R403). -/
def incWrite (s : State) (inc : Option Nat) : List (Nat × Word) :=
  match inc with
  | some n =>
    if firmware s && clkNormal s && decide (134150619 ≤ n) && decide (n ≤ 134284837) then [(R.CLK_INC, w32 n)] else []
  | none => []

/-- The servo state after `good` measurements below the lock threshold in a row and `bad` at four times it (Table
12-1). -/
def servoState (s : State) (good bad : Nat) : State :=
  if s.clkr.state = 1 ∧ 16 ≤ good then
    let c := { s.clkr with state := 2, good := 0, bad := 0, inspec := true, everLocked := true }
    setValid (raise { s with clkr := c } 0x28 2)
  else if s.clkr.state = 2 ∧ 4 ≤ bad then { s with clkr := { s.clkr with state := 1, good := 0, bad := 0 } }
  else s

/-- The offset measured moves the servo and is corrected (R402-R404). -/
def servoTake (s : State) (inc : Option Nat) : State × List (Nat × Word) :=
  match s.clkr.meas with
  | none => (s, [])
  | some o =>
    if !srcGood s then ({ s with clkr := { s.clkr with meas := none } }, [])
    else
      let thr := s.regF R.CLK_SERVO 0 16
      let good := if o.natAbs < thr then s.clkr.good + 1 else 0
      let bad := if 4 * thr ≤ o.natAbs then s.clkr.bad + 1 else 0
      let s1 := { s with clkr := { s.clkr with meas := none, good := good, bad := bad } }
      let s2 := s1.setReg R.CLK_OFS (w32 (ofSigned 32 (clampI (-2147483648) 2147483647 o)))
      (servoState (bigOffset s2 o) good bad, incWrite s inc ++ corrections s o)

/-- An offset has been measured on a source (R402). -/
def measured (s : State) (src : Nat) (o : Int) : State :=
  if s.clkr.src = src then { s with clkr := { s.clkr with meas := some o } } else s

/-! PTP (12.3) -/

/-- Page of a PTP port (Table 12-11): U0, U1, H0, H1, M, P0-P7, B0-B7. -/
def ptpPage (p : Nat) : Nat :=
  if p < 2 then 0x10 + p else if p < 4 then 0x22 + (p - 2) else if p = 4 then 0x24 else 0x12 + (p - 5)

/-- A port of instance N. -/
def isN (p : Nat) : Bool := decide (5 ≤ p)

/-- The instance of a port is enabled on it. -/
def ptpEn (s : State) (p : Nat) : Bool :=
  s.en 0x29 &&
  (if p < 2 then s.regB R.PTP_U (9 + p)
   else if p < 5 then s.regB R.PTP_H (24 + (p - 2))
   else if p < 13 then s.regB R.PTP_N (16 + (p - 5))
   else s.regB R.PTP_N (24 + (p - 13)))

/-- Domain number of a port's instance (Table 12-2). -/
def ptpDomain (s : State) (p : Nat) : Nat :=
  if p < 2 then s.regF R.PTP_U 0 8 else if p < 5 then s.regF R.PTP_H 0 8 else s.regF R.PTP_N 0 8

/-- Clock identity of the module: the EUI-64 of its lowest MAC address. -/
def clockId (s : State) : Nat := s.hw.macBase / 2 ^ 24 * 2 ^ 40 + 0xFFFE * 2 ^ 24 + s.hw.macBase % 2 ^ 24

/-- The port-group island of a page runs (Table 1-1). -/
def portIslandUp (s : State) (pg : Nat) : Bool :=
  match allPages.find? (·.num == pg) with
  | some d => s.islUp d.isl
  | none => false

/-- A port runs where its instance is enabled, its link is up and its island runs; a port that stops forgets what it heard
(R418). -/
def ptpTouch1 (s : State) (p : Nat) : State :=
  let x := s.pport p
  if ptpEn s p && s.en (ptpPage p) && linkUp s (ptpPage p) && portIslandUp s (ptpPage p) then
    if x.state = 0 then s.setPport p { x with state := if isN p then 4 else 1, heard := s.up } else s
  else if x.state = 0 then s
  else s.setPport p { ptp0 with sync := x.sync, bad := x.bad, delay := x.delay }

/-- What orders data sets of different grandmasters, and what orders those of one (IEEE 1588-2019): the lower list is better. -/
def PtpData.key (d : PtpData) : List Nat := [d.prio1, d.cls, d.acc, d.var, d.prio2, d.gm]
def PtpData.path (d : PtpData) : List Nat := [d.steps, d.sender, d.senderPort]
def lexLt : List Nat → List Nat → Bool
  | a :: as, b :: bs => decide (a < b) || (a == b && lexLt as bs)
  | _, _ => false
def PtpData.better (a b : PtpData) : Bool := if a.gm = b.gm then lexLt a.path b.path else lexLt a.key b.key

/-- An Announce whose data set qualifies: not one that leads back to the module (R407), nor one of 255 steps or more. -/
def Foreign.fit (s : State) (f : Foreign) : Bool :=
  f.ok && f.ds.gm != clockId s && f.ds.sender != clockId s && decide (f.ds.steps < 255)

/-- The best qualified data set heard on a port. -/
def portBest (s : State) (p : Nat) : Option PtpData :=
  ((s.pport p).foreign.filter (Foreign.fit s)).foldl (fun b f =>
    match b with
    | none => some f.ds
    | some d => if f.ds.better d then some f.ds else some d) none

/-- The best port among some, the first of equals. -/
def bestPort (s : State) (ps : List Nat) : Option (Nat × PtpData) :=
  ps.foldl (fun b p =>
    match portBest s p, b with
    | none, _ => b
    | some d, none => some (p, d)
    | some d, some (q, e) => if d.better e then some (p, d) else some (q, e)) none

/-- The module's own data set (R407). -/
def ownData (s : State) : PtpData :=
  let cls := if s.clkr.state = 3 then (if s.clkr.inspec then 7 else 187) else 248
  ⟨clockId s, s.regF R.PTP_H 8 8, cls, 0xFE, 0xFFFF, s.regF R.PTP_H 16 8, 0, clockId s, 0, 0, false, false, false⟩

/-- The data set instances H and N announce (R407, R408). -/
def announceData (s : State) : PtpData :=
  let via (ps : List Nat) : PtpData :=
    match bestPort s (ps.filter fun p => (s.pport p).state == 3) with
    | some (_, d) => { d with steps := d.steps + 1, sender := clockId s, senderPort := 0 }
    | none => ownData s
  if s.clkr.src = 1 then via [0, 1] else if s.clkr.src = 2 then via [2, 3, 4] else ownData s

/-- The data set the module would announce if it took no time over H. -/
def localData (s : State) : PtpData := if s.clkr.src = 2 then ownData s else announceData s

/-- Port states of instance U (R406). -/
def bmcU (s : State) : State :=
  let up (p : Nat) : Bool := (s.pport p).state != 0
  match bestPort s ([0, 1].filter up) with
  | none => ([0, 1].filter up).foldl (fun t p => t.setPport p { t.pport p with state := 1 }) s
  | some (b, _) => ([0, 1].filter up).foldl (fun t p => t.setPport p { t.pport p with state := if p = b then 3 else 1 }) s

/-- The state of a port of instance H that does not take time: it goes on listening where it has heard no qualified time
transmitter yet, and is PASSIVE where it has heard a better one than `mine`. -/
def stateH (s : State) (mine : PtpData) (p : Nat) : Nat :=
  match portBest s p with
  | some x => if x.better mine then 5 else 4
  | none => if (s.pport p).state = 1 then 1 else 4

/-- The module's own data set has a clockClass of 1 to 127, which takes time from no port (IEEE 1588-2019): in HOLDOVER with
INSPEC 1 (R407). -/
def ownHolds (s : State) : Bool := s.clkr.src != 1 && decide ((ownData s).cls ≤ 127)

/-- Port states of instance H (R407). -/
def bmcH (s : State) : State :=
  let ps := [2, 3, 4].filter fun p => (s.pport p).state != 0
  let own := localData s
  let put (t : State) (p st : Nat) : State := t.setPport p { t.pport p with state := st }
  match bestPort s ps with
  | none => ps.foldl (fun t p => put t p (stateH s own p)) s
  | some (b, d) =>
    if own.better d || ownHolds s then ps.foldl (fun t p => put t p (stateH s own p)) s
    else
      let mine : PtpData := { d with steps := d.steps + 1, sender := clockId s, senderPort := 0 }
      ps.foldl (fun t p => put t p (if p = b then 3 else stateH s mine p)) s

/-- Show the grandmaster in use while PTP is enabled (Table 12-10). -/
def gmShow (s : State) : State :=
  let d := announceData s
  let old := (s.reg (R.PTP_GMID 0)).toNat * 2 ^ 32 + (s.reg (R.PTP_GMID 1)).toNat
  let s1 := (s.setReg (R.PTP_GMID 0) (w32 (d.gm / 2 ^ 32))).setReg (R.PTP_GMID 1) (w32 d.gm)
  let s2 := s1.setReg R.PTP_GMQ (w32 (d.cls % 256 + d.acc % 256 * 256 + d.steps % 65536 * 65536))
  let s3 := s2.setReg R.PTP_UTC (w32 (d.utc % 65536 + b2n d.utcValid * 65536 + b2n d.leap61 * 131072 + b2n d.leap59 * 262144))
  if old = d.gm then s3 else raise s3 0x29 0
def gmTouch (s : State) : State := if s.en 0x29 then gmShow s else s

/-- After a change of what the ports hear: port states, availability and the data set. -/
def ptpSettle (s : State) : State := gmTouch (availTouch (bmcH (bmcU s)))

/-- After a change of settings or links. -/
def ptpTouch (s : State) : State := ptpSettle ((List.range 21).foldl ptpTouch1 s)

/-- Interval 2^n s in ns. -/
def logNs (n : Int) : Nat := if n < 0 then 1000000000 / 2 ^ n.natAbs else 1000000000 * 2 ^ n.natAbs

/-- A PTP message is dropped and counted (Table 12-11). -/
def ptpBad (s : State) (p : Nat) : State := s.setPport p { s.pport p with bad := satAdd 16 (s.pport p).bad 1 }

/-- Bytes of a PTP message header (IEEE 1588-2019): type, length, two-step flag, correction in 2^-16 ns, sequence,
control, interval. -/
def ptpHead (s : State) (p typ len : Nat) (twoStep : Bool) (corr seq ctl : Nat) (logI : Int) : List Byte :=
  beBytes 1 typ ++ beBytes 1 0x12 ++ beBytes 2 len ++ beBytes 1 (ptpDomain s p) ++ beBytes 1 0 ++
    beBytes 2 (b2n twoStep * 0x200) ++ beBytes 8 corr ++ beBytes 4 0 ++ beBytes 8 (clockId s) ++ beBytes 2 (p + 1) ++
    beBytes 2 seq ++ beBytes 1 ctl ++ beBytes 1 (ofSigned 8 logI)

/-- A PTP timestamp. -/
def ptpTime (t : Nat) : List Byte := beBytes 6 (secOf t) ++ beBytes 4 (nsOf t)

/-- Send a PTP message: IEEE 802.3 on H, M, P and B; UDP on U, whose IP and UDP header the manual does not give (free
bytes). `ev`: message type and sequence number of one whose transmit time is awaited (R306). -/
def ptpSendEv (s : State) (p : Nat) (msg : List Byte) (ev : Option (Nat × Nat)) : State :=
  if p < 2 then
    let n := if s.regB R.PTP_U 8 then 48 else 28
    let hd := (List.range n).map fun k => Config.freeByte s.freeCtr k
    let et := if s.regB R.PTP_U 8 then 0x86DD else 0x0800
    let da := if s.regB R.PTP_U 8 then 0x333300000181 else 0x01005E000181
    macSendPtp s.draw (ptpPage p) 1 (etherFrame s (ptpPage p) da et (hd ++ msg)) ev
  else macSendPtp s (ptpPage p) 1 (etherFrame s (ptpPage p) 0x011B19000000 0x88F7 msg) ev
def ptpSend (s : State) (p : Nat) (msg : List Byte) : State := ptpSendEv s p msg none

/-- Instance N is silent in STANDBY (R459), and before a member becomes ACTIVE (R474). -/
def ptpSilent (s : State) (p : Nat) : Bool := isN p && (s.pair.role == .standby || s.pair.role == .seeking)

/-- The timestamp of a message received on PTP port `p` whose frame passed its SFD at local-clock time `t` (R305, R409): the one
that stayed with the frame where the client's ring holds it, else the time less the calibrated ingress delay. -/
def rxTime (s : State) (p t : Nat) : Nat :=
  match (s.mac (ptpPage p)).ring.find? (·.sfd == t), calIndex (ptpPage p) with
  | some f, _ => f.ts
  | none, some k => ((t : Int) - calDelay s (0x10 + k)).toNat
  | none, none => t

/-- A received PTP message (R406-R408). -/
def ptpReceive (s : State) (p dom : Nat) (m : PtpMsg) : State :=
  let x := s.pport p
  if x.state = 0 || dom != ptpDomain s p then ptpBad s p
  else if isN p then
    match m with
    | .delayReq seq t4 rid rport =>
      -- on P ports a Delay_Req is answered, unless instance N is silent; a B port drops every PTP message of a node
      if p < 13 && ptpSilent s p then s
      else if p < 13 then
        ptpSend s p (ptpHead s p 9 54 false 0 seq 3 0 ++ ptpTime (rxTime s p t4) ++ beBytes 8 rid ++ beBytes 2 rport)
      else ptpBad s p
    | _ => ptpBad s p
  else match m with
    | .announce ds li =>
      let same (f : Foreign) : Bool := f.ds.sender == ds.sender && f.ds.senderPort == ds.senderPort
      let iv := logNs li
      let fs := match x.foreign.find? same with
        | some f => x.foreign.map fun g => if g = f then ⟨ds, s.up, iv, f.ok || decide (s.up < f.last + 4 * iv)⟩ else g
        | none => x.foreign ++ [⟨ds, s.up, iv, false⟩]
      ptpSettle (s.setPport p { x with foreign := fs, heard := s.up })
    | .sync seq t2 =>
      if x.state ≠ 3 then ptpBad s p
      else s.setPport p { x with sync1 := some (seq, rxTime s p t2), sync := satAdd 16 x.sync 1 }
    | .followUp seq t1 =>
      match x.sync1 with
      | some (q, t2) =>
        if x.state ≠ 3 ∨ q ≠ seq then ptpBad s p
        else
          let s1 := s.setPport p { x with sync1 := none, t1 := t1, t2 := t2 }
          measured s1 (if p < 2 then 1 else 2) ((t2 : Int) - t1 - x.delay)
      | none => ptpBad s p
    | .delayResp seq t4 li =>
      match x.req with
      | some (q, t3) =>
        if x.state ≠ 3 ∨ q ≠ seq then ptpBad s p
        else
          let d := (((x.t2 : Int) - x.t1) + ((t4 : Int) - t3)) / 2
          s.setPport p { x with req := none, delay := d, reqInt := max 125000000 (logNs li) }
      | none => ptpBad s p
    | .delayReq seq t4 rid rport =>
      if p < 2 || x.state != 4 then ptpBad s p
      else ptpSend s p (ptpHead s p 9 54 false 0 seq 3 0 ++ ptpTime (rxTime s p t4) ++ beBytes 8 rid ++ beBytes 2 rport)

/-- Sync interval of a port, as a power of two (R407, R408). -/
def syncLog (s : State) (p : Nat) : Int :=
  if p < 5 then -4 else if p < 13 then toSigned 4 (s.regF R.PTP_N 8 4) else toSigned 4 (s.regF R.PTP_N 12 4)

/-- PTP_SYNC_SEND: a Sync (R407, R408); its Follow_Up is sent when the Sync has left (R306). -/
def ptpSyncSend (s : State) (p : Nat) : State :=
  let x := s.pport p
  if p < 2 || x.state != 4 || ptpSilent s p || !elapsed s x.lastSync (logNs (syncLog s p)) then s
  else
    let s1 := s.setPport p { x with lastSync := s.up, seq := (x.seq + 1) % 65536, sync := satAdd 16 x.sync 1 }
    ptpSendEv s1 p (ptpHead s p 0 44 true 0 x.seq 0 (syncLog s p) ++ List.replicate 10 0#8) (some (0, x.seq))

/-- A Sync or Delay_Req has left at `ts` (R306): the Follow_Up carries the time, with the bus delay on B ports (R408); the
Delay_Resp is measured against it (R406). -/
def ptpLeft (s : State) (pg typ seq ts : Nat) : State :=
  match (List.range 21).find? fun p => ptpPage p == pg with
  | none => s
  | some p =>
    if typ = 0 then
      let corr := if 13 ≤ p then s.regF R.PTP_BDLY 0 10 * 65536 else 0
      ptpSend s p (ptpHead s p 8 44 false corr seq 2 (syncLog s p) ++ ptpTime ts)
    else s.setPport p { s.pport p with req := some (seq, ts) }

/-- PTP_ANNOUNCE_SEND (R407, R408): not on B ports. -/
def ptpAnnounceSend (s : State) (p : Nat) : State :=
  let x := s.pport p
  if p < 2 || 13 ≤ p || x.state != 4 || ptpSilent s p || !elapsed s x.lastAnn 1000000000 then s
  else
    let d := announceData s
    let s1 := s.setPport p { x with lastAnn := s.up, seq := (x.seq + 1) % 65536 }
    let flags := b2n d.leap61 + 2 * b2n d.leap59 + 4 * b2n d.utcValid
    let h := ptpHead s p 0xB 64 false 0 x.seq 5 0
    let body := List.replicate 10 0#8 ++ beBytes 2 d.utc ++ beBytes 1 0 ++ beBytes 1 d.prio1 ++ beBytes 1 d.cls ++
      beBytes 1 d.acc ++ beBytes 2 d.var ++ beBytes 1 d.prio2 ++ beBytes 8 d.gm ++ beBytes 2 d.steps ++ beBytes 1 0xA0
    ptpSend s1 p (h.set 7 (BitVec.ofNat 8 flags) ++ body)

/-- PTP_DELAY_REQ_SEND: at the granted rate and at most 8 per second (R406). -/
def ptpDelayReqSend (s : State) (p : Nat) : State :=
  let x := s.pport p
  if 5 ≤ p || x.state != 3 || !elapsed s x.lastReq (max 125000000 x.reqInt) then s
  else
    let s1 := s.setPport p { x with lastReq := s.up, seq := (x.seq + 1) % 65536, req := none }
    ptpSendEv s1 p (ptpHead s p 1 44 false 0 x.seq 1 127 ++ List.replicate 10 0#8) (some (1, x.seq))

/-- ANNOUNCE_TIMEOUT (R407): time transmitters silent for three announce intervals are forgotten; a port of instance H
that has listened for as long without an Announce becomes a time transmitter. -/
def announceTimeout (s : State) (p : Nat) : State :=
  let x := s.pport p
  let gone (f : Foreign) : Bool := elapsed s f.last (3 * f.interval)
  if 5 ≤ p then s
  else if x.foreign.any gone then
    raise (ptpSettle (s.setPport p { x with foreign := x.foreign.filter fun f => !gone f })) 0x29 1
  else if 2 ≤ p ∧ x.state = 1 ∧ x.foreign = [] ∧ elapsed s x.heard 3000000000 then
    raise (ptpSettle (s.setPport p { x with state := 4 })) 0x29 1
  else s

/-- SERVO_MEASUREMENT (R402-R404): the offset measured moves the servo and is corrected; `inc` is the frequency
correction the firmware makes through CLK_INC with it, if any. An Announce timeout on U that falls due in the same tick comes first
and discards it (Table 12-6). The writes are those the firmware makes. -/
def servoMeasurement (s : State) (inc : Option Nat) : State × List (Nat × Word) :=
  servoTake (if s.clkr.src = 1 then announceTimeout (announceTimeout s 0) 1 else s) inc

/-! Timing inputs and outputs (12.4) -/

/-- PPS out runs: EN is 1, and VALID or ALWAYS (R411). -/
def ppsRuns (s : State) : Bool := s.en 0x2A && s.regB R.TIO_PPSOUT 0 && (s.clkr.valid || s.regB R.TIO_PPSOUT 1)

/-- PPS_OUT (R411): rises at a whole second plus OFS, falls after WIDTH ms. The module sends the edge ahead by the calibrated
output delay (Table 18-1), so that it is on J7 at that time. -/
def ppsOut (s : State) : State :=
  let ofs := toSigned 16 (s.regF R.TIO_PPSOUT 16 16)
  let t := ((nowNs s : Int) - ofs + calDelay s 0x20).toNat
  let width := s.regF R.TIO_PPSOUT 2 10 * 1000000
  if s.tio.ppsOut then
    if width ≤ nsOf t ∨ s.tio.ppsSec ≠ some (secOf t) then { s with tio := { s.tio with ppsOut := false } } else s
  else if ppsRuns s && secondTick t && s.tio.ppsSec != some (secOf t) then
    { s with tio := { s.tio with ppsOut := true, ppsSec := some (secOf t) } }
  else s

/-- The time of an edge or frame start on a timing input (R410, R412, R413): when the local clock saw it, less the calibrated
interpolator offset (Table 18-1) and DLY. -/
def inputTime (s : State) (r t : Nat) : Nat := ((t : Int) - calDelay s 0x21 - s.regF r 16 16).toNat

/-- PPS_LOST (R412): 1.1 s after the edge itself. -/
def ppsLost (s : State) : State :=
  match s.tio.ppsLast with
  | some l =>
    if l + 1100000000 ≤ nowNs s then
      let s1 := { s with tio := { s.tio with ppsLast := none, ppsGood := 0, ppsOk := false } }
      availTouch (if s.tio.ppsOk then raise s1 0x2A 5 else s1)
    else s
  | none => s

/-- PPS_IN_EDGE at `t` by the local clock (R412); one that comes 1.1 s after the previous one finds PPSOK lost. -/
def ppsInEdge (s0 : State) (t : Nat) (falling : Bool) : State :=
  if !(s0.en 0x2A && s0.regB R.TIO_PPSIN 0) || falling != s0.regB R.TIO_PPSIN 1 then s0
  else
    let s := ppsLost s0
    let u := inputTime s R.TIO_PPSIN t
    let sec := (u + 500000000) / 1000000000
    let err : Int := (u : Int) - sec * 1000000000
    let near := match s.tio.ppsLast with
      | some l => decide (l + 999900000 ≤ t) && decide (t ≤ l + 1000100000)
      | none => false
    let good := if near then s.tio.ppsGood + 1 else 0
    let s1 := s.setReg R.TIO_PPSERR (w32 (ofSigned 32 err))
    let s2 := { s1 with tio := { s1.tio with ppsLast := some t, ppsGood := good, ppsOk := s.tio.ppsOk || decide (4 ≤ good) } }
    measured (availTouch s2) 3 err

/-- Least-squares fit of numbered times (R413). -/
def fitOf (ts : List (Nat × Nat)) : Grid :=
  let n := ts.length
  let sx := (ts.map Prod.fst).foldl (· + ·) 0
  let st := (ts.map Prod.snd).foldl (· + ·) 0
  let sxx := (ts.map fun e => e.1 * e.1).foldl (· + ·) 0
  let sxt := (ts.map fun e => e.1 * e.2).foldl (· + ·) 0
  let num := n * sxt - sx * st
  let den := n * sxx - sx * sx
  ⟨(st * den - num * sx) / (n * den), num, den⟩

/-- The number of the predicted point nearest to a time. -/
def nearest (g : Grid) (t : Nat) : Nat :=
  let j := g.firstAt t
  if j = 0 then 0 else if t - g.pt (j - 1) < g.pt j - t then j - 1 else j

/-- The prediction from a fit and the residue still to be worked off after a relock. -/
def predOf (g : Grid) (resid : Int) : Grid := { g with org := ((g.org : Int) + resid).toNat }

/-- A residue moves toward 0 by at most `m` ns. -/
def easeTo (r : Int) (m : Nat) : Int := if r.natAbs ≤ m then 0 else if r < 0 then r + m else r - m

/-- The grid of a domain's timing in force moves with its input (R219): the epochs whose latch point has not passed take the
times of their points, P_m of a pending change among them. -/
def DomRt.follow (r : DomRt) (x : Grid) (lead : Nat) : DomRt :=
  let at_ (e : EpochPt) : EpochPt := { e with p := x.pt e.j, l := x.pt e.j - lead }
  let mine := r.bridge.all fun b => b.pm.isSome && decide (r.next.k < b.k)
  let hist := match r.hist with
    | g :: rest => { g with grid := x, l0 := if g.k0 = r.next.k ∧ mine then (at_ r.next).l else g.l0 } :: rest
    | [] => []
  { r with grid := x, next := if mine then at_ r.next else r.next, hist := hist, bridge := r.bridge.map fun b =>
      { b with old := at_ b.old, pm := if r.cur.any (fun e => e.k + 1 == b.k) then b.pm else b.pm.map fun m => (m.1, x.pt m.1) } }

/-- The grid of a pending timing change moves with its input: B and the bridge latch point (R230, R231) move with it. -/
def DomRt.followNew (r : DomRt) (y : Grid) : DomRt :=
  match r.bridge with
  | none => r
  | some b =>
    let p := y.pt b.j
    let l := match b.pm with | some m => max (p - b.lead) m.2 | none => p - b.lead
    { r with
      bridge := some { b with grid := y, b := p, l := l }
      next := if r.next.k = b.k then ⟨b.k, b.j, p, l⟩ else r.next }

/-- Domains that follow an input take the new prediction for the epochs whose latch point has not passed. -/
def domFollow (s : State) (src : Nat) : State :=
  (List.range 4).foldl (fun t d =>
    let r := t.dom d
    if r.running then
      let r1 := if gSrc t.reg d = src then match gridOf t t.reg d with
        | some x => r.follow x (gLead t.reg d)
        | none => r else r
      let r2 := if gSrc (pendVal t) d = src then match gridOf t (pendVal t) d with
        | some y => r1.followNew y
        | none => r1 else r1
      if r2 = r then t else driveRetime (showNext (t.setDom d r2) d)
    else if !r.running && gEn t.reg d && gSrc t.reg d == src && t.clkr.valid then startDomain t d (nowNs t)
    else t) s

/-- An input is lost: SRC_LOST where a domain uses it (R414). -/
def srcLost (s : State) (src : Nat) : State :=
  if (List.range 4).any fun d => gSrc s.reg d == src then raise s 0x0D 3 else s

/-- Nominal LTC frame period as num/den ns. -/
def ltcNominal (s : State) : Nat × Nat := (1000000000 * (if ltcFrac s then 1001 else 1000), ltcNum s * 1000)

/-- Frame count of a timecode from 00:00:00:00, in drop-frame form at 29.97 fps (Table 7-1). -/
def tcCount (s : State) (h m sec f : Nat) : Nat :=
  let tm := h * 60 + m
  let n := (tm * 60 + sec) * ltcNum s + f
  if ltcFrac s then n - 2 * (tm - tm / 10) else n

/-- LTC_FRAME_MISSING: four consecutive frames missing or undecodable (Table 12-3): the fourth is known to be once its codeword
would have ended, at the start of the one after it. -/
def ltcMissing (s : State) : State :=
  let x := s.tio.ltc
  match x.lock, x.pred with
  | true, some g =>
    if g.pt (x.idx + 5) ≤ inputTime s R.TIO_LTC (nowNs s) then
      srcLost (raise { s with tio := { s.tio with ltc := { x with lock := false, times := [] } } } 0x2A 1) 1
    else s
  | _, _ => s

/-- LTC_FRAME at `t` by the local clock, with its timecode (R413, Table 12-3). -/
def ltcFrame (s0 : State) (t h m sec f : Nat) : State :=
  if !(s0.en 0x2A && s0.regB R.TIO_LTC 0) then s0
  else
    let s := ltcMissing s0
    let u := inputTime s R.TIO_LTC t
    let x := s.tio.ltc
    let tc := tcCount s h m sec f
    let s1 := s.setRegF R.TIO_LTCSTAT 0 22 (f % 32 + sec % 64 * 32 + m % 64 * 2048 + h % 32 * 131072)
    let put (s : State) (y : InRt) : State := { s with tio := { s.tio with ltc := y } }
    let restart (y : InRt) : InRt := { y with lock := false, times := [(0, u)], tc := tc, idx := y.idx }
    let err (g : Grid) (j : Nat) : Int := (u : Int) - g.pt j
    match x.lock, x.pred with
    | true, some g =>
      let j := nearest g u
      let s2 := s1.setReg R.TIO_LTCERR (w32 (ofSigned 32 (err g j)))
      if 100000 ≤ (err g j).natAbs ∨ j ≤ x.idx then srcLost (raise (put s2 (restart x)) 0x2A 1) 1
      else if tc ≠ (x.tc + (j - x.idx)) % ltcDay s then
        srcLost (raise (put s2 { restart x with jump := true }) 0x2A 2) 1
      else
        let ts := ((j, u) :: x.times).take 16
        let r := easeTo x.resid 10000
        domFollow (put s2 { x with times := ts, idx := j, tc := tc, resid := r, pred := some (predOf (fitOf ts) r) }) 1
    | _, p =>
      -- consecutive timecodes, periods within 500 ppm of nominal
      let nom := ltcNominal s
      let okNext := match x.times with
        | (_, l) :: _ => tc == (x.tc + 1) % ltcDay s && decide (l < u) &&
            decide ((u - l) * nom.2 * 1000000 ≤ nom.1 * 1000500) && decide (nom.1 * 999500 ≤ (u - l) * nom.2 * 1000000)
        | [] => false
      let ts := if okNext then ((match x.times with | (i, _) :: _ => i + 1 | [] => 0, u) :: x.times).take 16 else [(0, u)]
      let y := { x with times := ts, tc := tc }
      if ts.length < 16 then put s1 y
      else
        let i := (match ts with | (i, _) :: _ => i | [] => 0)
        let g := fitOf ts
        match p with
        | none =>
          -- frames are numbered from the first of the fit
          let base := i - 15
          let ts0 := ts.map fun e => (e.1 - base, e.2)
          let z := { y with lock := true, times := ts0, idx := 15, pred := some (fitOf ts0), resid := 0, tcBase := (tc : Int) - 15 }
          domFollow (raise (put s1 z) 0x2A 0) 1
        | some q =>
          let j := nearest q (g.pt i)
          let diff : Int := (q.pt j : Int) - g.pt i
          if 1000000 < diff.natAbs then put s1 { y with jump := true, times := [(0, u)] }
          else
            let ts0 := ts.map fun e => (e.1 + j - i, e.2)
            let z := { y with lock := true, times := ts0, idx := j, resid := diff, pred := some (predOf (fitOf ts0) diff), tcBase := (tc : Int) - j }
            domFollow (raise (put s1 z) 0x2A 0) 1

/-- The lock conditions of the word clock over 256 edges, newest first (Table 12-3). -/
def wclkOk (ts : List (Nat × Nat)) : Bool :=
  match ts, ts.getLast? with
  | (_, b) :: _, some (_, a) =>
    let span := b - a
    let ok (d : Nat) : Bool := decide (d * 255 * 1000 ≤ span * 1001) && decide (span * 999 ≤ d * 255 * 1000)
    decide (ts.length = 256) && decide (255 * 1000000000 ≤ 192000 * span) && decide (32000 * span ≤ 255 * 1000000000) &&
      ((ts.zip (ts.drop 1)).all fun e => ok (e.1.2 - e.2.2))
  | _, _ => false

/-- WCLK_MISSING: no edge for 4 periods (Table 12-3). -/
def wclkMissing (s : State) : State :=
  let x := s.tio.wclk
  match x.lock, x.pred with
  | true, some g =>
    if g.pt (x.idx + 4) ≤ inputTime s R.TIO_WCLK (nowNs s) then
      srcLost (raise { s with tio := { s.tio with wclk := { x with lock := false, times := [] } } } 0x2A 4) 2
    else s
  | _, _ => s

/-- WCLK_EDGE at `t` by the local clock (R415, Table 12-3). -/
def wclkEdge (s0 : State) (t : Nat) : State :=
  if !(s0.en 0x2A && s0.regB R.TIO_WCLK 0) then s0
  else
    let s := wclkMissing s0
    let u := inputTime s R.TIO_WCLK t
    let x := s.tio.wclk
    let put (s : State) (y : InRt) : State := { s with tio := { s.tio with wclk := y } }
    match x.lock, x.pred with
    | true, some g =>
      let j := nearest g u
      let err : Int := (u : Int) - g.pt j
      if 1000 ≤ err.natAbs ∨ j ≤ x.idx then
        srcLost (raise (put s { x with lock := false, times := [(0, u)] }) 0x2A 4) 2
      else
        let ts := ((j, u) :: x.times).take 256
        let r := easeTo x.resid 10
        domFollow (put s { x with times := ts, idx := j, resid := r, pred := some (predOf (fitOf ts) r) }) 2
    | _, p =>
      let ts := ((match x.times with | (i, _) :: _ => i + 1 | [] => 0, u) :: x.times).take 256
      if !wclkOk ts then put s { x with times := ts }
      else
        let i := (match ts with | (i, _) :: _ => i | [] => 0)
        match p with
        | none =>
          let ts0 := ts.map fun e => (e.1 - (i - 255), e.2)
          domFollow (raise (put s { x with lock := true, times := ts0, idx := 255, pred := some (fitOf ts0), resid := 0 }) 0x2A 3)
            2
        | some q =>
          let g := fitOf ts
          let j := nearest q (g.pt i)
          let diff : Int := (q.pt j : Int) - g.pt i
          if 1000 < diff.natAbs then put s { x with jump := true, times := [(0, u)] }
          else
            let ts0 := ts.map fun e => (e.1 + j - i, e.2)
            let z := { x with lock := true, times := ts0, idx := j, resid := diff, pred := some (predOf (fitOf ts0) diff) }
            domFollow (raise (put s z) 0x2A 3) 2

/-- EN of an input written 0 ends its lock, which its domains lose (R414), and its prediction, and clears JUMP; PPS out goes low
where it no longer runs (R411). -/
def tioWritten (s : State) : State :=
  let l := if s.regB R.TIO_LTC 0 then s.tio.ltc else in0
  let w := if s.regB R.TIO_WCLK 0 then s.tio.wclk else in0
  let pps := s.regB R.TIO_PPSIN 0
  let t := { s.tio with ltc := l, wclk := w, ppsOut := s.tio.ppsOut && ppsRuns s }
  let s1 := if s.tio.ltc.lock && !l.lock then srcLost s 1 else s
  let s2 := if s.tio.wclk.lock && !w.lock then srcLost s1 2 else s1
  availTouch { s2 with tio := if pps then t else { t with ppsOk := false, ppsGood := 0, ppsLast := none } }

/-- Measured word-clock period in 1/256 ns (TIO_WCLKPER). -/
def wclkPer (s : State) : Nat :=
  match s.tio.wclk.pred with
  | some g => g.num * 256 / g.den
  | none => 0

end Sys2Proof.Machine
end

