-- ==== Sys2Proof/Machine/Meter.lean ====
section
/-! DEFINITION. Energy metering (chapter 11): quanta, folds, intervals, saves, pulse outputs and the seal. Energies are
in units of 2^-32 mJ (R365); an increment is cut to whole units. -/

namespace Sys2Proof.Machine

/-! Sets and accumulators -/

def State.mset (s : State) (k : Nat) : MtrSet := lget s.mtr.sets k mset0
def State.setMset (s : State) (k : Nat) (x : MtrSet) : State :=
  { s with mtr := { s.mtr with sets := s.mtr.sets.set k x } }

/-- The sets of a module: rails and strings only where the drive is fitted (R357). -/
def setsOf (s : State) : List Nat := if s.hw.drive then [0, 1, 2, 3] else [0, 1]

/-- The set of an accumulator (Table 4-6). -/
def setOf (a : Nat) : Nat := if a < 32 then 0 else if a = 32 then 1 else if a < 37 then 2 else 3

/-- An accumulator's value, and its count in mJ. -/
def accVal (s : State) (a : Nat) : Nat := sgetD s.mtr.acc a 0
def accCount (v : Nat) : Nat := v / 4294967296

/-- The module meters: MTR_CTL.EN and the page's EN (R388). -/
def metering (s : State) : Bool := s.en 0x38 && s.regB R.MTR_CTL 0

/-- Nominal voltage in µV and current in µA; thresholds of R363 in pW and µA. -/
def inUa (s : State) : Nat := s.regF R.MTR_NOM 16 16 * 1000000
def noloadPw (s : State) : Nat := s.regF R.MTR_NOLOAD 0 10 * (s.regF R.MTR_NOM 16 16) * (s.regF R.MTR_NOM 0 16) * 1000000
def istartUa (s : State) : Nat := s.regF R.MTR_NOLOAD 16 10 * (s.regF R.MTR_NOM 16 16) * 10

/-! Windows of time -/

/-- The boundary of a length after a stamp (R376, R380). -/
def nextBoundary (len t : Nat) : Nat := (t / len + 1) * len

/-- Length of an interval code in ns. -/
def ivlLen (c : Nat) : Nat := lget [1, 5, 10, 15, 30, 60] c 15 * 60 * 1000000000
def saveLen (s : State) : Nat := s.regF R.MTR_CTL 16 16 * 10000000

/-! Records of the Lining (R381) -/

/-- A time as a metering record holds it. -/
def recTime (t : Nat) : List Byte := leBytes 4 (nsOf t) ++ leBytes 6 (secOf t)

/-- ENERGY payload (Table 11-6). -/
def energyPayload (s : State) (t : Nat) (final : Bool) (vals : SMap Nat) : List Byte :=
  recTime t ++ leBytes 1 (b2n final + 2 * b2n (!s.clkr.valid)) ++ leBytes 1 0 ++ leBytes 2 101 ++ leBytes 2 s.mtr.gaps ++
    ((List.range 101).map fun a => let v := sgetD vals a 0; leBytes 8 (accCount v) ++ leBytes 4 (v % 4294967296)).flatten

/-- INTERVAL payload (Table 11-6). -/
def intervalPayload (s : State) (vals : SMap Nat) : List Byte :=
  recTime s.mtr.ivlStart ++ leBytes 1 s.mtr.ivlCode ++ leBytes 1 s.mtr.ivlFlags ++ leBytes 2 101 ++ leBytes 2 s.mtr.gaps ++
    ((List.range 101).map fun a =>
      leBytes 8 (accCount (sgetD vals a 0) - accCount (sgetD s.mtr.ivlOpen a 0))).flatten

/-- The minutes of the local clock, of which every interval is made (R376). -/
def minuteNs : Nat := 60000000000

/-- A quantum stamped at or after the end of the open interval has been taken: what follows belongs to a later one, also
after a backward step (R377, R379). -/
def ivlPassed (m : MtrRt) : Bool :=
  m.ivl.done.contains 0 || (lget m.sets 0 mset0).q.any fun q => decide (m.ivl.at_ ≤ q.stamp)

/-- Flags of later intervals, by minute; those of more than an hour before are of no interval any more. -/
def laterFlag (m : MtrRt) (k fl : Nat) : MtrRt :=
  { m with ivlLater := sput (sdelIf m.ivlLater fun j => decide (j + 60 < k)) k (sgetD m.ivlLater k 0 ||| fl) 0 }

/-- Note flags of R378 for the interval that a stamp lies in. -/
def flagAt (m : MtrRt) (stamp fl : Nat) : MtrRt :=
  if fl = 0 then m
  else if stamp < m.ivl.at_ ∧ !ivlPassed m then { m with ivlFlags := m.ivlFlags ||| fl }
  else laterFlag m (max stamp m.ivl.at_ / minuteNs) fl

/-- Flags of the interval that opens at `a` and ends at `b`: those of its minutes. -/
def laterFlags (m : MtrRt) (a b : Nat) : Nat :=
  (m.ivlLater.filter fun e => decide (a / minuteNs ≤ e.1) && decide (e.1 < b / minuteNs)).foldl (fun f e => f ||| e.2) 0

/-- Intervals that a gap overlaps are INCOMPLETE, with LOSS where it lost energy (R384, R385): the open one, and those
whose minutes the last hour of the gap touches. -/
def gapFlags (s : State) (a b : Nat) (loss : Bool) : State :=
  let fl := 1 + 2 * b2n loss
  let m := s.mtr
  let m1 := if a < m.ivl.at_ ∧ m.ivlStart < b then { m with ivlFlags := m.ivlFlags ||| fl } else m
  let lo := max (max a m.ivl.at_) (b - 60 * minuteNs) / minuteNs
  { s with mtr := (List.range (cdiv b minuteNs - lo)).foldl (fun x k => laterFlag x (lo + k) fl) m1 }

/-- Append a GAP record from `a` to `b` (Table 11-7, R384, R385): one with LOSS counts in GAPS. -/
def appendGap (s : State) (a b : Nat) (loss : Bool) : State :=
  let g := if loss then satAdd 16 s.mtr.gaps 1 else s.mtr.gaps
  let s1 := gapFlags { s with mtr := { s.mtr with gaps := g } } a b loss
  let pay := recTime a ++ recTime b ++ leBytes 1 (b2n loss) ++ leBytes 1 0 ++ leBytes 2 g
  let s2 := (linSubmit s1 (mkRec s1 0x32 false true pay)).1
  if loss then raise s2 0x38 1 else s2

/-! Quanta (11.1-11.3) -/

/-- A code of a 16-bit converter (Table 11-1) in units of 2^-23 of full scale. -/
def wide (c : Int) : Int := 256 * c

/-- A converter code after offset and gain, in µV or µA (Table 11-13). -/
def corrected (s : State) (k : Nat) (c : Int) : Int :=
  let gain := s.entF tMTRC k 0 0 24
  let ofs := toSigned 16 (s.entF tMTRC k 1 16 16)
  (c + ofs) * gain * Config.fullScale k / 70368744177664

/-- A current code with its phase correction. -/
def delayed (s : State) (k : Nat) (prev c : Int) : Int :=
  let ph := toSigned 16 (s.entF tMTRC k 1 0 16)
  if ph = 0 then c else Config.delaySample ph prev c

/-- A current channel in µA: the CT gives 333 mV at In. -/
def ctUa (s : State) (uv : Int) : Int := uv * (s.regF R.MTR_NOM 16 16 : Nat) * 1000 / 333

/-- The corrected AC samples of a quantum. -/
def mtrPoint (s : State) (x : MtrSample) : MtrPoint :=
  let i (k : Nat) (c : Int) : Int := ctUa s (corrected s (3 + k) (delayed s (3 + k) (lget s.mtr.prev k c) c))
  ⟨(List.range 3).map fun k => corrected s k (lget x.v k 0),
   (List.range 3).map fun k => i k (lget x.i k 0), i 3 x.n⟩

/-- Sums over the window (R358): of v·i, v² and i² of a phase. -/
def sumVI (w : List MtrPoint) (p : Nat) : Int := (w.map fun x => lget x.v p 0 * lget x.i p 0).foldl (· + ·) 0
def sumII (w : List MtrPoint) (p : Nat) : Nat := (w.map fun x => (lget x.i p 0 * lget x.i p 0).natAbs).foldl (· + ·) 0

/-- Integer square root, by bits. -/
def isqrtAux (x : Nat) : Nat → Nat → Nat
  | 0, r => r
  | k + 1, r => let m := r + 2 ^ k; if m * m ≤ x then isqrtAux x k m else isqrtAux x k r
def isqrt (x : Nat) : Nat := isqrtAux x 64 0

/-- Irms of a phase reaches ISTART × In. -/
def iStarts (s : State) (w : List MtrPoint) (p : Nat) : Bool := decide (istartUa s * istartUa s * 800 ≤ sumII w p)

/-- A phase contributes total active energy (R363). -/
def totalCounts (s : State) (w : List MtrPoint) (p : Nat) : Bool :=
  decide (noloadPw s * 800 ≤ (sumVI w p).natAbs) || iStarts s w p

/-- An energy over 125 µs from a sum of 800 products in pW. -/
def quantEnergy (x : Int) : Nat := x.natAbs * 4294967296 * 125 / (800 * 1000000000000000)

/-- Import (even) or export (odd) accumulator of a set of eight, with its increment (R366). -/
def directed (base : Nat) (x : Int) : Nat × Nat := (if 0 ≤ x then base else base + 1, quantEnergy x)

/-- The AC increments of a quantum (R361, R363). -/
def acIncs (s : State) (w : List MtrPoint) : List (Nat × Nat) :=
  let ps := (List.range 3).filter (totalCounts s w)
  ps.map (fun p => directed (8 * p) (sumVI w p)) ++ [directed 24 ((ps.map (sumVI w)).foldl (· + ·) 0)]

/-- Energy of one sample product in pW over 125 µs. -/
def dcEnergy (v i : Int) : Nat := (v * i).natAbs * 4294967296 * 125 / 1000000000000000

/-- The DC increments of a quantum (R362). -/
def dcIncs (s : State) (x : MtrSample) : List (Nat × Nat) :=
  let j := [(32, dcEnergy (corrected s 7 (wide x.j1.1)) (corrected s 8 (wide x.j1.2)))]
  let r := (List.range 4).map fun k =>
    let y := lget x.rails k (0, 0)
    (33 + k, dcEnergy (corrected s (9 + k) (wide y.1)) (corrected s (13 + k) (wide y.2)))
  let st := x.strs.map fun y => (37 + y.1 % 64, strVf s (y.1 % 64) * y.2.1 * y.2.2 * 4294967296 / 100000000000000000000)
  if s.hw.drive then j ++ r ++ st else j

/-- Buffer a quantum's increments of one set; one that finds the buffer full is lost (R370). -/
def bufferSet (s : State) (k : Nat) (q : Quant) : State :=
  let x := s.mset k
  if 65536 ≤ x.q.length then
    let s1 := s.setMset k { x with lost := some (x.lost.getD q.stamp) }
    raise (s1.count R.MTR_LOST 0 32 1) 0x38 0
  else s.setMset k { x with q := x.q ++ [q] }

/-- Once every buffer has room again the span of the lost quanta, up to `stamp`, is recorded as a GAP (R370). -/
def closeLost (s : State) (stamp : Nat) : State :=
  if (setsOf s).all fun k => decide ((s.mset k).q.length < 65536) then
    match s.mtr.sets.filterMap (·.lost) with
    | [] => s
    | t :: ts =>
      let sets := s.mtr.sets.map fun x => { x with lost := none }
      appendGap { s with mtr := { s.mtr with sets := sets } } (ts.foldl min t) stamp true
  else s

/-- Update the MEA page at the end of a window, unless held (Table 11-14). -/
def meaUpdate (s : State) (x : MtrSample) (stamp : Nat) : State :=
  if s.regB R.MEA_CTL 0 then s
  else
    let w := s.mtr.win
    let pw (p : Nat) : Int := sumVI w p / 800
    let va (p : Nat) : Nat := isqrt (sumVV w p / 800) * isqrt (sumII w p / 800)
    let put (t : State) (b : Nat) (vr ir : Nat) (p : Int) (sv : Nat) : State :=
      let d := (sv : Int) / 100000000000
      let pf : Int := if d = 0 then 0 else p / 100000000000 * 10000 / d
      ((((t.setReg (R.MEA_VRMS b) (w32 vr)).setReg (R.MEA_IRMS b) (w32 ir)).setReg (R.MEA_P b)
        (w32 (ofSigned 32 (p / 100000000000)))).setReg (R.MEA_S b) (w32 (sv / 100000000000))).setReg (R.MEA_PF b)
        (w32 (ofSigned 16 pf))
    let s1 := (List.range 3).foldl (fun t p =>
      put t p (isqrt (sumVV w p / 800) / 10000) (isqrt (sumII w p / 800) / 1000) (pw p) (va p)) s
    -- three-phase quantities sum the phases that pass the no-load rule (R361)
    let ps := (List.range 3).filter (totalCounts s w)
    let s2 := put s1 3 0 0 ((ps.map pw).foldl (· + ·) 0) ((ps.map va).foldl (· + ·) 0)
    let nn := (w.map fun y => (y.n * y.n).natAbs).foldl (· + ·) 0
    let v := corrected s 7 (wide x.j1.1)
    let i := corrected s 8 (wide x.j1.2)
    let s3 := ((s2.setReg R.MEA_INRMS (w32 (isqrt (nn / 800) / 1000))).setReg R.MEA_J1V (w32 (v / 1000).toNat)).setReg
      R.MEA_J1I (w32 (i / 1000).toNat)
    let put1 (t : State) (b : Nat) : State :=
      let pq := lget s.mtr.cyc b (0, 0)
      (t.setReg (R.MEA_P1 b) (w32 (ofSigned 32 (pq.1 / 100000000000)))).setReg (R.MEA_Q1 b)
        (w32 (ofSigned 32 (pq.2 / 100000000000)))
    let s4 := put1 (put1 (put1 (put1 (s3.setReg R.MEA_J1P (w32 (v * i / 100000000000).toNat)) 0) 1) 2) 3
    let s5 := if s.mtr.freq = 0 then s4.setRegB R.MEA_FREQ 20 false else s4.setReg R.MEA_FREQ (w32 (s.mtr.freq % 2 ^ 20 + 2 ^ 20))
    (s5.setReg R.MEA_TNS (w32 (nsOf stamp))).setReg R.MEA_TS (w32 (secOf stamp))

/-- The reference voltage of R359: V1, or V2, or V3; none where no phase reaches 40 % of Un. -/
def refPhase (s : State) (w : List MtrPoint) : Option Nat := (List.range 3).find? (vPresent s w)

/-- Limits of the AC inputs (Table 11-1): 277 V and 400 mV rms, as peak squares. -/
def clips (s : State) (x : MtrPoint) : Bool :=
  let lim := 2 * (inUa s * 1200 / 1000) * (inUa s * 1200 / 1000)
  x.v.any (fun v => decide (2 * 277000000 * 277000000 < (v * v).natAbs)) ||
  (x.n :: x.i).any fun i => decide (lim < (i * i).natAbs)

/-- The neutral check: rms of I1 + I2 + I3 + IN above 10 % of In for 1 s. -/
def neutralCheck (s : State) : State :=
  let w := s.mtr.win
  let sq := (w.map fun x => let t := lget x.i 0 0 + lget x.i 1 0 + lget x.i 2 0 + x.n; (t * t).natAbs).foldl (· + ·) 0
  if inUa s * inUa s * 8 < sq then
    match s.mtr.neutral with
    | none => { s with mtr := { s.mtr with neutral := some s.up } }
    | some t => if elapsed s t 1000000000 && !s.regB (R.PG_EVRAW 0x38) 5 then raise s 0x38 5 else s
  else { s with mtr := { s.mtr with neutral := none } }

/-- Accumulation starts with a quantum of stamp `t` (R384, R390, R471): the first interval opens, INCOMPLETE unless it
starts there; a later start continues the open one. A gap follows an ENERGY record that was restored. -/
def meterStart (s : State) (t : Nat) : State :=
  let code := s.regF R.MTR_CTL 1 3
  let len := ivlLen code
  let m := { s.mtr with run := true, restored := none }
  let m1 := { m with
    ivlStart := t / len * len, ivlCode := code, ivlOpen := m.acc, ivlLater := [],
    ivlFlags := b2n (t % len != 0) ||| laterFlags m (t / len * len) (nextBoundary len t),
    ivl := ⟨nextBoundary len t, [], [], 0⟩, save := ⟨nextBoundary (saveLen s) t, [], [], 0⟩ }
  let s1 := { s with mtr := if s.mtr.ivl.at_ = 0 then m1 else m }
  match s.mtr.restored with
  | some (f, final) => appendGap s1 f t (!final)
  | none => s1

/-- The fundamental quantities end: MEA_FREQ.VALID reads 0 and FREQ is set (R359). -/
def freqLost (s : State) : State :=
  let s1 := { s with mtr := { s.mtr with freq := 0 } }
  raise (if s.regB R.MEA_CTL 0 then s1 else s1.setRegB R.MEA_FREQ 20 false) 0x38 4

/-- A positive-going zero crossing of the reference voltage between the last sample and a new one, in ns of the metering
clock: the sample of a quantum is taken at its end. -/
def crossing (s : State) (w : List MtrPoint) : Option Nat :=
  match refPhase s w, w with
  | some p, x :: y :: _ =>
    let a := lget y.v p 0
    let b := lget x.v p 0
    if a < 0 ∧ 0 ≤ b then some (s.mtr.num * 125000 + ((-a) * 125000 / (b - a)).toNat) else none
  | _, _ => none

/-- A frequency below 45 Hz: more than 1/45 s has passed since the last crossing. -/
def tooSlow (s : State) : Bool :=
  match s.mtr.newCross, s.mtr.cross with
  | none, some t => decide (1000000000 < 45 * ((s.mtr.num + 1) * 125000 - t))
  | _, _ => false

/-- The samples of a quantum join the window (R358), with the crossing they show. -/
def takeSample (s : State) (x : MtrSample) (stamp : Nat) : State :=
  let w := (mtrPoint s x :: s.mtr.win).take 800
  let m := { s.mtr with
    win := w, prev := x.i ++ [x.n], num := s.mtr.num + 1, pos := (s.mtr.pos + 1) % 800, stepped := false, stamp := stamp,
    due := some (s.mtr.due.getD s.up + 125000) }
  { s with mtr := { m with newCross := (crossing { s with mtr := m } w).or m.newCross } }

/-- The checks of every quantum (R359, R378, Table 11-11): an input beyond its range, the neutral current, the reference
voltage, and a phase that stayed below 40 % of Un for a whole window. -/
def quantumChecks (s : State) : State :=
  let w := s.mtr.win
  let s1 := if (w.head?).any (clips s) then raise s 0x38 8 else s
  let s2 := neutralCheck s1
  let s3 := if (refPhase s w).isNone || tooSlow s then freqLost s2 else s2
  let vl := decide (w.length = 800) && (List.range 3).any fun p => !vPresent s w p
  let s4 := if vl && !s.mtr.vloss then raise s3 0x38 3 else s3
  { s4 with mtr := { s4.mtr with vloss := vl } }

/-- No quantum is metered at or after the freeze point of a power cut (R382). -/
def frozen (s : State) (stamp : Nat) : Bool :=
  match s.mtr.freeze with
  | some f => decide (f ≤ stamp)
  | none => cutPower s

/-- A gap that waits for the next quantum metered (R386). -/
def closeGap (s : State) (stamp : Nat) : State :=
  match s.mtr.gap with
  | some (a, loss) => appendGap { s with mtr := { s.mtr with gap := none } } a stamp loss
  | none => s

/-- The stamp of the quantum that is due (R356): the local-clock time at its start, truncated to a multiple of 125 µs. -/
def dueStamp (s : State) : Nat := (nowNs s - (s.up - s.mtr.due.getD s.up)) / 125000 * 125000

/-- The flags that a quantum brings to its interval (R378), metered or not: the step to the interval it left, that of the stamp
`prev` before it, and, where it leads into the middle of another, to that one, which then is INCOMPLETE too. -/
def quantFlags (s : State) (prev stamp : Nat) (step valid vloss metered : Bool) : State :=
  let m := flagAt s.mtr stamp (b2n (!metered) + 8 * b2n (!valid) + 16 * b2n vloss)
  let len := ivlLen (s.regF R.MTR_CTL 1 3)
  let away := decide (m.ivl.at_ ≤ stamp) && stamp % len != 0 && decide (prev < m.ivl.at_ ∨ prev / len ≠ stamp / len)
  { s with mtr := if !step then m else
      let m1 := if m.ivl.at_ = 0 then m else if ivlPassed m then flagAt m prev 4 else { m with ivlFlags := m.ivlFlags ||| 4 }
      if away then laterFlag m1 (stamp / minuteNs) 5 else m1 }

/-- The accumulators are mirrored to the partner (Table 14-4). -/
def mirAcc (s : State) : State :=
  if s.pair.role = .active ∧ metering s ∧ elapsed s s.pair.lastAcc 100000000 then
    let ws := ((List.range 101).map fun a =>
      let v := accVal s a; [w32 (accCount v), w32 (accCount v / 2 ^ 32), w32 (v % 2 ^ 32)]).flatten
    streamSend { s with pair := { s.pair with lastAcc := s.up } } (.mirror [.acc ws])
  else s

/-- METER_QUANTUM (R356, R358, R361-R363, R370, R378), once its 3,072 cycles have begun: samples are taken; energies are
buffered for folding while the module meters, is past replay and before the freeze point. -/
def meterQuantum (s : State) (x : MtrSample) : State :=
  if (s.mtr.due.any fun t => decide (s.up < t)) then s
  else
  let stamp := dueStamp s
  let on := metering s && s.lin.state != 0 && !frozen s stamp
  let s0 := quantumChecks (takeSample s x stamp)
  let s1 := quantFlags s0 s.mtr.stamp stamp s.mtr.stepped s.clkr.valid s0.mtr.vloss on
  let s2 := if s1.mtr.pos = 0 then meaUpdate s1 x (stamp + 125000) else s1
  if !on then { s2 with mtr := { s2.mtr with run := false } }
  else mirAcc <|
    let s3 := closeLost (closeGap (if s2.mtr.run then s2 else meterStart s2 stamp) stamp) stamp
    let w := s3.mtr.win
    let all := (if w.length = 800 then acIncs s w else []) ++ s3.mtr.carry ++ dcIncs s x
    let s4 := { s3 with mtr := { s3.mtr with carry := [] } }
    (setsOf s).foldl (fun t k =>
      bufferSet t k ⟨s4.mtr.num, stamp, s.mtr.stepped, all.filter fun e => setOf e.1 == k⟩) s4

/-- Fundamental energies enter the quantum in which the closing crossing falls (R359), one at its very end the next (R29);
where that one is folded already, or still to come, the next one taken. -/
def cycleEnergies (s : State) (t : Nat) (incs : List (Nat × Nat)) : State :=
  let x := s.mset 0
  if x.q.any fun q => q.num == t / 125000 then
    s.setMset 0 { x with q := x.q.map fun q => if q.num = t / 125000 then { q with incs := q.incs ++ incs } else q }
  else { s with mtr := { s.mtr with carry := s.mtr.carry ++ incs } }

/-- The accumulators that a cycle's active and reactive energies enter (R360, R366), from the base of a set of eight. -/
def cycleIncs (base tc : Nat) (pq : Int × Int) : List (Nat × Nat) :=
  let e (y : Int) : Nat := y.natAbs * tc * 4294967296 / 1000000000000000000
  let quad := if 0 ≤ pq.1 then (if 0 ≤ pq.2 then 4 else 7) else (if 0 ≤ pq.2 then 5 else 6)
  [(base + (if 0 ≤ pq.1 then 2 else 3), e pq.1), (base + quad, e pq.2)]

/-- The samples of the cycle between two crossings, newest first, each with its time from the first crossing in ns. The
sample numbered j is taken at j × 125 µs of the metering clock. -/
def cycleSamples (s : State) (t0 t : Nat) : List (Nat × MtrPoint) :=
  let last := cdiv t 125000 - 1
  let first := cdiv t0 125000
  let ws := (s.mtr.win.drop (s.mtr.num + 1 - last)).take (last + 1 - first)
  ws.zip ((List.range ws.length).map fun k => (last - k) * 125000 - t0) |>.map fun e => (e.2, e.1)

/-- π ÷ 2 in units of 2^-60. -/
def halfPi : Int := 1811004864519280710

/-- Taylor's sums in units of 2^-60: a term, and the terms after it, each −a² ÷ (k (k + 1)) times the one before. -/
def taylor (a2 : Int) : Nat → Nat → Int → Int
  | 0, _, t => t
  | n + 1, k, t => t + taylor a2 n (k + 2) (-(t * a2 / 2 ^ 60) / (k * (k + 1)))

/-- Cosine and sine, in units of 2^-60, of an angle of the first quadrant. -/
def cosQ (a : Int) : Int := taylor (a * a / 2 ^ 60) 14 1 (2 ^ 60)
def sinQ (a : Int) : Int := taylor (a * a / 2 ^ 60) 14 2 a

/-- Cosine and sine of 2π × n ÷ d, in units of 2^-60. -/
def cosTurn (n d : Nat) : Int :=
  let a := halfPi * ((4 * n % d : Nat) : Int) / (d : Int)
  match 4 * n / d % 4 with | 0 => cosQ a | 1 => -sinQ a | 2 => -cosQ a | _ => sinQ a
def sinTurn (n d : Nat) : Int :=
  let a := halfPi * ((4 * n % d : Nat) : Int) / (d : Int)
  match 4 * n / d % 4 with | 0 => sinQ a | 1 => cosQ a | 2 => -sinQ a | _ => -cosQ a

/-- The fundamental of a cycle of `tc` ns (R359), in units of 2^-60 of the sample unit and without the factor √2 ÷ M: the
sums of x·cos θ and of −x·sin θ. -/
def fundSum (xs : List (Nat × Int)) (tc : Nat) : Int × Int :=
  xs.foldl (fun a e => (a.1 + e.2 * cosTurn e.1 tc, a.2 - e.2 * sinTurn e.1 tc)) (0, 0)

/-- P1 and Q1 of a phase in pW and pvar (R359): P1 + jQ1 = V1 · conj(I1) over the samples (time, µV, µA). -/
def fundamental (xs : List (Nat × Int × Int)) (tc : Nat) : Int × Int :=
  let v := fundSum (xs.map fun e => (e.1, e.2.1)) tc
  let i := fundSum (xs.map fun e => (e.1, e.2.2)) tc
  let d : Int := xs.length * xs.length * 2 ^ 120
  (2 * (v.1 * i.1 + v.2 * i.2) / d, 2 * (v.2 * i.1 - v.1 * i.2) / d)

/-- Fundamental power of a phase over the cycle from crossing `t0` to `t` (R359). -/
def cycleFund (s : State) (t0 t p : Nat) : Int × Int :=
  fundamental ((cycleSamples s t0 t).map fun x => (x.1, lget x.2.v p 0, lget x.2.i p 0)) (t - t0)

/-- The phases of a cycle that pass the no-load test (R361). -/
def cyclePhases (s : State) (t0 t : Nat) : List Nat :=
  (List.range 3).filter fun p =>
    let f := cycleFund s t0 t p
    decide (noloadPw s * noloadPw s ≤ (f.1 * f.1 + f.2 * f.2).natAbs) || iStarts s s.mtr.win p

/-- Their sum (R361). -/
def cycleTotal (s : State) (t0 t : Nat) : Int × Int :=
  (cyclePhases s t0 t).foldl (fun a p => (a.1 + (cycleFund s t0 t p).1, a.2 + (cycleFund s t0 t p).2)) (0, 0)

/-- LINE_CYCLE (R359-R361, R363): the cycle that ended with the newest crossing. -/
def lineCycle (s : State) : State :=
  match s.mtr.newCross, s.mtr.cross with
  | none, _ => s
  | some t, none => { s with mtr := { s.mtr with cross := some t, newCross := none } }
  | some t, some t0 =>
    let s1 := { s with mtr := { s.mtr with cross := some t, newCross := none } }
    let tc := t - t0
    -- 45-66 Hz: 15,151,515.15 to 22,222,222.2 ns
    if !(decide (1000000000 ≤ 66 * tc) && decide (45 * tc ≤ 1000000000) && (refPhase s s.mtr.win).isSome) then freqLost s1
    else
      let f := cycleFund s t0 t
      let ps := cyclePhases s t0 t
      let all := (ps.map fun p => cycleIncs (8 * p) tc (f p)).flatten ++ cycleIncs 24 tc (cycleTotal s t0 t)
      let s2 := { s1 with mtr := { s1.mtr with freq := 1000000000000 / tc, cyc := [f 0, f 1, f 2, cycleTotal s t0 t] } }
      if s.mtr.run then cycleEnergies s2 t all else s2

/-! Folding (11.4) -/

/-- A quantum of an item: the item names the first by the low 32 bits of its number (Table 4-6). -/
def covers (first n : Nat) (q : Quant) : Bool := decide ((q.num % 2 ^ 32 + 2 ^ 32 - first) % 2 ^ 32 < n)

/-- The METER_FOLD items of a set that the Hatrack holds, queued or in service. -/
def foldItems (s : State) (k : Nat) : List Item :=
  ((s.flow 240).queue ++ (s.htk.svc.filter fun v => v.flow == 240).map (·.item)).filter fun i =>
    i.kind == kFold && i.f 6 0 8 == k

/-- A quantum that an item covers (R371). -/
def covered (items : List Item) (q : Quant) : Bool := items.any fun i => covers (i.word 7).toNat (i.f 8 0 11) q

/-- The first uncovered quantum of a buffer and the length of the consecutive run it begins. -/
def uncovered (items : List Item) (q : List Quant) : Option (Quant × Nat) :=
  match q.dropWhile (covered items) with
  | [] => none
  | a :: r =>
    let un := a :: r
    some (a, ((un.zip (List.range un.length)).takeWhile fun e => e.1.num == a.num + e.2 && !covered items e.1).length)

/-- METER_FOLD_ENQUEUE (R369, R371): for each set an item over its oldest uncovered quanta, once 8 are held, or where no
further quantum can join them. -/
def foldEnqueue1 (s : State) (k : Nat) : State :=
  let x := s.mset k
  match uncovered (foldItems s k) x.q with
  | none => s
  | some (q, n) =>
    let closed : Bool := x.q.getLast?.any fun l => decide (q.num + n ≤ l.num)
    if 8 ≤ n ∨ s.mtr.freeze.isSome ∨ closed then
      (enqueueIn s (mkItem ⟨kFold, 240, 0, false, 0, 0, noTime, 1, 0, true⟩ [k, q.num, min 1024 n])).1
    else s

def foldEnqueue (s : State) : State := (setsOf s).foldl foldEnqueue1 s

/-- An accumulator grows (R365, R373): spills of its pulse output, PCOUNT and backlog (R375). -/
def accAdd (s : State) (a inc : Nat) : State :=
  let v := accVal s a
  let unit := s.entF tACC a 5 0 17 * 3600
  let n := accCount (v + inc) / unit - accCount v / unit
  let s1 := { s with mtr := { s.mtr with acc := sput s.mtr.acc a (v + inc) 0, spills := smod s.mtr.spills a 0 (· + n) } }
  if n = 0 then s1
  else (List.range 2).foldl (fun t k =>
    if t.regF (R.MTR_PO k) 0 7 ≠ a then t
    else
      let p := lget t.mtr.po k ⟨0, 0, 0⟩
      let room := 65535 - p.queued
      let t1 := { t with mtr := { t.mtr with po := t.mtr.po.set k { p with queued := p.queued + min n room } } }
      if n ≤ room then t1 else raise (t1.count (R.MTR_PO k) 16 16 (n - room)) 0x38 6) s1

/-- Values of a set's accumulators, out of those of all, written into a mark. -/
def markSet (acc : SMap Nat) (m : Mark) (k stamp : Nat) : Mark :=
  let as := (List.range 101).filter fun a => setOf a == k
  { m with done := k :: m.done, stamp := stamp, vals := as.foldl (fun v a => sput v a (sgetD acc a 0) 0) m.vals }

/-- A set's quanta folded already meet the mark of the next interval (R377, R379): the mark, and those from its end on. -/
def markAfter (m : Mark) (k : Nat) : List Quant → SMap Nat → Mark × List Quant
  | [], _ => (m, [])
  | q :: qs, v =>
    if m.at_ ≤ q.stamp then (markSet v m k q.stamp, q :: qs)
    else markAfter m k qs (q.incs.foldl (fun v e => smod v e.1 0 (· + e.2)) v)

/-- After a backward step the save times passed again are save times again (R380). -/
def saveStep (s : State) (q : Quant) : State :=
  let b := nextBoundary (saveLen s) q.stamp
  if q.step ∧ s.mtr.save.done = [] ∧ b < s.mtr.save.at_ then
    { s with mtr := { s.mtr with save := { s.mtr.save with at_ := b } } }
  else s

/-- Fold one quantum into a set, noting boundaries that it is the first to pass (R377, R380). -/
def foldQuant (s0 : State) (k : Nat) (q : Quant) : State :=
  let s := saveStep s0 q
  let m := s.mtr
  let ivl := if m.ivl.at_ ≤ q.stamp ∧ !m.ivl.done.contains k then markSet m.acc m.ivl k q.stamp else m.ivl
  let sv := if m.save.at_ ≤ q.stamp ∧ !m.save.done.contains k then markSet m.acc m.save k q.stamp else m.save
  let s0 := { s with mtr := { m with ivl := ivl, save := sv } }
  let x := s0.mset k
  let s1 := if ivl.done.contains k then s0.setMset k { x with after_ := x.after_ ++ [q] } else s0
  q.incs.foldl (fun t e => accAdd t e.1 e.2) s1

/-- Every set has passed a mark. -/
def markFull (s : State) (m : Mark) : Bool := (setsOf s).all m.done.contains

/-- An interval closes once every set has passed its end (R377, R379): the INTERVAL record, and the next interval, which
starts at that end, or at the boundary before the first quantum after it where the clock has passed over others. What is
folded of that one already may have passed its end too. -/
def intervalClose (s : State) : State :=
  let m := s.mtr
  if !markFull s m.ivl then s
  else
    let s1 := (linSubmit s (mkRec s 0x31 false true (intervalPayload s m.ivl.vals))).1
    let code := s.regF R.MTR_CTL 1 3
    let len := ivlLen code
    let start := max m.ivl.at_ (m.ivl.stamp / len * len)
    let m1 := { s1.mtr with
      ivlStart := start, ivlCode := code, ivlFlags := laterFlags s1.mtr start (nextBoundary len m.ivl.stamp),
      ivlLater := sdelIf s1.mtr.ivlLater fun k => decide (k < nextBoundary len m.ivl.stamp / minuteNs),
      ivlOpen := m.ivl.vals, ivl := ⟨nextBoundary len m.ivl.stamp, [], [], 0⟩ }
    (setsOf s).foldl (fun t k =>
      let r := markAfter t.mtr.ivl k (t.mset k).after_ m.ivl.vals
      { t with mtr := { t.mtr with ivl := r.1 } }.setMset k { t.mset k with after_ := r.2 }) { s1 with mtr := m1 }

/-- Every interval whose end all sets have passed closes, at most `n` of them. -/
def intervalsClose : Nat → State → State
  | 0, s => s
  | n + 1, s => if markFull s s.mtr.ivl then intervalsClose n (intervalClose s) else s

/-- METER_FOLD_COMPLETE (R369): the item's quanta are folded in one step. -/
def foldComplete (s : State) : State :=
  match svcOf s .fold with
  | none => s
  | some v =>
    let k := v.item.f 6 0 8
    let c := covers (v.item.word 7).toNat (v.item.f 8 0 11)
    let x := s.mset k
    let mine := x.q.filter c
    let s1 := mine.foldl (fun t q => foldQuant t k q) s
    let last := match mine.getLast? with | some q => q.stamp | none => x.folded
    let s2 := s1.setMset k { s1.mset k with q := x.q.filter fun q => !c q, folded := last }
    completeItem (intervalsClose ((s2.mset 0).after_.length + 1) s2) v

/-- MTR_BUF.PENDING. -/
def bufPending (s : State) : Nat := ((List.range 4).map fun k => (s.mset k).q.length).foldl max 0

/-! Saves (R380, R382, R383) -/

/-- ENERGY_SAVE: the record of a save time every set has passed, or the FINAL record of a power cut once every quantum
before the freeze point is folded. -/
def energySave (s : State) : State :=
  let m := s.mtr
  match m.freeze with
  | some f =>
    if !m.finalDone && (setsOf s).all fun k => (s.mset k).q.isEmpty then
      let r := linSubmit s (mkRec s 0x30 true false (energyPayload s f true m.acc))
      let s1 := { r.1 with mtr := { r.1.mtr with finalDone := true } }
      if r.2 then s1 else raise s1 0x38 2
    else s
  | none =>
    if m.run && markFull s m.save then
      let r := linSubmit s (mkRec s 0x30 false false (energyPayload s m.save.stamp false m.save.vals))
      let late := ((setsOf s).map fun k => (s.mset k).folded).foldl max m.save.stamp
      let s1 := { r.1 with mtr := { r.1.mtr with save := ⟨nextBoundary (saveLen s) late, [], [], 0⟩ } }
      if r.2 then s1 else raise s1 0x38 2
    else s

/-- The power-fail warning fixes the freeze point where the module accumulates (R382): the stamp of the first quantum that
starts now or later, which is not metered, also where it has been taken in this very cycle (Table 11-10). The pulse outputs open
(R375). -/
def meterFreeze (s : State) : State :=
  let d := s.mtr.due.getD s.up
  let ran := s.mtr.due.any fun t => t == s.up + 125000
  let start := if d < s.up then d + cdiv (s.up - d) 125000 * 125000 else d
  let f := if ran then s.mtr.stamp else (nowNs s + (start - s.up)) / 125000 * 125000
  let po := s.mtr.po.map fun p => { p with queued := 0, until_ := s.up }
  let m := { s.mtr with po := po }
  if !s.mtr.run || s.mtr.freeze.isSome then { s with mtr := m }
  else
    let sets := if ran then m.sets.map fun x => { x with q := x.q.filter fun q => q.num != m.num } else m.sets
    { s with mtr := { m with freeze := some f, sets := sets } }

/-! Pulse outputs (11.6) -/

/-- PULSE_EMIT (R374): the output closes for WIDTH ms and stays open for as long. -/
def pulseEmit (s : State) (k : Nat) : State :=
  let p := lget s.mtr.po k ⟨0, 0, 0⟩
  let w := s.regF (R.MTR_PO k) 8 8 * 1000000
  if 0 < p.queued ∧ p.ready ≤ s.up ∧ s.mtr.run ∧ s.mtr.freeze.isNone ∧ k < 2 then
    { s with mtr := { s.mtr with po := s.mtr.po.set k ⟨p.queued - 1, s.up + w, s.up + 2 * w⟩ } }
  else s

/-- A pulse output is closed. -/
def pulseClosed (s : State) (k : Nat) : Bool := decide (s.up < (lget s.mtr.po k ⟨0, 0, 0⟩).until_)

/-! Seal, snapshots, resets -/

/-- METER_CAL payload (Table 11-7). -/
def calPayload (s : State) : List Byte :=
  recTime (nowNs s) ++ leBytes 2 s.mtr.changes ++ leBytes 12 0 ++
    ((List.range 17).map fun k => leBytes 4 (s.entW tMTRC k 0).toNat ++ leBytes 4 (s.entW tMTRC k 1).toNat).flatten ++
    leBytes 4 (s.reg R.MTR_NOM).toNat ++ leBytes 4 (s.reg R.MTR_NOLOAD).toNat

/-- MTR_SEAL.CLOSE (R387): no effect when already sealed. -/
def sealClose (s : State) : State :=
  if s.regB R.MTR_SEAL 0 then s
  else
    let c := satAdd 16 s.mtr.changes 1
    let s1 := { s with mtr := { s.mtr with changes := c } }
    let s2 := (s1.setRegB R.MTR_SEAL 0 true).setRegF R.MTR_SEAL 16 16 c
    raise (linSubmit s2 (mkRec s2 0x33 false false (calPayload s2))).1 0x38 7

/-- The owner's command opens the seal (R387). -/
def sealOpen (s : State) : State :=
  if s.regB R.MTR_SEAL 0 then raise (s.setRegB R.MTR_SEAL 0 false) 0x38 7 else s

/-- ACC_SNAP.TAKE (R369): the stamp of the first quantum not in the snapshot is that of the oldest unfolded one. -/
def snapTake (s : State) (req : Nat) : State :=
  let firsts := (setsOf s).filterMap fun k => ((s.mset k).q.head?).map (·.stamp)
  let t := match firsts with | [] => s.mtr.stamp + 125000 | x :: xs => xs.foldl min x
  { s with mtr := { s.mtr with snaps := sset s.mtr.snaps req ⟨s.mtr.acc, t⟩ } }

/-- This module holds its partner's accumulators (R388): MTR PG_STAT.MIRROR. -/
def mirrors (s : State) : Bool := !s.regB R.MTR_CTL 0 && !s.pair.accs.isEmpty

/-- An accumulator as the ACC page shows it: the partner's, its own snapshot or its own (R54, R388). -/
def accShown (s : State) (req a : Nat) : Nat :=
  if mirrors s then
    let w (k : Nat) : Nat := (lget s.pair.accs (3 * a + k) 0#32).toNat
    (w 0 + w 1 * 2 ^ 32) * 2 ^ 32 + w 2
  else match bit (s.breg req R.ACC_SNAP) 1, sget s.mtr.snaps req with
    | true, some x => sgetD x.vals a 0
    | _, _ => accVal s a

/-- The words of an accumulator entry for a requester (Table 11-15). -/
def accEntry (s : State) (req a : Nat) : List Word :=
  let v := accShown s req a
  let c := accCount v
  [w32 c, w32 (c / 2 ^ 32), w32 (v % 2 ^ 32), w32 (c / 3600), w32 (c / 3600 / 2 ^ 32), s.entW tACC a 5,
   w32 (sgetD s.mtr.spills a 0), w32 (s.mtr.gaps % 65536 + s.mtr.ivlFlags % 32 * 65536)]

/-- A reset of island 10 loses the quanta it holds (R386): a gap with LOSS follows. -/
def meterReset (s : State) : State :=
  let held := ((setsOf s).map fun k => (s.mset k).q).flatten
  let n := held.length
  let sets := s.mtr.sets.map fun x => { x with q := [], lost := none }
  -- a gap that no quantum has ended yet goes on
  let gap := match s.mtr.gap, held with
    | some g, _ => some (g.1, true)
    | none, [] => if s.mtr.run then some (s.mtr.stamp + 125000, true) else none
    | none, q :: _ => some ((held.map (·.stamp)).foldl min q.stamp, true)
  let m := { s.mtr with sets := sets, gap := gap, win := [], due := none, prev := [], cross := none, newCross := none, freq := 0, cyc := [], carry := [], snaps := [] }
  let s1 := { s with mtr := m }
  if n = 0 then s1 else s1.count R.MTR_LOST 0 32 n

/-- Accumulators and GAPS as an ENERGY payload holds them (R384). -/
def energyVals (b : List Byte) : SMap Nat :=
  (List.range 101).foldl (fun m a =>
    let o := 16 + 12 * a
    sput m a (leNat ((b.drop o).take 8) * 4294967296 + leNat ((b.drop (o + 8)).take 4)) 0) []

/-- Restore the accumulators from an ENERGY record (R384, R471). A FINAL after which the module has metered again was frozen before
the last freeze point (R385). -/
def energyRestore (s : State) (r : LRec) (again : Bool) : State :=
  let b := r.payload
  let f := leNat ((b.drop 4).take 6) * 1000000000 + leNat (b.take 4)
  let m := { s.mtr with acc := energyVals b, gaps := leNat ((b.drop 14).take 2), restored := some (f, r.final && !again) }
  { s with mtr := m }

/-- The partner meters (R388): it is heard, and its accumulators arrive, every 100 ms, as the one message that says so (DESIGN
CHOICE, log 147). -/
def partnerMeters (s : State) : Bool := s.pair.partner && !s.pair.accs.isEmpty && !elapsed s s.pair.lastAcc 200000000

end Sys2Proof.Machine
end

