-- ==== Sys2Proof/Machine/Hatband.lean ====
section
/-! DEFINITION. The Hatband (chapter 13): frames, forwarding, neighbours, addresses, the event relay, remote requests
and the segments of updates. Ports are 0 H0 and 1 H1, on pages 0x22 and 0x23. -/

namespace Sys2Proof.Machine

def hbPg (p : Nat) : Nat := 0x22 + p
def hbPort0 : HbPort := ⟨none, none, none, false⟩
def State.hbp (s : State) (p : Nat) : HbPort := sgetD s.hb.ports p hbPort0
def State.setHbp (s : State) (p : Nat) (x : HbPort) : State :=
  { s with hb := { s.hb with ports := sput s.hb.ports p x hbPort0 } }

/-- A port is UP (R425). -/
def hbUp (s : State) (p : Nat) : Bool := (s.hbp p).isUp

/-- The module's own address, and its state: 0 UNASSIGNED, 1 JOINING, 2 ASSIGNED (Table 13-11). -/
def ownAddr (s : State) : Nat := s.regF (R.HB_ADDR 0) 0 8
def addrState (s : State) : Nat := s.regF (R.HB_ADDR 0) 16 2
def setAddrState (s : State) (v : Nat) : State := s.setRegF (R.HB_ADDR 0) 16 2 v
def isRegistrar (s : State) : Bool := s.regB (R.HB_ADDR 0) 18

/-- The service address, and whether frames to it are delivered (R434). -/
def svcAddr (s : State) : Nat := s.regF (R.HB_SVC 0) 0 8
def svcActive (s : State) : Bool := s.regB (R.HB_SVC 0) 8

/-- The pair ID (Table 14-11). -/
def pairId (s : State) : Nat := (s.reg (R.MIR_PAIR 1)).toNat * 2 ^ 32 + (s.reg (R.MIR_PAIR 0)).toNat
def peerSerial (s : State) : Nat := (s.reg (R.MIR_PEER 1)).toNat * 2 ^ 32 + (s.reg (R.MIR_PEER 0)).toNat

/-- Ring state: 0 ISOLATED, 1 CHAIN, 2 RING. -/
def ringState (s : State) : Nat := s.regF (R.HB_RING 0) 0 2
def setRingState (s : State) (v : Nat) : State := s.setRegF (R.HB_RING 0) 0 2 v

/-! Frames (13.1, 13.2) -/

/-- The bytes of a Ryuward frame after the EtherType (Table 13-1). -/
def ryuBytes (f : Ryu) : List Byte :=
  beBytes 1 1 ++ beBytes 1 f.typ ++ beBytes 1 f.dst ++ beBytes 1 f.src ++ beBytes 2 f.id ++ f.pl

/-- The order in which the Ryuward engine hands frames to the MAC (R424), as transmit priorities 2-6. -/
def ryuRank (typ : Nat) : Nat :=
  if typ = 0x08 then 2 else if typ = 0x05 then 3 else if typ = 0x01 then 4 else if typ = 0x30 then 6 else 5

/-- Hand a frame to the MAC of a port. -/
def ryuOut (s : State) (p : Nat) (f : Ryu) : State :=
  macSend s (hbPg p) (ryuRank f.typ) (etherFrame s (hbPg p) (2 ^ 48 - 1) (s.regF (R.HB_CTL 0) 16 16) (ryuBytes f))

/-- The serial that belongs to the key of R423 where the source is 0. -/
def ryuSer (f : Ryu) : Nat := if f.src = 0 then beNat (f.pl.take 8) else 0

/-- The same frame (R423). -/
def sameRyu (x : Seen) (f : Ryu) : Bool := x.src == f.src && x.typ == f.typ && x.id == f.id && x.ser == ryuSer f

/-- Note that a frame has arrived on a port; what was seen more than 10 ms ago is forgotten (R423). -/
def noteSeen (s : State) (p : Nat) (f : Ryu) : State :=
  let keep := s.hb.seen.filter fun x => decide (s.up < x.at_ + 10000000)
  { s with hb := { s.hb with seen := keep ++ [⟨f.src, f.typ, f.id, ryuSer f, p, s.up⟩] } }

/-- A frame already seen within the last 10 ms, on a port or on either. -/
def seenOn (s : State) (p : Nat) (f : Ryu) : Bool :=
  s.hb.seen.any fun x => sameRyu x f && x.port == p && decide (s.up < x.at_ + 10000000)
def seenAny (s : State) (f : Ryu) : Bool := seenOn s 0 f || seenOn s 1 f

/-- The port an originated frame leaves by (R422). -/
def outPort (s : State) (pref : Nat) : Option Nat :=
  if hbUp s pref then some pref else if hbUp s (1 - pref) then some (1 - pref) else none

/-- Originate a frame with a destination other than 0 (R422): leaving by a port counts as having arrived on the other.
With no port UP it is lost. -/
def ryuOriginate (s : State) (pref : Nat) (f : Ryu) : State :=
  match outPort s pref with
  | none => s
  | some p => ryuOut (noteSeen s (1 - p) f) p f

/-- A fresh ID (R421). -/
def nextId (s : State) : State := { s with hb := { s.hb with nextId := (s.hb.nextId + 1) % 65536 } }

/-- Originate a frame of a type by H1 with a fresh ID. -/
def ryuNew (s : State) (typ dst src : Nat) (pl : List Byte) : State :=
  ryuOriginate (nextId s) 1 ⟨typ, dst, src, s.hb.nextId, pl⟩

/-- Send a frame to the neighbour on a port (destination 0): only a HELLO on a port that is not UP (R425). -/
def ryuNbr (s : State) (p typ : Nat) (pl : List Byte) : State :=
  if typ ≠ 0x01 ∧ !hbUp s p then s else ryuOut (nextId s) p ⟨typ, 0, ownAddr s, s.hb.nextId, pl⟩

/-- A destination that is this module. -/
def ryuMine (s : State) (dst : Nat) : Bool :=
  dst != 0 && (dst == ownAddr s || (svcActive s && dst == svcAddr s))

/-- Handle an arriving frame with a destination other than 0 (R423): duplicate, delivery, forwarding or wrap. The answer
says whether it is delivered. -/
def ryuArrive (s : State) (p : Nat) (f : Ryu) : State × Bool :=
  if seenOn s p f then (s.count (R.HB_DUP p) 0 32 1, false)
  else
    let first := !seenAny s f
    let s1 := noteSeen s p f
    let dlv := first && (f.dst == 255 || ryuMine s f.dst)
    if ryuMine s f.dst then (s1, dlv)
    else if hbUp s1 (1 - p) then (ryuOut (s1.count (R.HB_FWD p) 0 32 1) (1 - p) f, dlv)
    else
      let s2 := s1.count (R.HB_WRAP p) 0 32 1
      (if hbUp s2 p then ryuOut s2 p f else s2, dlv)

/-! The ring table (13.4) -/

/-- Serial, state and SVC of a ring table entry. -/
def ringSerial (s : State) (a : Nat) : Nat := (s.entW tHBT a 1).toNat * 2 ^ 32 + (s.entW tHBT a 0).toNat
def ringSt (s : State) (a : Nat) : Nat := s.entF tHBT a 2 0 2
def ringSvc (s : State) (a : Nat) : Bool := s.entF tHBT a 2 2 1 == 1
def ringAddrs : List Nat := (List.range 254).map (· + 1)

/-- An address of a module or a service (R28). -/
def isRingAddr (a : Nat) : Bool := decide (1 ≤ a) && decide (a ≤ 254)

/-- Payload of a RING record (Table 15-3). -/
def ringPayload (s : State) : List Byte :=
  leBytes 1 (ownAddr s) ++ leBytes 1 (s.regF (R.HB_ADDR 0) 8 8) ++ leBytes 2 0 ++
    (ringAddrs.map fun a => leBytes 8 (ringSerial s a) ++ leBytes 1 (ringSt s a) ++ leBytes 1 (b2n (ringSvc s a))).flatten

/-- Persist the own address and the ring table (R433). -/
def ringSave (s : State) : State := (linSubmit s (mkRec s 0x48 false false (ringPayload s))).1

/-- PRESENT entries. -/
def presents (s : State) : List Nat := ringAddrs.filter fun a => ringSt s a == 2

/-- Send an ANNOUNCE of the own address, and of the service address while it is active (R431, R434). -/
def sendAnnounce (s : State) : State :=
  if addrState s ≠ 2 then s
  else
    let t := s.hb.claim
    let pl := beBytes 8 s.hw.serial ++ beBytes 4 (nsOf t) ++ beBytes 6 (secOf t) ++ beBytes 1 (2 * b2n (isRegistrar s)) ++
      beBytes 5 0
    let lap := if outPort s 1 = some 1 then some s.hb.nextId else none
    let s1 := ryuNew s 0x02 255 (ownAddr s) pl
    let s2 := { s1 with hb := { s1.hb with annSent := some s1.up, lap := lap } }
    if svcActive s2 then
      let u := s2.hb.svcClaim
      ryuNew s2 0x02 255 (svcAddr s2)
        (beBytes 8 (pairId s2) ++ beBytes 4 (nsOf u) ++ beBytes 6 (secOf u) ++ beBytes 1 1 ++ beBytes 1 0 ++ beBytes 4 (fence s2))
    else s2

/-- Bring NPRES and the registrar role up to date (R429); a change of role is announced at once (R431). -/
def ringTouch (s : State) : State :=
  let ps := presents s
  let reg := addrState s == 2 && ps.all fun a => ringSvc s a || decide (ownAddr s ≤ a)
  let s1 := s.setRegF (R.HB_RING 0) 8 8 ps.length
  if reg = isRegistrar s then s1 else sendAnnounce (s1.setRegB (R.HB_ADDR 0) 18 reg)

/-- Write a ring table entry, of addresses 1–254 alone (R28): MEMBER where an entry joins or leaves PRESENT, and the table
is persisted (R433). -/
def setRing (s : State) (a serial st : Nat) (svc : Bool) : State :=
  let ws := if serial = 0 ∧ st = 0 then [] else [w32 serial, w32 (serial / 2 ^ 32), w32 (st + 4 * b2n svc)]
  if ws = s.ent tHBT a ∨ !isRingAddr a then s
  else
    let other := serial != s.hw.serial && (b2n (st == 2) != b2n (ringSt s a == 2))
    let s1 := s.setEnt tHBT a ws
    let s2 := ringSave (ringTouch s1)
    if other then raise s2 0x22 9 else s2

/-- Note an announcement's claim and instant. -/
def noteRing (s : State) (a claim : Nat) : State :=
  if !isRingAddr a then s else
  { s with hb := { s.hb with ring := sset s.hb.ring a ⟨claim, s.up⟩ } }

/-- The module takes an address (R428, R430). -/
def takeAddr (s : State) (a : Nat) : State :=
  let s1 := s.setRegF (R.HB_ADDR 0) 0 18 (a + a * 256 + 2 * 65536)
  let s2 := { s1 with hb := { s1.hb with claim := nowNs s, noroom := false } }
  let s3 := noteRing (setRing s2 a s.hw.serial 2 false) a (nowNs s)
  sendAnnounce (raise (ringTouch (ringSave s3)) 0x22 6)

/-- The module enters JOINING (R428). -/
def enterJoining (s : State) : State :=
  let s1 := setAddrState s 1
  { s1 with hb := { s1.hb with joins := 0, joinAt := none, joinSince := s.up, noroom := false } }

/-- Join where HB_CTL.JOIN is 1, a port is UP and the module is UNASSIGNED (R428). -/
def joinIf (s : State) : State :=
  if s.regB (R.HB_CTL 0) 0 && (hbUp s 0 || hbUp s 1) && addrState s == 0 && !s.hb.noroom then enterJoining s else s

/-- The module gives up its address: 0, and the registrar role with it. -/
def dropAddr (s : State) : State := ringTouch ((setAddrState (s.setRegF (R.HB_ADDR 0) 0 8 0) 0).setRegB (R.HB_ADDR 0) 18 false)

/-- Demotion (R432): address 0, DEMOTED, JOINING. -/
def demote (s : State) : State := enterJoining (ringSave (raise (dropAddr s) 0x22 7))

/-- The registrar's answer to a JOIN (Table 13-4): the address given, 0 for none; the entry becomes PRESENT. -/
def joinAnswer (s : State) (serial req : Nat) (svc : Bool) : State × Nat :=
  let known := ringAddrs.find? fun a => ringSt s a != 0 && ringSerial s a == serial && ringSvc s a == svc
  let free := ringAddrs.find? fun a => ringSt s a == 0
  let a := match known with
    | some a => a
    | none => if req != 0 && decide (req ≤ 254) && ringSt s req == 0 then req else free.getD 0
  if a = 0 then (s, 0)
  else (noteRing (setRing s a serial 2 svc) a (((sget s.hb.ring a).map (·.claim)).getD (nowNs s)), a)

/-! Neighbours (13.3) -/

/-- HELLO, HELLO with RXOK heard within the last 5 ms (R425, R29). -/
def heard (s : State) (t : Option Nat) : Bool := match t with | some t => decide (s.up < t + 5000000) | none => false

/-- A port is to be UP (R425). -/
def upNow (s : State) (p : Nat) : Bool :=
  s.en (hbPg p) && linkUp s (hbPg p) && secure s (hbPg p) && heard s (s.hbp p).rxok

/-- HB_PORT.STATE (Table 13-9): 2 UP, 1 with HELLO heard alone, else 0. -/
def portCode (s : State) (p : Nat) : Nat :=
  if upNow s p then 2 else if linkUp s (hbPg p) && heard s (s.hbp p).hello then 1 else 0

/-- Bring a port's state up to date (R425, R426, Table 13-3). -/
def hbEval (s : State) (p : Nat) : State :=
  let now := upNow s p
  let was := hbUp s p
  let s1 := (s.setHbp p { s.hbp p with isUp := now }).setRegF (R.HB_PORT p) 0 2 (portCode s p)
  if now && !was then
    let s2 := raise s1 (hbPg p) 0
    joinIf (if ringState s2 = 0 then setRingState s2 1 else s2)
  else if was && !now then
    let s2 := raise s1 (hbPg p) 1
    let ring := ringState s2 = 2
    let s3 := setRingState s2 (if hbUp s2 (1 - p) then 1 else 0)
    let s4 := if ring then raise s3 0x22 5 else s3
    ryuNew s4 0x05 255 (ownAddr s4) (beBytes 1 p ++ beBytes 1 (s4.regF (R.HB_PORT p) 8 8))
  else s1

/-- A link or a security association has changed. -/
def hbTouch (s : State) : State :=
  let one (t : State) (p : Nat) : State :=
    let dead := !(t.en (hbPg p) && linkUp t (hbPg p) && secure t (hbPg p))
    -- a port leaves UP with its HELLOs at HELLO_LOSS, and returns as soon as all three conditions hold
    let back := !hbUp t p && t.regF (R.HB_PORT p) 0 2 != portCode t p
    if (hbUp t p && dead) || back then hbEval t p else t
  one (one s 0) 1

/-- HELLO (R425): every 1 ms on each enabled port with link up. -/
def helloSend (s : State) (p : Nat) : State :=
  let due : Bool := match (s.hbp p).sent with | none => true | some t => elapsed s t 1000000
  if !(decide (p < 2) && s.en (hbPg p) && linkUp s (hbPg p) && due) then s
  else
    let fl := b2n (heard s (s.hbp p).hello)
    ryuNbr (s.setHbp p { s.hbp p with sent := some s.up }) p 0x01 (beBytes 8 s.hw.serial ++ beBytes 1 fl ++ beBytes 1 0)

/-- A received HELLO (R419, R425): one from the neighbour's port of the same number is miswired. -/
def helloRx (s0 : State) (p from_ src serial : Nat) (rxok : Bool) : State :=
  if from_ = p then s0.count (R.HB_MISWIRE p) 0 32 1
  else
    -- one that comes 5 ms after the last finds the port out of UP (Table 13-7)
    let s := hbEval s0 p
    let s1 := s.setHbp p { s.hbp p with hello := some s.up, rxok := if rxok then some s.up else (s.hbp p).rxok }
    let s2 := s1.setRegF (R.HB_PORT p) 8 8 src
    hbEval ((s2.setReg (R.HB_NSER p 0) (w32 serial)).setReg (R.HB_NSER p 1) (w32 (serial / 2 ^ 32))) p

/-- No HELLO with RXOK for 5 ms (R426). -/
def helloLoss (s : State) (p : Nat) : State :=
  if heard s (s.hbp p).rxok then s else hbEval s p

/-- A delivered BREAK (R427). -/
def breakRx (s : State) (src port : Nat) : State :=
  let s1 := s.setRegF (R.HB_RING 0) 16 9 (src + port % 2 * 256)
  if ringState s1 = 2 then raise (setRingState s1 1) 0x22 5 else s1

/-! Addresses (13.4, 13.5) -/

/-- The own ANNOUNCE has come round (Table 13-3). -/
def lapRx (s : State) (p : Nat) (f : Ryu) : State :=
  if f.src = ownAddr s ∧ f.typ = 0x02 ∧ s.hb.lap = some f.id ∧ beNat (f.pl.take 8) = s.hw.serial then
    let s1 := { s with hb := { s.hb with lap := none } }
    if p = 0 ∧ hbUp s 0 ∧ hbUp s 1 ∧ ringState s = 1 then raise (setRingState s1 2) 0x22 4 else s1
  else s

/-- Of two claims to one address, the other's prevails (R432): the earlier, of equal times the lower serial. -/
def claimPrevails (claim serial own ownSerial : Nat) : Bool :=
  decide (claim < own) || (claim == own && decide (serial < ownSerial))

/-- Another's claim prevails over the pair's own to its service address (R435): the higher epoch, else as R432 has it. -/
def svcPrevails (s : State) (serial claim epoch : Nat) : Bool :=
  decide (fence s < epoch) || (fence s == epoch && claimPrevails claim serial s.hb.svcClaim (pairId s))

/-- The pair gives up its service address (R435). -/
def dropSvc (s : State) : State := raise ((s.setRegF (R.HB_SVC 0) 0 8 0).setRegB (R.HB_SVC 0) 8 false) 0x22 7

/-- An ANNOUNCE names an address of this module with another serial (R432, R435): the losing claim is given up, and the entry keeps
the winner's serial. A module's own claim carries no epoch (Table 13-2). -/
def duplicate (s : State) (src serial claim epoch : Nat) (svc : Bool) : State :=
  if src = ownAddr s ∧ addrState s = 2 then
    if claimPrevails claim serial s.hb.claim s.hw.serial then noteRing (setRing (demote s) src serial 2 svc) src claim else s
  else if svcPrevails s serial claim epoch then noteRing (setRing (dropSvc s) src serial 2 svc) src claim
  else s

/-- A delivered ANNOUNCE of a module's own address (R431, R432). -/
def annRx (s : State) (src serial claim : Nat) : State :=
  let s1 := { s with hb := { s.hb with annHeard := some s.up } }
  if src = ownAddr s1 ∧ addrState s1 = 2 then
    if serial = s1.hw.serial then s1 else duplicate s1 src serial claim 0 false
  else if svcActive s1 && src == svcAddr s1 then duplicate s1 src serial claim 0 false
  else
    let old := sget s1.hb.ring src
    let keep := ringSt s1 src == 2 && ringSerial s1 src != serial &&
      (match old with
       | some r => decide (r.claim < claim) || (decide (r.claim = claim) && decide (ringSerial s1 src < serial))
       | none => false)
    if keep then s1 else ringTouch (noteRing (setRing s1 src serial 2 false) src claim)

/-- An ANNOUNCE goes out, and the addresses it names are PRESENT in the own table too, where a FORGET has freed their entries
(R431, Table 13-7). -/
def announceNow (s : State) : State :=
  if addrState s ≠ 2 then s
  else
    let s1 := setRing (sendAnnounce s) (ownAddr s) s.hw.serial 2 false
    if svcActive s1 then setRing s1 (svcAddr s1) (pairId s1) 2 true else s1

/-- The service address follows the pair role (R434), and its change is announced at once (R431). -/
def svcRole (s : State) : State :=
  let act := s.pair.role == .active && svcAddr s != 0
  let s1 := s.setRegB (R.HB_SVC 0) 8 act
  announceNow (if act && !svcActive s then { s1 with hb := { s1.hb with svcClaim := nowNs s } } else s1)

/-- The pair takes its service address (R434). -/
def takeSvc (s : State) (a : Nat) : State :=
  svcRole (noteRing (setRing (s.setRegF (R.HB_SVC 0) 0 8 a) a (pairId s) 2 true) a (nowNs s))

/-- A delivered ANNOUNCE of a service address (R434, R435), which an assigned module has sent (R430). A claim that loses gives the
address up. -/
def annSvcRx (s0 : State) (src serial claim epoch : Nat) : State :=
  let s := { s0 with hb := { s0.hb with annHeard := some s0.up } }
  let ours := svcActive s && src == svcAddr s
  if (src = ownAddr s ∧ addrState s = 2) ∨ (ours ∧ serial ≠ pairId s) then duplicate s src serial claim epoch true
  else if ours && !svcPrevails s serial claim epoch then s
  else
    let mine := serial == pairId s && pairId s != 0 && s.regB R.MIR_CFG 0 && !svcActive s && isRingAddr src
    noteRing (setRing (if mine then s.setRegF (R.HB_SVC 0) 0 8 src else s) src serial 2 true) src claim

/-- No service address is free: NOROOM, and the next service JOIN follows after 1 s (Table 13-4). -/
def svcNoroom (s : State) : State := raise { s with hb := { s.hb with svcJoinAt := some (s.up + 980000000) } } 0x22 8

/-- A JOIN is sent (R428): every 20 ms, or every 1 s after NOROOM; an active member without a service address joins for
it in the same way, or as registrar answers itself (R434). -/
def joinSend (s : State) : State :=
  let anyUp := hbUp s 0 || hbUp s 1
  let due (t : Option Nat) (ns : Nat) : Bool := match t with | none => true | some t => elapsed s t ns
  let gap := if s.hb.noroom then 1000000000 else 20000000
  if s.regB (R.HB_CTL 0) 0 && anyUp && (addrState s == 1 || s.hb.noroom) && due s.hb.joinAt gap then
    let s1 := { s with hb := { s.hb with joins := s.hb.joins + 1, joinAt := some s.up } }
    ryuNew s1 0x03 255 0 (beBytes 8 s.hw.serial ++ beBytes 1 (s.regF (R.HB_ADDR 0) 8 8) ++ beBytes 1 0)
  else if addrState s == 2 && s.pair.role == .active && svcAddr s == 0 && due s.hb.svcJoinAt 20000000 then
    let s1 := { s with hb := { s.hb with svcJoinAt := some s.up } }
    if isRegistrar s then
      let r := joinAnswer s1 (pairId s) 0 true
      if r.2 = 0 then svcNoroom r.1 else takeSvc r.1 r.2
    else ryuNew s1 0x03 255 (ownAddr s) (beBytes 8 (pairId s) ++ beBytes 1 0 ++ beBytes 1 1)
  else s

/-- A delivered JOIN (R429): only the registrar answers. -/
def joinRx (s : State) (serial req : Nat) (svc : Bool) : State :=
  if !isRegistrar s then s
  else
    let r := joinAnswer s serial req svc
    ryuNew r.1 0x04 255 (ownAddr r.1) (beBytes 8 serial ++ beBytes 1 r.2 ++ beBytes 1 (b2n svc))

/-- A delivered ASSIGN (R428, R434). -/
def assignRx (s : State) (serial addr : Nat) (svc : Bool) : State :=
  if svc then
    if serial = pairId s ∧ s.pair.role = .active ∧ svcAddr s = 0 ∧ addr ≤ 254 then
      if addr = 0 then svcNoroom s else takeSvc s addr
    else s
  else if serial = s.hw.serial ∧ (addrState s = 1 ∨ s.hb.noroom) ∧ addr ≤ 254 then
    if addr = 0 then
      let s1 := setAddrState s 0
      raise { s1 with hb := { s1.hb with noroom := true } } 0x22 8
    else takeAddr s addr
  else s

/-- A JOINING module unanswered after 3 JOINs and 300 ms assigns itself (R430). -/
def selfAssign (s : State) : State :=
  let quiet : Bool := match s.hb.annHeard with | none => true | some t => elapsed s t 300000000
  if addrState s = 1 ∧ 3 ≤ s.hb.joins ∧ quiet ∧ elapsed s s.hb.joinSince 300000000 then
    let p := s.regF (R.HB_ADDR 0) 8 8
    match (if p != 0 then some p else ringAddrs.find? fun a => ringSt s a == 0) with
    | some a => takeAddr s a
    | none => s
  else s

/-- An ANNOUNCE every 100 ms (R431). -/
def announceSend (s : State) : State :=
  let due : Bool := match s.hb.annSent with | none => true | some t => elapsed s t 100000000
  if due then announceNow s else s

/-- An entry not announced for 300 ms leaves PRESENT (R429, Table 13-6). -/
def presentExpire (s : State) (a : Nat) : State :=
  let old : Bool := match sget s.hb.ring a with | none => true | some r => elapsed s r.last 300000000
  let own : Bool := (addrState s == 2 && a == ownAddr s) || (svcActive s && a == svcAddr s)
  if ringSt s a = 2 ∧ old ∧ !own then setRing s a (ringSerial s a) 1 (ringSvc s a) else s

/-- HB_CTL.JOIN was written (R428, R433): 0 leaves the ring. -/
def joinWritten (s : State) : State :=
  if s.regB (R.HB_CTL 0) 0 then joinIf s
  else if addrState s = 2 then
    let a := ownAddr s
    let s1 := ryuNew s 0x06 255 a (beBytes 8 s.hw.serial)
    ringSave (setRing (dropAddr s1) a s.hw.serial 1 false)
  else
    let s1 := setAddrState s 0
    { s1 with hb := { s1.hb with noroom := false } }

/-- A delivered LEAVE marks the sender's entry RESERVED (R433). -/
def leaveRx (s : State) (src serial : Nat) : State :=
  if ringSt s src = 2 ∧ ringSerial s src = serial then setRing s src serial 1 (ringSvc s src) else s

/-- An entry is forgotten (R433). -/
def forgetEntry (s : State) (a : Nat) : State := setRing s a 0 0 false

/-- HB_TOP.FORGET (R433, 13.11): a FORGET frame is sent, and the entry of this module's own table is freed with those
of the receivers. -/
def forgetSend (s : State) (a : Nat) : State := forgetEntry (ryuNew s 0x07 255 (ownAddr s) (beBytes 1 a ++ beBytes 1 0)) a

/-! Events (R438) -/

/-- The queue's head in HB_EVQ0-3. -/
def evqTouch (s : State) : State :=
  let ws : List Nat := match s.hb.events with
    | [] => [0, 0, 0, 0]
    | e :: _ => [e.src + e.group * 256 + 2 ^ 31, e.bits, e.ns, e.sec]
  (((s.setReg (R.HB_EVQ0 0) (w32 (lget ws 0 0))).setReg (R.HB_EVQ1 0) (w32 (lget ws 1 0))).setReg (R.HB_EVQ2 0)
    (w32 (lget ws 2 0))).setReg (R.HB_EVQ3 0) (w32 (lget ws 3 0))

/-- The oldest noted rise is sent. -/
def eventSend (s : State) : State :=
  match s.evt.relay with
  | [] => s
  | e :: es =>
    let s1 := { s with evt := { s.evt with relay := es } }
    ryuNew s1 0x10 e.dst (ownAddr s)
      (beBytes 1 e.group ++ beBytes 1 0 ++ beBytes 4 e.bits ++ beBytes 4 (nsOf e.time) ++ beBytes 6 (secOf e.time))

/-- A delivered EVENT. -/
def eventRx (s : State) (e : EvRx) : State :=
  if !s.regB (R.HB_CTL 0) 1 then s
  else if 64 ≤ s.hb.events.length then raise (s.count (R.HB_EVLOST 0) 0 32 1) 0x22 10
  else evqTouch { s with hb := { s.hb with events := s.hb.events ++ [e] } }

/-- HB_EVPOP.POP. -/
def eventPop (s : State) : State := evqTouch { s with hb := { s.hb with events := s.hb.events.drop 1 } }

/-- HB_CLR.CNT. -/
def hbClr (s : State) (p : Nat) : State :=
  [R.HB_FWD p, R.HB_DUP p, R.HB_WRAP p, R.HB_LATE p, R.HB_UPDRTY p, R.HB_MISWIRE p].foldl (fun t a => t.setReg a 0#32) s

/-! Remote requests (2.6, R436) -/

def raKey (req p : Nat) : Nat := req * 2 + p

/-- Errors of a write to RA_OP (Table 2-17, R66, R436). -/
def raErrors (s : State) (req p v : Nat) : List (Err × Nat) :=
  let dst := fld (s.breg req (R.HB_RA_DST p)) 0 8
  let off := 0x808
  (if (sget s.hb.ras (raKey req p)).isSome then [(Err.busy, off)] else []) ++
  (if v = 3 ∨ (v = 1 ∧ dst = 255) ∨ (v ≠ 0 ∧ dst = 0) then [(Err.range, off)] else []) ++
  (if (sget s.ctl.seqs req).isSome ∨ (v ≠ 0 ∧ ryuMine s dst) ∨
      (!s.regB R.KEY_STAT (13 + 2 * p) && !s.regB R.KEY_STAT (14 + 2 * p)) then [(Err.state, off)] else [])

/-- RA_OP sends a request (R65, R66, R69, Table 2-18). -/
def raSend (s : State) (req p : Nat) (write : Bool) : State :=
  let dst := fld (s.breg req (R.HB_RA_DST p)) 0 8
  let aw := s.breg req (R.HB_RA_ADDR p)
  let n := fld aw 24 4
  let tag := s.hb.nextId
  let cmd := if write then (if n = 0 then 0x02 else 0x03) else (if n = 0 then 0x0B else 0x0C)
  let data := if write then ((List.range (n + 1)).map fun k => beBytes 4 (s.breg req (R.HB_RA_DATA p k)).toNat).flatten else []
  let f : Ryu := ⟨0x20, dst, ownAddr s, tag, beBytes 1 cmd ++ beBytes 1 n ++ beBytes 3 (fld aw 0 24) ++ beBytes 1 0 ++ data⟩
  let s1 := ryuOriginate (nextId s) p f
  let s2 := { s1 with hb := { s1.hb with ras := sset s1.hb.ras (raKey req p) ⟨tag, ownAddr s, s.up, dst == 255, write, n⟩ } }
  s2.setBreg req (R.HB_RA_STAT p) (w32 (0x1FF + tag * 65536))

/-- A request ends with a status. -/
def raDone (s : State) (k status : Nat) : State :=
  let req := k / 2
  let p := k % 2
  let s1 := s.setBreg req (R.HB_RA_STAT p) (setFld (s.breg req (R.HB_RA_STAT p)) 0 9 status)
  { s1 with hb := { s1.hb with ras := sdel s1.hb.ras k } }

/-- A delivered reply (R436): it completes the request of its tag, or is late; one that comes 2 ms after the request was
sent is late (R67, R29). -/
def raReply (s : State) (p tag status : Nat) (data : List Word) : State :=
  match s.hb.ras.find? fun e => e.2.tag == tag && !e.2.bcast && !elapsed s e.2.sent 2000000 with
  | none => raise (s.count (R.HB_LATE p) 0 32 1) (hbPg p) 2
  | some (k, r) =>
    let s1 := if r.write then s else (List.range (r.count + 1)).foldl (fun t n =>
      t.setBreg (k / 2) (R.HB_RA_DATA (k % 2) n) (lget data n 0#32)) s
    raDone s1 k status

/-- No reply within 2 ms (R67); a broadcast that has not left within them ends so too. -/
def raTimeout (s : State) (req p : Nat) : State :=
  match sget s.hb.ras (raKey req p) with
  | some r => if elapsed s r.sent 2000000 then raDone s (raKey req p) 0x43 else s
  | none => s

/-- A frame has left on an H port: the status of the module's own broadcast write is 0x45 (R69). -/
def raLeft (s : State) (b : List Byte) : State :=
  let pl := etherPayload b
  if beAt pl 1 1 = 0x20 ∧ beAt pl 2 1 = 255 then
    match s.hb.ras.find? fun e => e.2.tag == beAt pl 4 2 && e.2.src == beAt pl 3 1 && e.2.bcast with
    | some (k, _) => raDone s k 0x45
    | none => s
  else s

/-! Segments of updates (R439) -/

/-- The 64 segments of a chunk. -/
def updSegments (s : State) (p img chunk : Nat) (data : List Byte) : State :=
  (List.range 64).foldl (fun t k => ryuNbr t p 0x30
    (beBytes 4 img ++ beBytes 4 chunk ++ beBytes 1 k ++ beBytes 1 0 ++ (data.drop (1024 * k)).take 1024)) s

/-- Send a chunk to the neighbour on a port that is UP. -/
def updSendChunk (s : State) (p img chunk : Nat) (data : List Byte) : State :=
  if !hbUp s p then s
  else
    let s1 := updSegments s p img chunk data
    { s1 with hb := { s1.hb with updTx := s1.hb.updTx ++ [⟨p, img, chunk, data, 1, s.up⟩] } }

/-- A received segment: the chunk once all 64 segments are held. -/
def updSegRx (s : State) (p img chunk seg : Nat) (data : List Byte) : State × Option (List Byte) :=
  let old := match sget s.hb.updRx p with
    | some x => if x.img = img ∧ x.chunk = chunk then x.segs else []
    | none => []
  let segs := sset old seg data
  if segs.length = 64 then
    ({ s with hb := { s.hb with updRx := sdel s.hb.updRx p } }, some (segs.map (·.2)).flatten)
  else ({ s with hb := { s.hb with updRx := sset s.hb.updRx p ⟨img, chunk, segs⟩ } }, none)

/-- The answer to a chunk. -/
def updAckSend (s : State) (p img chunk status : Nat) : State :=
  ryuNbr s p 0x31 (beBytes 4 img ++ beBytes 4 chunk ++ beBytes 1 status ++ beBytes 1 0)

/-- A received UPD_ACK ends the retry of its chunk. -/
def updAckRx (s : State) (p img chunk : Nat) : State :=
  { s with hb := { s.hb with updTx := s.hb.updTx.filter fun x => !(x.port == p && x.img == img && x.chunk == chunk) } }

/-- No UPD_ACK 20 ms after the last segment: sent again, or failed after the third send. -/
def updAckTimeout (s : State) (p img chunk : Nat) : State :=
  match s.hb.updTx.find? fun x => x.port == p && x.img == img && x.chunk == chunk with
  | none => s
  | some x =>
    if !elapsed s x.sent 20000000 then s
    else
      let s1 := s.count (R.HB_UPDRTY p) 0 32 1
      if 3 ≤ x.sends then raise (updAckRx s1 p img chunk) (hbPg p) 3
      else
        let s2 := updSegments s1 p img chunk x.data
        { s2 with hb := { s2.hb with
            updTx := s2.hb.updTx.map fun y => if y = x then { y with sends := y.sends + 1, sent := s.up } else y } }

/-! Reset -/

/-- A soft reset of page HB0 or HB1 (R49), before the registers return: the page's requests end with their banks, what its
port has of update chunks goes, and on HB0 the event queue and the address. -/
def hbSoftReset (s : State) (p : Nat) : State :=
  let h := { s.hb with
    ras := sdelIf s.hb.ras fun k => k % 2 == p, updRx := sdel s.hb.updRx p, updTx := s.hb.updTx.filter (·.port != p) }
  { s with hb := if p = 0 then
      { h with events := [], ring := [], joins := 0, joinAt := none, noroom := false, annSent := none, svcJoinAt := none,
               lap := none }
    else h }

/-- A reset of island 7 (R443): requests answer RESET_ABORT, the duplicate window, the event
queue and the chunks under way are cleared; address, table and ring registers stay in island 12. -/
def hbReset (s : State) : State :=
  let s1 := abortCount (s.hb.ras.foldl (fun t e => raDone t e.1 0x40) s) 7 s.hb.ras.length
  { s1 with hb := { s1.hb with seen := [], events := [], updRx := [], updTx := [], lap := none } }

end Sys2Proof.Machine
end

