-- ==== Sys2Proof/Machine/Lining.lean ====
section
/-! DEFINITION. The Lining (chapter 15): numbering, appending, checkpoints, replay and the read window. -/

namespace Sys2Proof.Machine

/-! What the flash holds -/

/-- Sectors in generation order. -/
def insertGen (x : Sector) : List Sector → List Sector
  | [] => [x]
  | y :: ys => if x.gen ≤ y.gen then x :: y :: ys else y :: insertGen x ys
def inUse (s : State) : List Sector := ((s.lin.sectors.map (·.2)).filter (·.state != 0)).foldr insertGen []
def journal (s : State) : List LRec := (inUse s).flatMap (·.recs)

/-- What the journal holds beyond the latest checkpoint, in the order stored. -/
def journalAfter (s : State) : List LRec := (inUse s).flatMap (·.after (ckptNow s))

/-- Every durable record: the checkpoint, then what the journal holds beyond it (R492). -/
def durables (s : State) : List LRec := (ckptNow s).recs ++ journalAfter s

/-- Key of a state record (Table 15-3): the page or the quantity, where the type has one. -/
def recKey (r : LRec) : Nat :=
  if r.typ = 0x01 ∨ r.typ = 0x02 ∨ r.typ = 0x20 then (lget r.payload 0 0#8).toNat else 0

/-- The mirrored records that still are a source for state (R495): from the first BASE record of the latest resync
on. `acc` are those before the list, and `run` whether the last of them was marked BASE. -/
def sinceBase : List LRec → List LRec → Bool → List LRec
  | [], acc, _ => acc
  | r :: rs, acc, run => if r.base && !run then sinceBase rs [r] true else sinceBase rs (acc ++ [r]) r.base

/-- Records that are a source for state. -/
def sources (s : State) : List LRec :=
  let k := ckptNow s
  (durables s).filter (fun r => !r.partner) ++
    sinceBase ((journalAfter s).filter (·.partner)) (k.recs.filter (·.partner)) k.base

/-- The latest durable state record of a stream, type and key (R478). -/
def stateRec (s : State) (partner : Bool) (typ key : Nat) : Option LRec :=
  ((sources s).filter fun r => r.partner == partner && r.typ == typ && recKey r == key && !r.log).getLast?

/-- The module has metered after an ENERGY record was written (R385): a later INTERVAL or GAP record of its stream says so. -/
def meteredAfter (s : State) (r : LRec) : Bool :=
  (sources s).any fun x => x.partner == r.partner && (x.typ == 0x31 || x.typ == 0x32) && decide (r.seq < x.seq)

/-- The ring table and the persisted address as a RING record holds them (R442): entries that were PRESENT are RESERVED
until they are announced again. -/
def ringRestore (s : State) : State :=
  match stateRec s false 0x48 0 with
  | none => s
  | some r =>
    let b := r.payload
    let s1 := s.setRegF (R.HB_ADDR 0) 8 8 (leNat ((b.drop 1).take 1))
    ringAddrs.foldl (fun t a =>
      let e := b.drop (4 + 10 * (a - 1))
      let st := min 1 (leNat ((e.drop 8).take 1))
      if st = 0 then t
      else t.setEnt tHBT a [w32 (leNat (e.take 4)), w32 (leNat ((e.drop 4).take 4)), w32 (st + 4 * leNat ((e.drop 9).take 1))]) s1

/-- The persisted copy of a page (R48): the latest PAGE record, unless a later PAGE_FORGET removed it. -/
def pageCopy (s : State) (p : Nat) : Option LRec :=
  match (((durables s).filter fun r => !r.partner && (r.typ == 1 || r.typ == 2) && recKey r == p)).getLast? with
  | some r => if r.typ = 1 then some r else none
  | none => none

/-- The oldest LOG record kept (LIN_OLD): an acknowledged one until its sector is reclaimed, and not one that a checkpoint dropped
(R490). -/
def oldestLog (s : State) : Nat :=
  let acked := (journal s).filter fun r => decide (r.seq ≤ (ckptNow s).ack)
  match (durables s ++ acked).filter fun r => r.log && !r.partner with
  | [] => 0
  | r :: rs => rs.foldl (fun a x => min a x.seq) r.seq

/-! Appending (15.3) -/

/-- Append places in use. -/
def placesUsed (s : State) : Nat := s.lin.inAppend.length + b2n s.lin.waiting.isSome

/-- The LINING_APPEND item of a record (Table 4-6). Its payload offset is a free value: the manual gives the queue no
layout. -/
def appendItem (r : LRec) : Item :=
  let h : ItemHead := ⟨kAppend, 241, 0, false, 0, 0, noTime, 1, 0, true⟩
  mkItem h [r.typ + r.payload.length * 256, Config.freeNat 7 r.seq % 2 ^ 22, r.seq % 2 ^ 32,
    r.seq / 2 ^ 32 + b2n r.final * 65536]

/-- The oldest submitted record is numbered and enqueued when the append places allow (R483, R484). An active member
mirrors its own records (Table 14-4). -/
def appendEnqueue (s : State) : State :=
  match s.lin.subq with
  | [] => s
  | r :: q =>
    if s.lin.state = 0 || !decide (placesUsed s + (if r.final then 1 else 2) ≤ 2) then s
    else
      let fresh := !r.partner && r.seq == 0
      let r1 := if fresh then { r with seq := s.lin.next } else r
      let e := enqueueIn s (appendItem r1)
      if !e.2 then e.1
      else
        let l := e.1.lin
        let s1 : State := { e.1 with lin := { l with
          subq := q, inAppend := l.inAppend ++ [r1], next := if fresh then l.next + 1 else l.next } }
        if fresh && s1.pair.role == Role.active then streamSend s1 (.mirror [.record r1]) else s1

/-- The ERASED sector to open (R480): lowest erase count, then lowest index. -/
def pickErased (s : State) : Option Nat :=
  (List.range nSectors).foldl (fun b i =>
    if (s.sect i).state != 0 then b
    else match b with
      | some j => if (s.sect i).erases < (s.sect j).erases then some i else b
      | none => some i) none

/-- Store a sector. -/
def setSect (s : State) (i : Nat) (x : Sector) : State :=
  { s with lin := { s.lin with sectors := sput s.lin.sectors i x sector0 } }

/-- A sector is opened, with the generation after the highest there is (R480). -/
def openNew (s : State) (i : Nat) : State :=
  let gen := (s.lin.sectors.map fun e => e.2.gen).foldl max 0 + 1
  let s1 := setSect s i { s.sect i with state := 1, gen := gen, first := 0, off := 32, recs := [], bad := none }
  { s1 with lin := { s1.lin with open_ := some i } }

/-- The open sector, in which a record does not fit, becomes FULL (R480). -/
def openFull (s : State) : State :=
  match s.lin.open_ with
  | some i => setSect s i { s.sect i with state := 2 }
  | none => s

/-- The open sector with room for a record, opening a new one where it does not fit (R480). -/
def placeFor (s : State) (r : LRec) : Option (State × Nat) :=
  let fits := match s.lin.open_ with
    | some i => decide ((s.sect i).off + recBytes r.payload.length ≤ 65536)
    | none => false
  if fits then some (s, s.lin.open_.getD 0)
  else
    let s1 := openFull s
    match pickErased s1 with
    | none => none
    | some i =>
      some (openNew s1 i, i)

/-- Program a record at its place; `ok` is whether it verifies (R486, R487). -/
def program (s : State) (r : LRec) (ok : Bool) : Option State :=
  match placeFor s r with
  | none => none
  | some (s1, i) =>
    let x := s1.sect i
    let n := recBytes r.payload.length
    let first := if x.first = 0 ∧ !r.partner then r.seq else x.first
    let s2 := setSect s1 i { x with
      off := x.off + n, first := first, recs := if ok then x.recs ++ [r] else x.recs,
      bad := if ok then x.bad else some (x.bad.getD x.recs.length) }
    some { s2 with lin := { s2.lin with bytes := s2.lin.bytes + n } }

/-- Retire the open sector (R482). -/
def retireOpen (s : State) : State :=
  match s.lin.open_ with
  | none => s
  | some i =>
    let s1 := setSect s i { s.sect i with state := 3 }
    raise { s1 with lin := { s1.lin with open_ := none } } 0x40 5

/-- Write a record that fails verification `fails` times (R487). The cause is none, 1 verify or 2 full. -/
def appendTry (s : State) (r : LRec) (fails : Nat) : State × Nat :=
  match fails with
  | 0 => match program s r true with | some t => (t, 0) | none => (s, 2)
  | 1 =>
    match program s r false with
    | none => (s, 2)
    | some t => match program t r true with | some u => (u, 0) | none => (t, 2)
  | f + 2 =>
    match program s r false with
    | none => (s, 2)
    | some t => match program t r false with
      | none => (t, 2)
      | some u =>
        let v := retireOpen u
        match program v r (f == 0) with
        | some w => (w, if f = 0 then 0 else 1)
        | none => (v, 2)

/-- The standby's acknowledgement (R494): every message before the first whose record is not durable. -/
def ackSend (s : State) : State :=
  match s.pair.rxSeq with
  | none => s
  | some q => cuffSend s 0x03 (match s.pair.held with | [] => q | x :: _ => (x.1 + 2 ^ 32 - 1) % 2 ^ 32) []

/-- What a record becoming durable means to its block (R48, R446, R494). -/
def recDurable (s : State) (r : LRec) : State :=
  let l := s.lin
  if r.partner then
    let s1 := { s with lin := { l with mirSeq := r.seq } }
    let p := s1.pair
    ackSend { s1 with pair := { p with held := p.held.filter fun x => x.2 != r.seq } }
  else
    let s1 := { s with lin := { l with dur := max l.dur r.seq, finalDone := l.finalDone || r.final } }
    if r.typ = 0x40 then
      let p := s1.pair
      { s1 with pair := { p with resvNext := none } }.setReg R.MIR_RESV (w32 (leNat ((r.payload.drop 4).take 4)))
    else if r.typ = 1 ∨ r.typ = 2 then
      let l1 := s1.lin
      { s1 with lin := { l1 with
          busy := l1.busy.filter (· != recKey r), failed := l1.failed.filter (· != recKey r) } }
    else if r.typ = 0x50 ∧ leNat (r.payload.take 1) = 1 - s1.upd.running then { s1 with upd := { s1.upd with recWait := false } }
    else s1

/-- A record that does not become durable: its block reports it, a page copy by PG_PERSIST.FAIL (R48) and metering by
SAVE_FAIL (R380). -/
def appendLost (s : State) (r : LRec) : State :=
  if r.partner then s
  else if r.typ = 1 ∨ r.typ = 2 then
    let l := s.lin
    { s with lin := { l with
        busy := l.busy.filter (· != recKey r), failed := recKey r :: l.failed.filter (· != recKey r) } }
  else if r.typ = 0x30 then raise s 0x38 2
  -- the reservation is submitted again (R446)
  else if r.typ = 0x40 then { s with pair := { s.pair with resvNext := none } }
  else s

/-- An own record is still unacknowledged by the standby (R456), also where its message was discarded (R457). -/
def unackedRec (s : State) (q : Nat) : Bool :=
  s.pair.unsent.contains q || s.pair.unacked.any fun u => u.msg.records.contains q

/-- The append of an active member need not wait for its standby any more (R456). -/
def syncDone (s : State) (q since : Nat) : Bool :=
  s.pair.role != .active || s.pair.async || !unackedRec s q ||
    elapsed s since (s.regF R.MIR_TIMING 0 11 * 1000)

/-- Mirroring goes into ASYNC, or stays in it (R456). -/
def goAsync (s : State) : State :=
  let s1 := { s with pair := { s.pair with async := true, calm := s.up } }
  if s.pair.async then s1 else raise s1 0x24 4

/-- The append in hand need not wait any more. Where the time has run out on it, mirroring goes into ASYNC (R456). -/
def waitOver (s : State) (q : Nat) : State :=
  let late := s.pair.role == .active && !s.pair.async && unackedRec s q
  let s1 := { s with lin := { s.lin with waiting := none }, pair := { s.pair with unsent := s.pair.unsent.filter (· != q) } }
  if late then goAsync s1 else s1

/-- A waiting append completes once the standby has acknowledged it or the time has run (R456). -/
def appendSettle (s : State) : State :=
  match s.lin.waiting, svcOf s .lining with
  | some (q, since), some v => if syncDone s q since then completeItem (waitOver s q) v else s
  | some (q, since), none => if syncDone s q since then waitOver s q else s
  | none, _ => s

/-- LINING_APPEND_COMPLETE (R486, R487, R456): the body and mark are programmed, failing verification `fails` times. -/
def appendComplete (s : State) (fails : Nat) : State :=
  match svcOf s .lining, s.lin.inAppend with
  | some v, r :: rs =>
    if s.lin.waiting.isSome then s
    else
      let e := appendTry s r fails
      if e.2 ≠ 0 then failItem (raise (appendLost (linFail e.1 e.2 r) r) 0x40 0) v 2
      else
        let s1 := recDurable { e.1 with lin := { e.1.lin with inAppend := rs } } r
        if r.partner || syncDone s1 r.seq s1.up then completeItem s1 v
        else { s1 with lin := { s1.lin with waiting := some (r.seq, s1.up) } }
  | _, _ => s

/-- The numbered records whose items the Hatrack still holds: the first of `inAppend`, as flow 241 keeps their order. -/
def appendsHeld (s : State) : Nat :=
  ((s.htk.svc ++ s.htk.orphans).filter fun v => v.item.kind == kAppend).length +
    ((s.flow 241).queue.filter fun i => i.kind == kAppend).length - b2n s.lin.waiting.isSome

/-- The item of an append left the Hatrack without completing. A failed item stays at the head of its flow; lost ones
keep their records, which are enqueued anew in order under their numbers (R34); a discarded one loses it. -/
def appendDropped (s : State) (d : Drop) (i : Item) : State :=
  let q := (i.word 8).toNat + i.f 9 0 16 * 2 ^ 32
  match d with
  | .held => s
  | .lost =>
    let n := appendsHeld s
    { s with lin := { s.lin with inAppend := s.lin.inAppend.take n, subq := s.lin.inAppend.drop n ++ s.lin.subq } }
  | _ =>
    match s.lin.inAppend.find? fun r => r.seq == q with
    | some r => appendLost { s with lin := { s.lin with inAppend := s.lin.inAppend.erase r } } r
    | none => s

/-! Checkpoints (15.4) -/

/-- State records superseded by no later one of their stream, type and key. -/
def latestOnly : List LRec → List LRec
  | [] => []
  | r :: rs =>
    if rs.any fun x => x.partner == r.partner && x.typ == r.typ && recKey x == recKey r && !x.log then latestOnly rs
    else r :: latestOnly rs

/-- The newest records of at most `n` bytes, and the ones that did not fit. -/
def newest (n : Nat) : List LRec → List LRec × List LRec
  | [] => ([], [])
  | r :: rs =>
    let t := newest n rs
    let used := (t.1.map fun x => recBytes x.payload.length).foldl (· + ·) 0
    if t.2 = [] ∧ used + recBytes r.payload.length ≤ n then (r :: t.1, t.2) else (t.1, r :: t.2)

/-- LOG records a checkpoint would hold, and those it drops (R488, R490). -/
def ckptLogs (s : State) : List LRec × List LRec :=
  newest (5 * 1048576) ((durables s).filter fun r =>
    r.log && (r.partner || (decide (s.lin.ack < r.seq) && decide (r.seq ≤ s.lin.dur))))

/-- The last mirrored record stored, where the journal still holds it beyond the checkpoint: its sequence and BASE (R494). -/
def lastMir (s : State) : Nat × Bool :=
  match ((journalAfter s).filter (·.partner)).getLast? with
  | some r => (r.seq, r.base)
  | none => ((ckptNow s).mir, (ckptNow s).base)

/-- The checkpoint that covers what is durable now (R488). The manual gives the wear table and the slot no layout: what they add to
the byte count, and the CRC, are free values. -/
def ckptNew (s : State) (st : List LRec) : Ckpt :=
  let logs := ckptLogs s
  let recs := st ++ logs.1
  let last := (inUse s).getLast?.getD sector0
  ⟨s.lin.dur, s.lin.ack, recs, last.gen, last.recs.length, (lastMir s).1, (lastMir s).2,
    s.lin.sectors.map fun e => (e.1, (e.2.erases, e.2.state == 3)), logs.2.length,
    (recs.map fun r => recBytes r.payload.length).foldl (· + ·) (Config.freeNat 10 0), Config.freeNat 11 s.lin.dur % 2 ^ 32⟩

/-- A checkpoint begins (R488): it takes what is durable now, and erases the slot that does not hold the latest valid one. -/
def ckptBegin (s : State) : State :=
  if s.lin.state ≠ 1 ∨ s.lin.run.isSome then s
  else
    let st := latestOnly ((sources s).filter fun r => !r.log && (r.partner || decide (r.seq ≤ s.lin.dur)))
    let slotB := match s.lin.slotA, s.lin.slotB with
      | some a, some b => decide (b.c < a.c) || (a.c == b.c && !s.lin.newB)
      | some _, none => true
      | none, _ => false
    { s with lin := { s.lin with
        run := some (slotB, ckptNew s st), slotA := if slotB then s.lin.slotA else none,
        slotB := if slotB then none else s.lin.slotB } }

/-- A checkpoint is due (R488). -/
def ckptDue (s : State) : Bool :=
  elapsed s s.lin.lastCkpt (s.regF R.LIN_CFG 0 11 * 60000000000) ||
    decide (s.regF R.LIN_CFG 16 5 * 1048576 ≤ s.lin.bytes) || decide (erasedSectors s < 2)

/-- CHECKPOINT_START. -/
def ckptStart (s : State) : State := if ckptDue s then ckptBegin s else s

/-- CHECKPOINT_COMPLETE (R488-R490): valid, or abandoned. -/
def ckptComplete (s : State) (ok : Bool) : State :=
  match s.lin.run with
  | none => s
  | some (b, c) =>
    let l := { s.lin with run := none }
    if !ok then raise { s with lin := l } 0x40 4
    else
      let l1 := { l with slotA := if b then l.slotA else some c, slotB := if b then some c else l.slotB,
                         newB := b, lastCkpt := s.up, bytes := 0 }
      let s1 := { s with lin := l1 }
      if c.drops = 0 then s1 else raise (s1.count R.LIN_CNT1 0 16 c.drops) 0x40 6

/-- SECTOR_ERASE (R481, R482): an erase of a reclaimable sector, failing verification `fails` times. -/
def sectorErase (s : State) (i fails : Nat) : State :=
  let x := s.sect i
  if s.lin.state ≠ 1 || !reclaimable s x then s
  else if 2 ≤ fails then raise (setSect s i { x with state := 3 }) 0x40 5
  else
    let s1 := setSect s i { sector0 with erases := x.erases + 1, gen := x.gen }
    if x.erases + 1 = 90000 then raise s1 0x40 8 else s1

/-! Power-fail (R491) and replay (15.6) -/

/-- From the power-fail warning on: checkpoints stop, the queue is discarded, only FINAL records are taken. -/
def linPfail (s : State) : State :=
  if s.lin.state = 2 then s
  else
    let s1 := match s.lin.run with
      | some _ => raise { s with lin := { s.lin with run := none } } 0x40 4
      | none => s
    let gone := s1.lin.subq
    -- a replay under way still ends in RUN, and in PFAIL at once (R492)
    let l := { s1.lin with
      state := if s1.lin.state = 0 then 0 else 2, subq := [], finalDone := false, pfGone := s1.lin.pfGone || !gone.isEmpty }
    let s2 := gone.foldl (fun t r => linFail (appendLost t r) 3 r) { s1 with lin := l }
    if gone = [] then s2 else raise (s2.count R.LIN_CNT1 16 16 gone.length) 0x40 7

/-- Device reset: what is not flash is lost; the append in service may leave a torn tail. -/
def linReset (s : State) : Lin :=
  let l := s.lin
  let cut := match svcOf s .lining, l.waiting with
    | some _, none => l.inAppend.head?
    | _, _ => l.cut
  ⟨0, [], [], none, l.next, l.dur, l.ack, l.sectors, l.open_, l.slotA, l.slotB, l.newB, none, 0, l.bytes, l.mirSeq, false, cut,
    l.pfGone, [], []⟩

/-- A replay's scan of a sector stops at the first record that is not durable (R492). -/
def Sector.scanned (x : Sector) : Sector :=
  match x.bad with
  | some k => { x with recs := x.recs.take k }
  | none => x

/-- The scan reaches position `k` of a sector: a record, or the body after the last one that an append left without its mark. -/
def scanReaches (s : State) (i k : Nat) : Bool :=
  let x := s.sect i
  match x.bad with
  | some j => decide (k ≤ j)
  | none => decide (k < x.recs.length) || (k == x.recs.length && s.lin.cut.isSome && s.lin.open_ == some i)

/-- The checkpoint slots whose trailer CRC holds (R492). -/
def slotsHeld (s : State) (slots : List Bool) : State :=
  { s with lin := { s.lin with
      slotA := if slots.contains false then none else s.lin.slotA, slotB := if slots.contains true then none else s.lin.slotB } }

/-- A sector found ERASED without a header, as an erase cut off by the loss of power leaves it, takes its count from the wear
table plus 1 (R482). -/
def bareSector (s : State) (i : Nat) : State :=
  let x := s.sect i
  if x.state != 0 && !reclaimable s x then s
  else setSect s i { sector0 with erases := ((sget (ckptNow s).wear i).map (·.1)).getD 0 + 1, gen := x.gen }

/-- The records whose CRC fails (R492): each counts, and ends its sector's scan. -/
def scanCrc (s : State) (bad : List (Nat × Nat)) : State :=
  let hit := bad.filter fun b => scanReaches s b.1 b.2
  let s1 := hit.foldl (fun t b => setSect t b.1 { t.sect b.1 with bad := some b.2 }) s
  if hit = [] then s1 else raise (s1.count R.LIN_CNT0 16 16 hit.length) 0x40 1

/-- A record with a valid body but no mark ends the last OPEN sector (R492). -/
def tornTail (s : State) (torn : Bool) : State :=
  match s.lin.open_ with
  | some i =>
    if torn && s.lin.cut.isSome && (s.sect i).bad.isNone then
      raise (setSect s i { s.sect i with state := 2, bad := some (s.sect i).recs.length }) 0x40 2
    else s
  | none => s

/-- LINING_REPLAY (R492, R493). `torn` says that the append cut off by the reset left a valid body without its mark. -/
def linReplay (s : State) (scan : ReplayScan) (torn : Bool) : State :=
  if s.lin.state ≠ 0 then s
  else
    let s1 := scan.bare.foldl bareSector (slotsHeld s scan.slots)
    let s2 := tornTail (scanCrc s1 scan.bad) torn
    let s3 := { s2 with lin := { s2.lin with sectors := s2.lin.sectors.map fun e => (e.1, e.2.scanned) } }
    let k := ckptNow s3
    let hi := ((durables s3).filter fun r => !r.partner).foldl (fun a r => max a r.seq) k.c
    -- appends resume in a newly opened sector
    let s4 := openFull s3
    let l := { s4.lin with state := 1, next := hi + 2, dur := hi, ack := k.ack, mirSeq := (lastMir s3).1, open_ := none, cut := none,
                           lastCkpt := s4.up, pfGone := false }
    let s5 := ({ s4 with lin := l }.setReg R.LIN_ACKLO (w32 k.ack)).setReg R.LIN_ACKHI (w32 (k.ack / 2 ^ 32))
    let s6 := if s.lin.pfGone then raise s5 0x40 7 else s5
    if cutPower s then linPfail s6 else s6

/-! Registers (15.9) -/

/-- LIN_ACK (R490): errors of the write that completes it. -/
def ackErrors (s : State) (hi : Word) : List (Err × Nat) :=
  let v := fld hi 0 16 * 2 ^ 32 + (s.reg R.LIN_ACKLO).toNat
  (if s.lin.dur < v then [(Err.range, 0x064)] else []) ++ (if v < s.lin.ack then [(Err.state, 0x064)] else [])

/-- The acknowledgement takes effect. -/
def ackWritten (s : State) : State :=
  { s with lin := { s.lin with ack := s.regF R.LIN_ACKHI 0 16 * 2 ^ 32 + (s.reg R.LIN_ACKLO).toNat } }

/-- LIN_ROP.READ (Table 15-8): the chunk of a durable record. -/
def linRead (s : State) (req : Nat) : State :=
  let hi := s.breg req R.LIN_RSHI
  let q := fld hi 0 16 * 2 ^ 32 + (s.breg req R.LIN_RSLO).toNat
  let found := ((durables s ++ journal s).find? fun r => r.seq == q && r.partner == bit hi 23)
  let stat := match found with
    | some r => 1 + r.typ * 256 + r.payload.length * 65536
    | none => 0
  let bytes := match found with
    | some r => ((recHead r).drop (64 * fld hi 16 7)).take 64
    | none => []
  let s1 := s.setBreg req R.LIN_RSTAT (w32 stat)
  (List.range 16).foldl (fun t n => t.setBreg req (R.LIN_RDATA n) (w32 (leNat ((bytes.drop (4 * n)).take 4)))) s1

/-- LIN_USE: ERASED and retired sectors. -/
def linUse (s : State) : Nat :=
  erasedSectors s + (s.lin.sectors.filter fun e => e.2.state == 3).length % 64 * 65536

end Sys2Proof.Machine
end

