-- ==== Sys2Proof/Machine/Pair.lean ====
section
/-! DEFINITION. Active and standby pairs (chapter 14): fencing epochs, roles, heartbeats, the standby's latch points, the
mirror stream, yields, takeovers and self-diagnosis. -/

namespace Sys2Proof.Machine


def bound (s : State) : Bool := s.regB R.MIR_CFG 0
def prefers (s : State) : Bool := s.regB R.MIR_CFG 2

/-! Fencing epochs (R446, R447) -/

/-- The least epoch of the member's parity above `e`. -/
def nextOwn (s : State) (e : Nat) : Nat :=
  if (e + 1) % 2 = s.regF R.MIR_CFG 1 1 then e + 1 else e + 2

/-- The next epoch has a durable reservation. -/
def reserved (s : State) : Bool := (s.reg R.MIR_RESV).toNat == nextOwn s (fence s) && decide (nextOwn s (fence s) < 2 ^ 32)

/-- Submit the reservation of the next epoch, where none stands (Table 15-3, EPOCH). -/
def renewResv (s : State) : State :=
  let n := nextOwn s (fence s)
  if !bound s || decide (2 ^ 32 ≤ n) || reserved s || s.pair.resvNext == some n then s
  else
    let r := linSubmit s (mkRec s 0x40 false false (leBytes 4 (fence s) ++ leBytes 4 n))
    if r.2 then { r.1 with pair := { r.1.pair with resvNext := some n } } else r.1

/-- Take the reserved epoch and renew the reservation; refused where it is not durable or would pass 2^32 - 1. -/
def takeEpoch (s : State) : State × Bool :=
  let n := nextOwn s (fence s)
  if 2 ^ 32 ≤ n then (raise s 0x24 12, false)
  else if !reserved s then (renewResv s, false)
  else (renewResv (s.setReg R.MIR_EPOCH (w32 n)), true)

/-! Health (14.4) -/

/-- The reference domain's present epoch. -/
def refEpoch (s : State) : Nat := match (s.dom (s.regF R.MIR_CFG 3 2)).cur with | some c => c.k | none => 0

/-- MISMATCH results in the last `n` epochs of the reference domain. -/
def mismIn (s : State) (n : Nat) : Nat := (s.pair.mism.filter fun k => decide (refEpoch s < k + n)).length

/-- Within the last 60 s (R29). -/
def lately (s : State) (t : Option Nat) : Bool := match t with | some t => !elapsed s t 60000000000 | none => false

/-- The HEALTH word (Table 14-5). NOTSYNC and SHADOW belong to a member that is not active. -/
def healthWord (s : State) : Nat :=
  let act := s.pair.role == .active
  (s.pair.failing &&& s.regF R.MIR_DIAG 0 7) + b2n (!act && decide (0 < mismIn s 64)) * 2 ^ 8 +
    b2n (lately s s.pair.testAt) * 2 ^ 9 + b2n (lately s s.pair.scrubAt) * 2 ^ 10 + b2n (!act && !s.pair.synced) * 2 ^ 11 +
    b2n s.pair.async * 2 ^ 12 + b2n s.upd.updating * 2 ^ 13 + min (mismIn s 256) 255 * 2 ^ 16

/-- A HEALTH word is healthy: bits 11..0 and 13 are 0. -/
def wordHealthy (h : Nat) : Bool := h % 4096 == 0 && !h.testBit 13
def healthy (s : State) : Bool := wordHealthy (healthWord s)

/-! Roles (Table 14-1) -/

/-- Code of PG_STAT.ROLE. -/
def Role.code : Role → Nat
  | .unbound => 0 | .seeking => 1 | .standby => 2 | .active => 3

/-- Code of the role in a HEARTBEAT. -/
def Role.hb : Role → Nat
  | .active => 1 | .seeking => 2 | _ => 0

/-- RESYNC_REQ (R457): it names the highest mirrored record held. -/
def resyncReq (s : State) : State :=
  cuffSend { s with pair := { s.pair with rejected := false } } 0x08 0 (beBytes 4 s.lin.mirSeq)

/-- Frames that a standby kept for an EPOCH message of a stopped domain (R455) are shown once it is none any more (R226). -/
def showWaiting (s : State) : State :=
  if s.pair.role = .standby then s
  else (List.range 4).foldl (fun t d => if (t.dom d).running then t else (pendLayers t d).foldl (fun u n =>
    let ps := (u.lay n).pend
    ps.foldl (fun v p => selectSlot v n p) (u.setLay n { u.lay n with pend := [] })) t) s

/-- Change the role: ROLE_CHANGE, the service address follows, PTP instance N starts or stops. -/
def setRole (s : State) (r : Role) : State :=
  if s.pair.role = r then s
  else ptpTouch (svcRole (showWaiting (raise { s with pair := { s.pair with role := r, fit := none } } 0x24 1)))

/-- A standby whose partner is lost, and whose SYNCED read 0 when its last heartbeat arrived, does not serve (Table 14-1). -/
def blocked (s : State) : State := if !s.pair.partner && !s.pair.syncAtHb then raise s 0x24 9 else s

/-- Enter STANDBY: the ordered stream starts anew, and a resync is requested (R457). Frames queued before the member ever
served are dropped (R459, R474). -/
def enterStandby (s0 : State) : State :=
  let s := if s0.pair.role = .seeking then (List.range 16).foldl dropQueue s0 else s0
  let p := s.pair
  blocked (resyncReq (setRole { s with pair := { p with
    unacked := [], unsent := [], rxSeq := none, held := [], async := false, own := [], theirs := [], yield := none } } .standby))

/-- MIR_TKOVER. -/
def setTkover (s : State) (cause held : Nat) : State := s.setReg R.MIR_TKOVER (w32 (cause + min held 2 * 256))

/-- What a new active member does (R465): every digest is not stored, every node has a GAP, and it counts. -/
def becomeActive (s : State) : State :=
  let p := s.pair
  let s1 := setRole { s with pair := { p with own := [], theirs := [], diverg := [], yield := none, retry := none } } .active
  let s2 := { s1 with ren := { s1.ren with digests := [] } }
  let s3 := (List.range 16).foldl (fun t q => (validNodes t q).foldl (fun u n => setGap u q n) t) s2
  s3.count R.MIR_CNT0 0 16 1

/-- A new active member serves (Table 14-1), where it can take an epoch. -/
def serve (s : State) : State × Bool :=
  let r := takeEpoch s
  if r.2 then (becomeActive r.1, true) else r

/-- ACTIVE meets a higher epoch (R466): what SYNCED read in the role it leaves does not let it promote again. -/
def fencedOut (s : State) : State :=
  if s.pair.role ≠ .active then s
  else
    let s1 := (List.range 16).foldl dropQueue s
    let s2 := raise { s1 with pair := { s1.pair with synced := false, syncAtHb := false } } 0x24 10
    enterStandby (setTkover s2 5 0)

/-- A node reply carries a higher fencing epoch (R271, R466). -/
def replyFence (s : State) (p epoch : Nat) : State :=
  if fence s < epoch then fencedOut (raise s (ppPage p) 8) else s

/-- MIR_CFG.BIND was written (R448): 1 loads the epoch and the reservation from the Lining. -/
def bindWritten (s : State) : State :=
  if bound s then
    if s.pair.role ≠ .unbound then s
    else
      let s1 := match stateRec s false 0x40 0 with
        | some r => (s.setReg R.MIR_EPOCH (w32 (leNat (r.payload.take 4)))).setReg R.MIR_RESV
            (w32 (leNat ((r.payload.drop 4).take 4)))
        | none => s
      renewResv (setRole { s1 with pair := { s1.pair with since := s.up } } .seeking)
  else
    let s1 := setRole s .unbound
    let p := s1.pair
    { s1 with pair := { pair0 with
        failing := p.failing, clear := p.clear, testAt := p.testAt, scrubAt := p.scrubAt, uDown := p.uDown,
        engFaults := p.engFaults, ueErrors := p.ueErrors, txSeq := p.txSeq } }

/-- Errors of a write of MIR_CFG (Table 14-11). -/
def mirCfgErrors (s : State) (v : Word) : List (Err × Nat) :=
  let old := s.reg R.MIR_CFG
  let none_ := pairId s == 0 || peerSerial s == 0
  let ports := (List.range 16).any fun p => s.en (ppPage p)
  (if (bit v 0 && none_) ∨ (!bit v 0 && s.pair.role == .standby && ports) ∨
      (bit old 0 && (fld v 1 4 != fld old 1 4 || fld v 16 16 != fld old 16 16)) then [(Err.state, 0x040)] else [])

/-! Heartbeats (R450, R451) -/

/-- The partner's own ring address: the entry of its serial. -/
def partnerAddr (s : State) : Option Nat :=
  ringAddrs.find? fun a => ringSt s a == 2 && ringSerial s a == peerSerial s && !ringSvc s a

/-- A HEARTBEAT on the Cuff where 500 µs have passed since the latest there. -/
def hbCuffSend (s : State) : State :=
  if !elapsed s s.pair.hbSent 500000 then s
  else cuffSend { s with pair := { s.pair with hbSent := s.up } } 0x01 0
    (beBytes 8 (pairId s) ++ beBytes 1 s.pair.role.hb ++ beBytes 3 0 ++ beBytes 4 (healthWord s))

/-- A HEARTBEAT to the partner's ring address where 500 µs have passed since the latest there. -/
def hbRingSend (s : State) : State :=
  let due : Bool := match s.hb.hbSent with | some t => elapsed s t 500000 | none => true
  match if due then partnerAddr s else none with
  | some a => ryuNew { s with hb := { s.hb with hbSent := some s.up } } 0x08 a (ownAddr s)
      (beBytes 4 (fence s) ++ beBytes 1 s.pair.role.hb ++ beBytes 1 0 ++ beBytes 4 (healthWord s))
  | none => s

/-- HEARTBEAT_SEND (R450): every 500 µs on the Cuff and, as a Ryuward frame, on the Hatband, each path timed on its own. -/
def heartbeatSend (s : State) : State :=
  if !bound s || s.pair.role == .unbound then s else renewResv (hbRingSend (hbCuffSend s))

/-- A heartbeat accepted under R445 drives the roles (Table 14-1). `ring` names the path. -/
def heartbeatRx (s : State) (ring : Bool) (epoch role health : Nat) : State :=
  let p := s.pair
  let fresh := !p.partner
  let s1 := { s with pair := { p with
    hbCuff := if ring then p.hbCuff else some s.up, hbRing := if ring then some s.up else p.hbRing,
    partner := true, syncAtHb := p.synced, since := s.up } }
  let s2 := s1.setReg R.MIR_PHEALTH (w32 health)
  let s3 := if fresh then raise s2 0x24 3 else s2
  let adopt (t : State) : State :=
    if role = 1 ∧ fence t < epoch then renewResv (t.setReg R.MIR_EPOCH (w32 epoch)) else t
  match s3.pair.role with
  | .seeking =>
    if role = 1 then adopt (enterStandby s3)
    else if prefers s3 then (serve s3).1
    else enterStandby s3
  | .standby => adopt s3
  | .active => if role = 1 ∧ fence s3 < epoch then fencedOut s3 else s3
  | .unbound => s3

/-- A heartbeat that is not the partner's (R445). -/
def heartbeatForeign (s : State) : State := s.count R.MIR_CNT1 16 8 1

/-- SEEK_TIMEOUT (Table 14-1). -/
def seekTimeout (s : State) : State :=
  if s.pair.role = .seeking ∧ elapsed s s.pair.since (s.regF R.MIR_TIMING 16 16 * 1000000) then
    let r := serve s
    if r.2 then raise r.1 0x24 2 else r.1
  else s

/-! The ordered stream at the standby (R452-R458) -/

/-- A stream message arrives: older ones are ignored, a gap clears SYNCED and asks for a resync (R457). -/
def streamIn (s : State) (seq : Nat) : State × Bool :=
  if s.pair.role ≠ .standby then (s, false)
  else
    let acc (t : State) : State := { t with pair := { t.pair with rxSeq := some seq } }
    match s.pair.rxSeq with
    | none => (acc s, true)
    | some q =>
      if seq = (q + 1) % 2 ^ 32 then (acc s, true)
      else if (seq + 2 ^ 32 - q) % 2 ^ 32 < 2 ^ 31 ∧ seq ≠ q then
        (acc (resyncReq { s with pair := { s.pair with synced := false } }), true)
      else (s, false)

/-- A mirrored Lining record (R494): appended in order, unless it is not above the last one stored and no BASE record. It is
unacknowledged until it is durable. -/
def mirrorRecord (s : State) (seq : Nat) (r : LRec) : State :=
  let hi := match ((s.lin.inAppend ++ s.lin.subq).filter (·.partner)).getLast? with | some x => x.seq | none => s.lin.mirSeq
  if r.seq ≤ hi ∧ !r.base then s
  else
    let sub := linSubmit s { r with partner := true }
    { sub.1 with pair := { sub.1.pair with held := sub.1.pair.held ++ [(seq, r.seq)] } }

/-- The partner's accumulators (Table 14-4). -/
def mirrorAcc (s : State) (ws : List Word) : State :=
  { s with pair := { s.pair with accs := ws, lastAcc := s.up } }

/-- A mirrored write was rejected (R453). -/
def mirrorReject (s : State) : State :=
  raise ({ s with pair := { s.pair with rejected := true, synced := false } }.count R.MIR_CNT1 0 8 1) 0x24 11

/-- RESYNC_END (R458). -/
def resyncEnd (s : State) (status : Nat) : State :=
  if status = 0 ∧ !s.pair.rejected then raise { s with pair := { s.pair with synced := true } } 0x24 5 else s

/-- Epoch number `k` of a domain as a point of its grid, and whether the bridge applies with it. -/
def epochNo (s : State) (d k : Nat) : EpochPt × Bool :=
  let r := s.dom d
  (epochOf s d (max k r.next.k), match r.bridge with | some b => decide (b.k ≤ k) | none => false)

/-- A layer follows the EPOCH message (R455): the named frame is shown, or the layer keeps its frame and diverges. -/
def layerFollow (s : State) (d : Nat) (e : EpochPt) (x : EpLayer) : State :=
  let r := s.lay x.layer
  let fine (f : Option Nat) (inc : Bool) : Bool := f == some x.fnum && (!inc || x.inc)
  match r.pend.find? fun p => fine p.fnum p.inc with
  | some p =>
    let older := r.pend.takeWhile (· != p)
    let s1 := s.setLay x.layer { r with pend := (r.pend.dropWhile (· != p)).drop 1 }
    showSlot (older.foldl (fun t q => supersede t x.layer q (some p.slot)) s1) x.layer p e.l
  | none =>
    if (shownSlot s x.layer).isSome && fine r.shownFnum r.shownInc then s
    else
      let s1 := s.count R.MIR_CNT1 8 8 1
      { s1 with pair := { s1.pair with diverg := s1.pair.diverg ++ [(x.layer, d, e.k)] } }

/-- Step 2 of R227 at a standby (R454, R455): the mirrored sets and selections, the windows written before L_k that are not
mirrored (R452), and the frames named. `all` is false after a missing message: then the sets apply by their commit time. Sets that
the member's own requesters committed wait until it serves. -/
def standbySets (s : State) (d : Nat) (e : EpochPt) (all : Bool) (lays : List EpLayer) : State :=
  let s1 := applyPend s ((pendOf s d).filter fun x => x.2.req == 4 && (all || decide (x.2.time < e.l)))
  let s2 := applyTiles (applyEngs s1 d e.l (some (e.k - 1))) d e.l
  let s3 := (pendLayers s2 d).foldl (fun t n =>
    let r := t.lay n
    let due (p : PendSel) : Bool := p.mir && (all || decide (p.time < e.l))
    match (r.pend.filter due).getLast? with
    | none => t
    | some p =>
      let t1 := t.setLay n { r with pend := r.pend.filter fun q => !due q }
      showSlot (((r.pend.filter due).filter (· != p)).foldl (fun u q => supersede u n q (some p.slot)) t1) n p e.l) s2
  lays.foldl (fun t x => layerFollow t d e x) s3

/-- Results that wait for their partner past L_{k+1} are EXCLUDED (R460), and old divergence marks go. -/
def pruneShadow (s : State) (d k : Nat) : State :=
  let p := s.pair
  let late (x : Shadow) : Bool := srfDom s x.surf == d && decide (x.epoch < k)
  { s with pair := { p with own := p.own.filter fun x => !late x, theirs := p.theirs.filter fun x => !late x, diverg := p.diverg.filter fun x => x.2.1 != d || decide (k ≤ x.2.2 + 2) } }

/-- EPOCH_WAIT_TIMEOUT (R454): no EPOCH message by L_k + ACKTO. -/
def epochTimeout (s : State) (d : Nat) : State :=
  let lim := s.regF R.MIR_TIMING 0 11 * 1000
  if s.pair.role ≠ .standby ∨ nowNs s < lim then s
  else match dueEpoch s d (nowNs s - lim) with
    | none => s
    | some (e, br) =>
      let s1 := { s with pair := { s.pair with synced := false } }
      processLatch (pruneShadow s1 d e.k) d e br fun t => standbySets t d e false []

/-- A new active member starts with the first epochs whose latch points follow (R465, R469): those up to `t` that still
wait for an EPOCH message are processed as by a standby. -/
def catchUp (s : State) (t : Nat) : State :=
  (List.range 4).foldl (fun u d =>
    match dueEpoch u d t with
    | some (e, br) => processLatch (pruneShadow u d e.k) d e br fun x => standbySets x d e false []
    | none => u) s

/-- PARTNER_LOSS (R467, R469, Table 14-1). -/
def partnerLoss (s : State) : State :=
  let p := s.pair
  if partnerHeard s || !(p.partner || (p.role == .standby && p.syncAtHb)) then s
  else
    let first := p.partner
    let s1 := { s with pair := { p with partner := false, yield := p.yield.filter fun y => !y.ok } }
    match p.role with
    | .standby =>
      if p.syncAtHb then
        let s2 := if reserved s1 then catchUp s1 (nowNs s) else s1
        let held := match p.lastRef with
          | some k => (s2.dom (s.regF R.MIR_CFG 3 2)).next.k - k - 1
          | none => 0
        let r := serve s2
        if r.2 then setTkover (raise { r.1 with pair := { r.1.pair with syncAtHb := false } } 0x24 0) 4 held
        else if first then raise r.1 0x24 9 else r.1
      else raise s1 0x24 9
    | .active => raise s1 0x24 2
    | _ => s1

/-- An EPOCH message in stream order (R454): one that arrives at or after its limit counts as not arrived. -/
def epochRx (s0 : State) (d k : Nat) (lays : List EpLayer) : State :=
  let s := epochTimeout s0 d
  let s1 := if s.regF R.MIR_CFG 3 2 = d then { s with pair := { s.pair with lastRef := some k } } else s
  let r := s1.dom d
  if !r.running || decide (k < r.next.k) then s1
  else
    let x := epochNo s1 d k
    processLatch (pruneShadow s1 d x.1.k) d x.1 x.2 fun t => standbySets t d x.1 true lays

/-- L_{k+1} of a domain is not ahead any more. -/
def nextPassed (s : State) (d k : Nat) : Bool :=
  let r := s.dom d
  (match r.cur with | some c => decide (k < c.k) | none => false) ||
    (r.running && decide (r.next.k ≤ k + 1) && decide ((epochOf s d (k + 1)).l ≤ nowNs s))

/-- DIGEST (R460): the active's results, one of a tile whose next latch point has passed being too late. -/
def digestRx (s : State) (k : Nat) (ts : List (Nat × Nat × Bool × Nat)) : State :=
  if s.pair.role ≠ .standby then s
  else ts.foldl (fun t x =>
    if nextPassed t (srfDom t x.1) k then t
    else shadowMatch t ⟨x.1, x.2.1, k, if x.2.2.1 then none else some x.2.2.2, false⟩ false) s

/-! Acknowledgements at the active (R456, R457) -/

/-- Leave ASYNC once everything is acknowledged and nothing has stayed so for 1 s (R456). -/
def calmCheck (s : State) : State :=
  if s.pair.async && s.pair.unacked.isEmpty && elapsed s s.pair.calm 1000000000 then
    { s with pair := { s.pair with async := false } }
  else s

/-- ACK names the highest sequence received in order (R452). -/
def ackRx (s : State) (seq : Nat) : State :=
  if s.pair.role ≠ .active then s
  else
    let rest := s.pair.unacked.filter fun u => decide (2 ^ 31 ≤ (seq + 2 ^ 32 - u.seq) % 2 ^ 32)
    appendSettle (calmCheck (mirLag { s with pair := { s.pair with unacked := rest } }))

/-- MIRROR_ACK_TIMEOUT (R456): a message unacknowledged for ACKTO puts mirroring into ASYNC. -/
def ackTimeout (s : State) : State :=
  let lim := s.regF R.MIR_TIMING 0 11 * 1000
  let late := s.pair.unacked.any fun u => elapsed s u.sent lim
  let waits := match s.lin.waiting with | some (_, t) => elapsed s t lim | none => false
  if s.pair.role ≠ .active || !(late || waits) then s
  else appendSettle (goAsync s)

/-! Resync (R458) -/

/-- Registers of a page that a resync sends: writable settings, neither windows, commands nor event bits. -/
def resyncRegs (p : Nat) : List Nat :=
  let offs := (blockRegs p).filter (fun r => !r.banked && r.fields.any fun f => f.acc == .rw || f.acc == .st)
  (offs.map fun r => (List.range r.count).map fun k => p * 0x10000 + r.off + k * r.stride).flatten

/-- The kind 1 writes of one window entry (Table 2-12). -/
def windowWrites (w : WinD) (i : Nat) (ws : List Word) : List (Nat × Word) :=
  let b := w.page * 0x10000
  (b + w.idx, w32 i) :: (List.range w.nd).map (fun k => (b + w.data + 4 * k, lget ws k 0#32)) ++ [(b + w.op, 2#32)]

/-- The writes that give a standby the applied values of a mirrored page (R458); tables held in DRAM are left out. -/
def pageWrites (s : State) (p : Nat) : List (Nat × Word) :=
  let wins := (winsOf p).filter fun w => !w.ro && w.tab != tSRFT && w.tab != tTDMQ && w.tab != tTDMA
  let regs := (R.PG_EVMSK p :: resyncRegs p).map fun a => (a, s.reg a)
  let ents := (wins.map fun w => ((List.range (w.hi + 1)).filter fun i => decide (w.lo ≤ i) && !(w.tab == tHFL && decide (240 ≤ i))).map
    fun i => windowWrites w i (s.ent w.tab i)).flatten
  let latch := match findPage p with | some d => d.latch | none => false
  regs ++ ents.flatten ++ (if latch then [(R.PG_COMMIT p, 1#32)] else []) ++ [(R.PG_CTL p, w32 (b2n (s.en p) + 4 * b2n (s.regB (R.PG_CTL p) 2)))]

/-- Send writes as MIRROR messages of at most 256 entries. -/
def sendWrites : Nat → State → List (Nat × Word) → State
  | 0, s, _ => s
  | n + 1, s, ws =>
    match ws with
    | [] => s
    | _ => sendWrites n (streamSend s (.mirror ((ws.take 256).map fun w => .write w.1 w.2 (nowNs s)))) (ws.drop 256)

/-- Own records above a sequence, or the latest checkpoint marked BASE and the later ones (R458, R495). -/
def resyncRecs (s : State) (from_ : Nat) : List LRec :=
  let own := (journal s).filter fun r => !r.partner
  let c := match latestCkpt s with | some c => c.c | none => 0
  let lo := own.foldl (fun a r => min a r.seq) (c + 1)
  if from_ + 1 < lo ∧ from_ < c then
    let base : List LRec := match latestCkpt s with | some c => c.recs.filter (fun r => !r.partner) | none => []
    base.map (fun r => { r with base := true }) ++ own.filter (fun r => decide (c < r.seq))
  else own.filter fun r => decide (from_ < r.seq)

/-- RESYNC_REQ at the active (R458). -/
def resyncRx (s : State) (from_ : Nat) : State :=
  if s.pair.role ≠ .active then s
  else
    let pages := (List.range 0x22).filter mirPage
    let s1 := pages.foldl (fun t p => let ws := pageWrites t p; sendWrites ws.length t ws) s
    let s2 := (resyncRecs s1 from_).foldl (fun t r => streamSend t (.mirror [.record r])) s1
    let s3 := (List.range 4).foldl (fun t d =>
      match (t.dom d).cur with
      | some c => if (t.dom d).running then streamSend t (.epoch d c.k (epochLayers t d)) else t
      | none => t) s2
    streamSend s3 (.resyncEnd 0)

/-! Yield and fail-back (14.5) -/

/-- H and h of a yield decided now (R463). -/
def yieldPoint (s : State) : Nat × Nat :=
  let d := s.regF R.MIR_CFG 3 2
  let t := nowNs s + 2000000
  if !(s.dom d).running then (t, 0)
  else
    let e := latchFrom s d t
    let n := (s.dom d).next
    if e.k < n.k then (n.l, n.k) else (e.l, e.k)

/-- Send a YIELD with a cause: 1 diagnosis, 2 reclaim, 3 manual. -/
def yieldSend (s : State) (h k cause : Nat) : State :=
  cuffSend s 0x05 0 (beBytes 4 (nsOf h) ++ beBytes 4 (secOf h) ++ beBytes 8 k ++ beBytes 1 cause)

/-- The active yields (R463), unless a yield is under way. -/
def yieldStart (s : State) (cause : Nat) : State :=
  if s.pair.role ≠ .active ∨ s.pair.yield.isSome then s
  else
    let x := yieldPoint s
    let y : Yield := ⟨x.1, x.2, cause, s.up, true, false⟩
    yieldSend { s with pair := { s.pair with yield := some y, retry := none } } x.1 x.2 cause

/-- A yield is abandoned (R464): it is tried again 100 ms later while its cause persists. -/
def yieldBlocked (s : State) (cause : Nat) : State :=
  raise { s with pair := { s.pair with yield := none, retry := some (s.up + 100000000, cause) } } 0x24 8

/-- The cause of a yield persists (R464): a check still fails; the partner that reclaimed is heard and healthy. A written
YIELD is a single request. -/
def causeHolds (s : State) (cause : Nat) : Bool :=
  if cause = 1 then s.pair.failing &&& s.regF R.MIR_DIAG 0 7 != 0
  else cause == 2 && partnerHeard s && wordHealthy (s.reg R.MIR_PHEALTH).toNat

/-- A YIELD arrives (R464, R468). A member asked to take over answers; an active member asked to give way yields. -/
def yieldRx (s : State) (h k cause : Nat) : State :=
  match s.pair.role with
  | .standby =>
    let st := if s.pair.yield.isSome then 1
      else if !wordHealthy (healthWord s &&& 0xFFFFF7FF) then 1 else if !s.pair.synced then 2 else if !reserved s then 3 else 0
    let s1 := if st = 0 then { s with pair := { s.pair with yield := some ⟨h, k, cause, s.up, false, true⟩ } } else s
    let s2 := if 2 ^ 32 ≤ nextOwn s (fence s) then raise s1 0x24 12 else s1
    cuffSend s2 0x06 0 (beBytes 1 st)
  | .active =>
    -- of two yields in one period the first wins, and the other is refused (Table 14-9)
    if cause ≠ 2 then s else if s.pair.yield.isSome then cuffSend s 0x06 0 (beBytes 1 1) else yieldStart s 2
  | _ => s

/-- YIELD_TIMEOUT (R464): no acceptance within 1 ms. -/
def yieldTimeout (s : State) : State :=
  match s.pair.yield with
  | some y => if y.mine && !y.ok && elapsed s y.sent 1000000 then yieldBlocked s y.cause else s
  | none => s

/-- YIELD_ACK (R464). -/
def yieldAck (s0 : State) (status : Nat) : State :=
  let s := yieldTimeout s0
  match s.pair.yield with
  | some y =>
    if !y.mine || y.ok then s
    else if status = 0 then { s with pair := { s.pair with yield := some { y with ok := true } } }
    else yieldBlocked s y.cause
  | none => s

/-- YIELD_RETRY (R464). -/
def yieldRetry (s : State) : State :=
  match s.pair.retry with
  | some (t, c) =>
    if s.up < t then s
    else
      let s1 := { s with pair := { s.pair with retry := none } }
      if causeHolds s c then yieldStart s1 c else s1
  | none => s

/-- The member that yields processes its latch points before H under active rules (R465). -/
def catchUpActive (s : State) (t : Nat) : State :=
  (List.range 4).foldl (fun u d => latchUntil u d t) s

/-- HANDOVER at H (R465). -/
def handover (s : State) : State :=
  match s.pair.yield with
  | some y =>
    if !y.ok || decide (nowNs s < y.h) then s
    else if y.mine then
      enterStandby (setTkover (catchUpActive s (y.h - 1)) y.cause 0)
    else
      let s1 := { s with pair := { s.pair with yield := none } }
      let r := serve (if reserved s1 then catchUp s1 (y.h - 1) else s1)
      if r.2 then setTkover r.1 y.cause 0 else r.1
  | none => s

/-- Since when a standby has been healthy and synced (R468). -/
def fitTouch (s : State) : State :=
  let ok := s.pair.role == .standby && healthy s && s.pair.synced
  let f := if ok then some (s.pair.fit.getD s.up) else none
  if f = s.pair.fit then s else { s with pair := { s.pair with fit := f } }

/-- RECLAIM (R468). -/
def reclaim (s : State) : State :=
  match s.pair.fit with
  | some t =>
    if prefers s && elapsed s t (s.regF R.MIR_REVERT 0 17 * 1000000000) then
      let x := yieldPoint s
      yieldSend { s with pair := { s.pair with fit := some s.up } } x.1 x.2 2
    else s
  | none => s

/-! Self-diagnosis (R462) -/

/-- The condition of a check (Table 14-6). -/
def diagCond (s : State) (n : Nat) : Bool :=
  match n with
  | 0 => decide (s.regF R.MIR_DIAG 8 8 < (s.pair.engFaults.filter fun t => decide (s.up < t + 1000000000)).length)
  | 1 => decide (s.regF R.MIR_DIAG 16 8 < (s.pair.ueErrors.filter fun t => decide (s.up < t + 60000000000)).length)
  | 2 => match s.pair.uDown with | some t => elapsed s t 1000000000 | none => false
  | 3 => !s.clkr.valid || s.clkr.state == 0 || (s.clkr.state == 3 && !s.clkr.inspec)
  | 4 => decide (750 ≤ toSigned 16 (s.regF R.THM_BASE 0 16))
  | 5 => s.pwr.pfw.isSome || s.pwr.low36 || !s.pwr.charged
  | 6 => decide (2 ≤ s.gnt.level)
  | _ => false

/-- DIAG_CHECK_FAIL. A failed power-on self-test fails check ENG too (R550). -/
def diagFail (s : State) (n : Nat) : State :=
  let cond := diagCond s n || (n == 0 && s.regB R.BST_POST 1)
  if !(decide (n < 7) && s.regB R.MIR_DIAG n && cond) || s.pair.failing.testBit n then s
  else
    let s1 := raise { s with pair := { s.pair with failing := s.pair.failing + 2 ^ n, clear := sdel s.pair.clear n } } 0x24 7
    yieldStart (darkEnter s1 5) 1

/-- DIAG_CHECK_PASS: the condition has been absent for 10 s. -/
def diagPass (s : State) (n : Nat) : State :=
  match sget s.pair.clear n with
  | some t =>
    if s.pair.failing.testBit n && elapsed s t 10000000000 then
      { s with pair := { s.pair with failing := s.pair.failing - 2 ^ n, clear := sdel s.pair.clear n } }
    else s
  | none => s

/-- Note since when conditions are absent, and since when both U links are down. -/
def diagTouch (s : State) : State :=
  let p := s.pair
  let down := !linkUp s 0x10 && !linkUp s 0x11
  let ud := if down then p.uDown else none
  let cl := (bitsOf 7 p.failing).foldl (fun m n =>
    if diagCond s n || (n == 0 && s.regB R.BST_POST 1) then sdel m n else if (sget m n).isSome then m else sset m n s.up) p.clear
  if ud = p.uDown ∧ cl = p.clear then s else { s with pair := { p with uDown := ud, clear := cl } }

/-- A U link has gone down: check 2 counts from the last of the two (Table 14-6). -/
def uplinkDown (s : State) : State :=
  if linkUp s 0x10 || linkUp s 0x11 then s else { s with pair := { s.pair with uDown := some s.up } }

/-- HEALTH_HOLD_EXPIRY (R461). -/
def healthExpiry (s : State) : State :=
  let live (t : Option Nat) : Option Nat := match t with
    | some x => if elapsed s x 60000000000 then none else some x
    | none => none
  { s with pair := { s.pair with testAt := live s.pair.testAt, scrubAt := live s.pair.scrubAt } }

/-- MIR_CLR.CNT. -/
def mirClr (s : State) : State :=
  ((s.setReg R.MIR_CNT0 0#32).setReg R.MIR_CNT1 0#32).setReg R.MIR_LAG (w32 (min s.pair.unacked.length 65535 +
    min s.pair.unacked.length 65535 * 65536))

end Sys2Proof.Machine
end

