-- ==== Sys2Proof/Machine/Gauntlet.lean ====
section
/-! DEFINITION. The Gauntlet, the key vault and MACsec key agreement (chapter 16). -/

namespace Sys2Proof.Machine

/-! The vault (16.6) -/

/-- Slots with a secret, and the owner's public keys: what ERASE_ALL zeroes (Table 16-6). -/
def eraseAll : List Nat := [0, 1, 3] ++ (List.range 23).map (· + 4)
/-- SAK and content slots: what ERASE_SESSION zeroes. -/
def eraseSession : List Nat := (List.range 18).map (· + 9)

/-- KEY_STAT.PRESENT. -/
def keyTouch (s : State) : State :=
  s.setReg R.KEY_STAT (w32 ((s.gnt.slots.map fun e => 2 ^ (e.1 % 32)).foldl (· + ·) 0))

/-- Bytes of a slot; a slot without a key is zero. -/
def slotBytes (s : State) (n : Nat) : List Byte := (sget s.gnt.slots n).getD (List.replicate 96 0#8)
def keyPresent (s : State) (n : Nat) : Bool := (sget s.gnt.slots n).isSome

/-- Fill or zero a slot. -/
def putSlot (s : State) (n : Nat) (b : Option (List Byte)) : State :=
  let m := match b with | some x => sset s.gnt.slots n x | none => sdel s.gnt.slots n
  keyTouch { s with gnt := { s.gnt with slots := m } }

/-- The module is bound: slot 1 holds a key. -/
def gntBound (s : State) : Bool := keyPresent s 1

/-- Page of a MACsec port (0 U0, 1 U1, 2 H0, 3 H1, 4 M). -/
def secPage (p : Nat) : Nat := if p < 2 then 0x10 + p else if p < 4 then 0x22 + (p - 2) else 0x24

/-- Association number of a SAK slot. -/
def sakAn (s : State) (n : Nat) : Nat := (lget (slotBytes s n) 36 0#8).toNat % 4

/-- Association numbers of a port's SAKs. -/
def portAns (s : State) (p : Nat) : List Nat :=
  ((List.range 2).filter fun k => keyPresent s (9 + 2 * p + k)).map fun k => sakAn s (9 + 2 * p + k)

/-- A SAK was written for a port: the transmit SA uses it, its receive SA is installed anew, under the cipher suite that
SEC_CFGp.XPN selects (R513). -/
def installSak (s : State) (p an : Nat) : State :=
  if 3 ≤ s.gnt.level then s
  else
    let pg := secPage p
    let m := s.mac pg
    let s1 := s.setMac pg { m with txSa := some ⟨an, 0, s.up⟩, xpn := s.regB (R.SEC_CFG p) 0, rxAns := portAns s p, rxSas := m.rxSas.filter fun a => a.an != an }
    let s2 := { s1 with gnt := { s1.gnt with rekey := sset s1.gnt.rekey p s.up } }
    (s2.setRegF (R.SEC_STAT p) 8 2 an).count (R.SEC_STAT p) 16 16 1

/-- A SAK of a port is gone. -/
def dropSak (s : State) (p : Nat) : State :=
  let pg := secPage p
  let m := s.mac pg
  let ans := portAns s p
  let tx := m.txSa.filter fun t => ans.contains t.an
  s.setMac pg { m with txSa := tx, xpn := m.xpn && (tx.isSome || !ans.isEmpty), rxAns := ans, rxSas := m.rxSas.filter fun a => ans.contains a.an }

/-- SEC_STATp.STATE (R515, Table 16-11). -/
def secState (s : State) (p : Nat) : Nat :=
  if 3 ≤ s.gnt.level then 4
  else if !s.en 0x46 || !strict s (secPage p) then 0
  else if !keyPresent s (4 + p) then 1
  else if secure s (secPage p) then 3 else 2

/-- Who may write or erase a slot through the window (R512). -/
def slotWriter (req n : Nat) : Bool :=
  if (4 ≤ n ∧ n ≤ 8) ∨ (19 ≤ n ∧ n ≤ 26) then req == 0 || req == 1
  else if 9 ≤ n ∧ n ≤ 18 then req == 0
  else false

/-- Bytes of the key window's buffer. -/
def keyBuf (s : State) (req : Nat) : List Byte :=
  ((List.range 24).map fun k => leBytes 4 (s.breg req (0x450044 + 4 * k)).toNat).flatten

/-- Errors of a write to KEY_OP (Table 16-10, R512). -/
def keyErrors (s : State) (req v : Nat) : List (Err × Nat) :=
  let n := fld (s.breg req 0x450040) 0 5
  let ckn := (lget (keyBuf s req) 32 0#8).toNat
  (if 1 < popCount 3 v then [(Err.range, 0xA4)] else []) ++
  (if v / 2 % 4 ≠ 0 ∧ !slotWriter req n then [(Err.protect, 0xA4)] else []) ++
  (if v = 2 ∧ 4 ≤ n ∧ n ≤ 8 ∧ (ckn = 0 ∨ 32 < ckn) then [(Err.range, 0x44 + 32)] else [])

/-- What a READ of a slot returns (Table 16-6): no secret byte. -/
def vaultRead (s : State) (n : Nat) : List Byte :=
  let b := slotBytes s n
  let only (lo hi : Nat) : List Byte := (List.range 96).map fun k => if lo ≤ k ∧ k < hi then lget b k 0#8 else 0#8
  if n = 0 then (if keyPresent s 0 then (List.range 96).map (Config.publicKey b) else b)
  else if n ≤ 3 then b else if n ≤ 8 then only 32 65 else if n ≤ 18 then only 32 37 else List.replicate 96 0#8

/-- KEY_OP.READ (R511). -/
def keyRead (s : State) (req : Nat) : State :=
  let b := vaultRead s (fld (s.breg req 0x450040) 0 5)
  (List.range 24).foldl (fun t k => t.setBreg req (0x450044 + 4 * k) (w32 (leNat ((b.drop (4 * k)).take 4)))) s

/-- KEY_OP.WRITE (R512, R513). -/
def keyWrite (s : State) (req : Nat) : State :=
  let n := fld (s.breg req 0x450040) 0 5
  let s1 := putSlot s n (some (keyBuf s req))
  if 9 ≤ n ∧ n ≤ 18 then installSak s1 ((n - 9) / 2) (sakAn s1 n) else s1

/-- KEY_OP.ERASE (R512). -/
def keyErase (s : State) (req : Nat) : State :=
  let n := fld (s.breg req 0x450040) 0 5
  let s1 := putSlot s n none
  if 9 ≤ n ∧ n ≤ 18 then dropSak s1 ((n - 9) / 2) else s1

/-- The key server starts a SAK (R513): it installs it in slot `n` of port `p` with association number `an`, and distributes
it to the peer in an EAPOL frame. The SAK and the bytes of that frame are free values. -/
def startSak (s : State) (p n an : Nat) : State :=
  let key := (List.range 32).map (Config.freeByte s.freeCtr)
  let s1 := installSak (putSlot s.draw n (some (key ++ List.replicate 4 0#8 ++ leBytes 1 an ++ List.replicate 59 0#8))) p an
  macSend s1.draw (secPage p) 0 (etherFrame s1 (secPage p) 0x0180C2000003 0x888E ((List.range 128).map (Config.freeByte s1.freeCtr)))

/-- SAK_REKEY (R513, R514): the key server of a port whose key agreement has no SAK starts the first one; with one in use, it
starts the next in the port's other slot. `peer` is the peer's key server priority, the lower value winning. -/
def sakRekey (s : State) (p peer : Nat) : State :=
  let srv := decide (s.regF (R.SEC_CFG p) 8 8 ≤ peer)
  let s1 := s.setRegB (R.SEC_STAT p) 3 srv
  let limit := if (s.mac (secPage p)).xpn then 0xC000000000000000 else 0xC0000000
  let rk := s.regF (R.SEC_CFG p) 16 16
  match (s.mac (secPage p)).txSa with
  | none => if srv && secState s p == 2 then startSak s1 p (9 + 2 * p) 0 else s1
  | some a =>
    let due := decide (limit ≤ a.pn) ||
      (rk != 0 && (match sget s.gnt.rekey p with | some t => elapsed s t (rk * 1000000000) | none => false))
    if !srv || !due || !(secState s p == 3) then s1
    else
      let an := (a.an + 1) % 4
      let base := 9 + 2 * p
      startSak s1 p (if keyPresent s base ∧ sakAn s base = a.an then base + 1 else base) an

/-! Levels (16.2) -/

/-- GFRZ on every page but GNT and EVT (R46). -/
def setGfrz (s : State) (b : Bool) : State :=
  (allPages.map (·.num)).foldl (fun t p => if p = 0x44 ∨ p = 0x03 then t else t.setRegB (R.PG_CTL p) 3 b) s

/-- The effects of a level (Table 16-2). GFRZ waits for the next device reset while main power is absent (R502), and for
the end of an activation pause (Table 17-7). -/
def levelEffects (s : State) (l : Nat) : State :=
  let s1 := if 2 ≤ l ∧ s.pwr.phase ≠ 0 ∧ s.upd.pauseAt = none then setGfrz s true else s
  let erase (t : State) (ns : List Nat) : State :=
    keyTouch { t with gnt := { t.gnt with slots := ns.foldl sdel t.gnt.slots } }
  let s2 := if 3 ≤ l then (List.range 5).foldl (fun t p =>
      if strict t (secPage p) then removeSas t (secPage p) else t) (erase s1 eraseSession) else s1
  if 4 ≤ l then erase s2 eraseAll else s2

/-- Lower the level (R499). -/
def lowerLevel (s : State) (l : Nat) : State :=
  if s.gnt.level ≤ l then s
  else
    let s1 := raise { s with gnt := { s.gnt with level := l } } 0x44 2
    if l < 2 then setGfrz s1 false else s1

/-! The alarm log (16.4) -/

/-- Payload of an ALARM record (Table 16-3). -/
def alarmPayload (e : AlarmE) : List Byte :=
  leBytes 1 e.cause ++ leBytes 1 e.action ++ leBytes 1 e.level ++ leBytes 1 e.flags ++ leBytes 6 e.sec ++
    leBytes 2 e.frac ++ leBytes 4 e.detail

/-- Submit an entry to the Lining (R506). -/
def alarmSubmit (s : State) (e : AlarmE) : State × AlarmE :=
  if e.sent || s.pwr.phase == 0 then (s, e)
  else
    let r := linSubmit s (mkRec s 0x11 false true (alarmPayload e))
    (r.1, { e with sent := r.2 })

/-- The oldest of a full log has not been submitted. -/
def alarmWaits (l : List AlarmE) : Bool :=
  match l[63]? with
  | some o => !o.sent
  | none => false

/-- Add an entry; one that overwrites an entry not submitted yet sets LOG_OVF. -/
def alarmLog (s : State) (cause action detail : Nat) : State :=
  let frac := rtcNs s % 1000000000 * 32768 / 1000000000
  let e : AlarmE := ⟨cause, action, s.gnt.level, b2n (!s.gnt.provisioned && decide (cause < 9)) + 2 * b2n (s.pwr.phase == 0), rtcNow s % 2 ^ 48,
    frac, detail, false⟩
  let r := alarmSubmit s e
  let s1 := { r.1 with gnt := { r.1.gnt with log := (r.2 :: r.1.gnt.log).take 64 } }
  if alarmWaits r.1.gnt.log then raise s1 0x44 7 else s1

/-- Entries made on cell power are submitted once replay is complete, oldest first. -/
def alarmResend (s : State) : State :=
  let r := s.gnt.log.foldr (fun e a => let x := alarmSubmit a.1 e; (x.1, x.2 :: a.2)) (s, ([] : List AlarmE))
  { r.1 with gnt := { r.1.gnt with log := r.2 } }

/-! Sensors (16.1) -/

/-- A sensor trips (R498, R504): the effects of its action, on top of those of the level that stands (Table 16-7). -/
def trip1 (s : State) (n conds : Nat) : State :=
  let act := s.regF (R.GNT_POL n) 0 3
  if act = 0 then s
  else
    let s1 := s.setRegB R.GNT_TRIP n true
    let old := s1.gnt.level
    let lv := max old act
    let pre := if s1.gnt.provisioned then s1.gnt.precomm else satAdd 8 s1.gnt.precomm 1
    let s2 := alarmLog { s1 with gnt := { s1.gnt with level := lv, precomm := pre } } n act conds
    let s3 := levelEffects (raise s2 0x44 0) act
    if old < lv then raise s3 0x44 1 else s3

/-- A trip while a command is checked waits for its end (R509). -/
def trip (s : State) (n conds : Nat) : State :=
  if s.gnt.cmd.isSome then { s with gnt := { s.gnt with waiting := s.gnt.waiting ++ [(n, conds)] } } else trip1 s n conds

/-- The Gauntlet acts on its sensors: under main power, or armed (R502). -/
def gntWatches (s : State) : Bool := s.pwr.phase != 0 || s.gnt.armed

/-- The count of a sensor that has tripped in the present run of samples: it trips again only after a sample without its
condition. -/
def spent : Nat := 2000

/-- SENSOR_SAMPLE (R497): the conditions of sensors 0-5 at one sample. -/
def sensorSample (s : State) (conds : Nat) : State :=
  if !gntWatches s then s
  else
    let c := conds % 64
    let s1 := s.setRegF R.GNT_SENSE 0 6 c
    let word := s1.regF R.GNT_SENSE 0 9
    (List.range 6).foldl (fun t n =>
      let k := if c.testBit n then min (sgetD t.gnt.counts n 0 + 1) (if sgetD t.gnt.counts n 0 = spent then spent else 1024) else 0
      let hit := k != spent && decide (t.regF (R.GNT_POL n) 16 10 < k) && t.regF (R.GNT_POL n) 0 3 != 0
      let t1 := { t with gnt := { t.gnt with counts := sput t.gnt.counts n (if hit then spent else k) 0 } }
      if hit then trip t1 n word else t1) s1

/-- GLITCH_TRIP (R497): the condition of sensor 6, 7 or 8 occurs or ends. -/
def glitchTrip (s : State) (n : Nat) (present : Bool) : State :=
  if !gntWatches s || !(decide (6 ≤ n) && decide (n ≤ 8)) then s
  else
    let was := s.regB R.GNT_SENSE n
    let s1 := s.setRegB R.GNT_SENSE n present
    if present && !was then trip s1 n (s1.regF R.GNT_SENSE 0 9) else s1

/-- Errors of a write to GNT_POLn (R500). -/
def polErrors (s : State) (n : Nat) (v : Word) : List (Err × Nat) :=
  let off := 0x60 + 4 * n
  (if fld v 0 3 < s.regF (R.GNT_POL n) 0 3 ∨ s.regF (R.GNT_POL n) 16 10 < fld v 16 10 then [(Err.protect, off)] else []) ++
  (if 6 ≤ n ∧ fld v 16 10 ≠ 0 then [(Err.range, off)] else [])

/-! Owner-signed commands (16.5) -/

def allZero (b : List Byte) : Bool := b.all (· == 0#8)

/-- Magic, version, code and arguments are legal (Tables 16-4 and 16-5). -/
def cmdArgsOk (b : List Byte) : Bool :=
  let code := beAt b 3 1
  beAt b 0 2 == 0x4743 && beAt b 2 1 == 1 &&
  (if code = 0x01 then
     ((List.range 9).all fun n => decide (beAt b (20 + n) 1 ≤ 4) && decide (beAt b (29 + 2 * n) 2 ≤ 1023) &&
       (decide (n < 6) || beAt b (29 + 2 * n) 2 == 0)) && allZero ((b.drop 47).take 81)
   else if code = 0x02 then decide (beAt b 20 1 ≤ 4) && allZero ((b.drop 21).take 107)
   else if code = 0x03 || code = 0x04 then allZero ((b.drop 20).take 108)
   else if code = 0x05 then
     (beAt b 20 1 == 3 || (beAt b 20 1 == 1 && !allZero ((b.drop 21).take 96))) && allZero ((b.drop 117).take 11)
   else if code = 0x10 then allZero ((b.drop 20).take 1) && allZero ((b.drop 117).take 11)
   else false)

/-- The status of a command block (R508): the first failure in order. -/
def cmdStatus (s : State) (b : List Byte) : Nat :=
  let code := beAt b 3 1
  let prov := code == 0x10
  if !cmdArgsOk b then 1
  else if beAt b 4 8 ≠ s.hw.serial then 2
  else if beAt b 12 8 ≠ s.gnt.nonce then 3
  else if !prov && !gntBound s then 4
  else if !prov && !Config.ecdsaP384 (slotBytes s 1) (b.take 128) ((b.drop 128).take 96) then 5
  else if code = 0x02 ∧ s.gnt.level ≤ beAt b 20 1 then 6
  else if prov && gntBound s then 7
  else 0

/-- COMMAND_GO (R508). -/
def cmdGo (s : State) (req : Nat) : State :=
  let b := ((List.range 56).map fun k => leBytes 4 (s.breg req (R.GNT_CDATA k)).toNat).flatten
  { s with gnt := { s.gnt with cmd := some ⟨req, b, s.up⟩ } }.setReg R.GNT_CMDSTAT 0xFF#32

/-- A command ends (R508): logged, a fresh nonce, and the trips that waited apply (R509). -/
def cmdEnd (s : State) (code status : Nat) : State :=
  let s1 := { s with gnt := { s.gnt with cmd := none, nonce := (Config.freeWord64 s.freeCtr).toNat } }.draw
  let s2 := s1.setReg R.GNT_CMDSTAT (w32 status)
  let s3 := raise (alarmLog s2 (if code = 0x10 then 0x21 else 0x20) code status) 0x44 3
  let s4 := if status = 0 then s3 else raise s3 0x44 4
  let ws := s4.gnt.waiting
  ws.foldl (fun t w => trip1 t w.1 w.2) { s4 with gnt := { s4.gnt with waiting := [] } }

/-- A running command of a code that passes every check takes effect and ends. -/
def cmdRun (s : State) (code : Nat) (eff : State → List Byte → State) : State :=
  match s.gnt.cmd with
  | some c => if beAt c.bytes 3 1 = code ∧ cmdStatus s c.bytes = 0 then cmdEnd (eff s c.bytes) code 0 else s
  | none => s

/-- COMMAND_FAIL (R508). -/
def cmdFail (s : State) : State :=
  match s.gnt.cmd with
  | some c => if cmdStatus s c.bytes = 0 then s else cmdEnd s (beAt c.bytes 3 1) (cmdStatus s c.bytes)
  | none => s

/-- SET_POLICY (Table 16-5): the counts restart (Table 16-7). -/
def setPolicy (s : State) : State :=
  cmdRun s 0x01 fun t b =>
    let t1 := (List.range 9).foldl (fun u n =>
      u.setReg (R.GNT_POL n) (w32 (beAt b (20 + n) 1 + beAt b (29 + 2 * n) 2 * 65536))) t
    { t1 with gnt := { t1.gnt with counts := [] } }

/-- SET_LEVEL (R499). -/
def setLevel (s : State) : State := cmdRun s 0x02 fun t b => lowerLevel t (beAt b 20 1)

/-- UNSEAL_METER (R387). -/
def unsealMeter (s : State) : State := cmdRun s 0x03 fun t _ => sealOpen t

/-- DISARM (R503). -/
def disarm (s : State) : State := cmdRun s 0x04 fun t _ => { t with gnt := { t.gnt with armed := false } }

/-- SET_PUBKEY (R507). -/
def setPubkey (s : State) : State :=
  cmdRun s 0x05 fun t b =>
    let k := (b.drop 21).take 96
    putSlot t (beAt b 20 1) (if allZero k then none else some k)

/-- PROVISION (R510). A new identity key is a free value. -/
def provision (s : State) : State :=
  cmdRun s 0x10 fun t b =>
    let t1 := putSlot t 1 (some ((b.drop 21).take 96))
    let t2 := if keyPresent t1 0 then t1 else putSlot t1.draw 0 (some ((List.range 96).map (Config.freeByte t1.freeCtr)))
    let t3 := lowerLevel t2 0
    { t3 with gnt := { t3.gnt with armed := true, provisioned := true } }

/-! The cell (R505) -/

/-- CELL_LOW. -/
def cellLow (s : State) : State := raise s 0x44 5

/-- CELL_FAILURE: only while main power is absent. -/
def cellFail (s : State) : State :=
  if s.pwr.phase ≠ 0 then s
  else
    let g := s.gnt
    keyTouch { s with gnt := { g with slots := eraseAll.foldl sdel g.slots, log := [], cellLost := true } }

/-- The cell's loss shows at the next reset. -/
def cellLostReset (s : State) : State :=
  if !s.gnt.cellLost then s
  else
    let s1 := { s with gnt := { s.gnt with cellLost := false, level := 4 }, clkr := { s.clkr with rtc := 0, rtcAt := s.up } }
    let s2 := raise (alarmLog (levelEffects s1 4) 0x10 4 0) 0x44 6
    if s.gnt.level < 4 then raise s2 0x44 1 else s2

/-- The words of an alarm log entry, index 0 the newest (16.11). -/
def alarmEntry (s : State) (n : Nat) : List Word :=
  match s.gnt.log[n]? with
  | some e => leWords 4 (alarmPayload e)
  | none => List.replicate 4 0#32

end Sys2Proof.Machine
end

