-- ==== Sys2Proof/Machine/Update.lean ====
section
/-! DEFINITION. Firmware update (chapter 17): chunks and their checks, apply, activation. -/

namespace Sys2Proof.Machine

/-! Images -/

/-- Bytes of the image in a slot. The image the factory loaded is a free value: the manual does not give it. -/
def imgBytes (x : ImgSlot) : List Byte :=
  if x.factory then (List.range (Config.freeNat 21 0)).map (Config.freeByte 21) else x.image

/-- SHA-384 of a slot's image. -/
def imgHash (x : ImgSlot) : Nat := Config.sha384 (imgBytes x)

/-- The slot that receives the next image. -/
def inactive (s : State) : Nat := 1 - s.upd.running

/-- The running image: none in RECOVERY (R516). -/
def runningImg (s : State) : Option ImgSlot :=
  if s.regB R.GNT_BOOT 2 then none else sget s.upd.slots s.upd.running

/-- UPDSTATE record (R534) with a slot named active. -/
def updRec (s : State) (active : Nat) : LRec :=
  let v (n : Nat) : Nat := b2n (sget s.upd.slots n).isSome
  let id (n : Nat) : Nat := match sget s.upd.slots n with | some x => x.id | none => 0
  let svn := match sget s.upd.slots active with | some x => x.svn | none => 0
  mkRec s 0x50 false false (leBytes 1 active ++ leBytes 1 (v 0 + 2 * v 1) ++ leBytes 2 0 ++ leBytes 4 (id 0) ++
    leBytes 4 (id 1) ++ leBytes 4 svn)

/-- The slot the latest durable UPDSTATE record names (R534); the factory's slot 0 where there is none. -/
def markedSlot (s : State) : Nat :=
  match stateRec s false 0x50 0 with
  | some r => leNat (r.payload.take 1) % 2
  | none => 0

/-! The manifest (17.1) and the checks of a chunk (Table 17-3) -/

/-- Delta chunks a manifest announces. -/
def manN (m : List Byte) : Nat := beAt m 24 2
def manFull (m : List Byte) : Bool := (beAt m 5 1).testBit 0
def manCsign (m : List Byte) : Bool := (beAt m 5 1).testBit 1

/-- The end of the chain, where the signature begins. -/
def manSigAt (m : List Byte) : Nat := 124 + 48 * manN m

/-- H_i as bytes (R521): H_0 is computed, the others stand in the manifest. -/
def chainHash (m : List Byte) (i : Nat) : List Byte :=
  if i = 0 then beBytes 48 (Config.sha384 (m.take 124)) else (m.drop (124 + 48 * (i - 1))).take 48

/-- Magic and version, then lengths and N (check 4). -/
def manMagic (m : List Byte) : Bool := beAt m 0 4 == 0x5A54554D && beAt m 4 1 == 1
def manLengths (m : List Byte) : Bool :=
  let dl := beAt m 20 4
  let il := beAt m 16 4
  decide (4096 ≤ il) && decide (il ≤ 25165824) && decide (8 ≤ dl) && decide (dl ≤ 26214400) && manN m == cdiv dl 65536

/-- Signatures of a manifest (check 5; R516): slot 2, and slot 3 where it holds a key. -/
def manSigned (s : State) (m : List Byte) : Bool :=
  let e := manSigAt m
  Config.ecdsaP384 (slotBytes s 2) (m.take e) ((m.drop e).take 96) &&
    (!keyPresent s 3 || (manCsign m && Config.ecdsaP384 (slotBytes s 3) (m.take (e + 96)) ((m.drop (e + 96)).take 96)))

/-- What a check says: stored already, passed, refused with a code of Table 17-5, or an error of UPD_STAT.ERR. -/
inductive ChunkSays where
  | held | pass | refuse (code : Nat) | err (code : Nat)
  deriving DecidableEq, Repr

/-- The stored manifest. -/
def storedMan (s : State) : Option (List Byte) := sget s.upd.chunks 0

/-- Checks 4 to 7 of a manifest. -/
def manCheck (s : State) (m : List Byte) : ChunkSays :=
  if !manMagic m then .err 6
  else if beAt m 6 1 ≠ 0x09 then .err 5
  else if !manLengths m then .err 6
  else if !manSigned s m then .err 1
  else if beAt m 12 4 < s.regF R.GNT_SVN 0 32 then .err 4
  else if !manFull m && !(match runningImg s with | some x => imgHash x == beAt m 28 48 | none => false) then .err 3
  else .pass

/-- Check 8: the chunk's hash is H_i. -/
def deltaHashOk (m : List Byte) (i : Nat) (data : List Byte) : Bool :=
  decide (i ≤ manN m) && beNat (chainHash m i) == Config.sha384 (chainHash m (i - 1) ++ data)

/-- Table 17-3. A chunk without an image ID of its own (from the window) takes the stored manifest's; a manifest carries
its own (R526). -/
def chunkCheck (s : State) (img : Option Nat) (chunk : Nat) (data : List Byte) : ChunkSays :=
  let own := if chunk = 0 then beAt data 8 4 else img.getD (s.reg R.UPD_IMG).toNat
  let same := (storedMan s).isSome && own == (s.reg R.UPD_IMG).toNat
  if same && (sget s.upd.chunks chunk).isSome then .held
  else if 2 ≤ s.gnt.level then .refuse 4
  else if s.regB R.UPD_CTL 0 then .refuse 3
  else
    match storedMan s with
    | none => if chunk = 0 then manCheck s data else .err 10
    | some m =>
      if !same then .err 10
      else if deltaHashOk m chunk data then .pass else .err 2

/-- UPD_STAT. -/
def updStat (s : State) (refuse err : Nat) : State := s.setReg R.UPD_STAT (w32 (refuse + err * 256))

/-- UPD_PROG. -/
def updProg (s : State) : State :=
  let n := match storedMan s with | some m => manN m + 1 | none => 0
  s.setReg R.UPD_PROG (w32 (s.upd.chunks.length + n * 65536))

/-- Store a chunk that passed (Table 17-4). -/
def chunkStore (s : State) (chunk : Nat) (data : List Byte) : State :=
  let s1 := { s with upd := { s.upd with chunks := sset s.upd.chunks chunk data } }
  if chunk = 0 then
    let s2 := (s1.setReg R.UPD_IMG (w32 (beAt data 8 4))).setReg R.UPD_SVN (w32 (beAt data 12 4))
    raise (updProg { s2 with upd := { s2.upd with state := 1 } }) 0x48 0
  else
    let s2 := updProg s1
    let n := match storedMan s2 with | some m => manN m + 1 | none => 0
    if s2.upd.state = 1 ∧ s2.upd.chunks.length = n then raise { s2 with upd := { s2.upd with state := 2 } } 0x48 1 else s2

/-- UPD_SEG: a delivered segment (R439, R524): a complete chunk is checked, answered and forwarded. In RECOVERY only the
host's window takes chunks (R535). -/
def updSeg (s : State) (p img chunk seg : Nat) (data : List Byte) : State :=
  let r := updSegRx s p img chunk seg data
  match if s.regB R.GNT_BOOT 2 then none else r.2 with
  | none => r.1
  | some d =>
    match chunkCheck r.1 (some img) chunk d with
    | .held => updAckSend r.1 p img chunk 1
    | .pass => updSendChunk (updAckSend (chunkStore r.1 chunk d) p img chunk 0) (1 - p) img chunk d
    | _ => updAckSend r.1 p img chunk 2

/-- Bytes of a chunk written through the window (17.8). -/
def windowChunk (s : State) (chunk : Nat) : List Byte :=
  ((List.range 256).map fun k => ((s.ent tUPDB (256 * chunk + k)).map fun w => leBytes 4 w.toNat).flatten).flatten

/-- UPD_BOP.SUBMIT (R524): the chunk is checked, stored, and originated on every UP port. -/
def updSubmit (s : State) (req : Nat) : State :=
  let chunk := (s.breg req 0x480080).toNat / 256
  let d := windowChunk s chunk
  let send (t : State) : State :=
    (List.range 2).foldl (fun u p => updSendChunk u p (u.reg R.UPD_IMG).toNat chunk d) t
  match chunkCheck s none chunk d with
  | .held => send (updStat s 0 0)
  | .pass => send (updStat (chunkStore s chunk d) 0 0)
  | .refuse c => raise (updStat s c 0) 0x48 4
  | .err c => updStat s 0 c

/-- Errors of a write to UPD_BOP: more than one of READ, WRITE and SUBMIT; in RECOVERY only the host's window is
accepted (R535). -/
def updBopErrors (s : State) (req v : Nat) : List (Err × Nat) :=
  (if 1 < popCount 3 v then [(Err.range, 0x84)] else []) ++
  (if v.testBit 2 ∧ s.regB R.GNT_BOOT 2 ∧ req ≠ 1 then [(Err.protect, 0x84)] else [])

/-! Apply (17.2, R529) -/

/-- Cut a byte list into blocks of 4,096; the last is filled with FFh (R523). -/
def imgBlocks : Nat → List Byte → List (List Byte)
  | 0, _ => []
  | n + 1, b => if b = [] then [] else ((b.take 4096) ++ List.replicate (4096 - (b.take 4096).length) 0xFF#8) :: imgBlocks n (b.drop 4096)

/-- Bytes added modulo 256 (ADD). -/
def addBytes (a b : List Byte) : List Byte := List.zipWith (· + ·) a b

/-- The blocks a delta builds over those of the running image (R522): none where its form is wrong. -/
def buildOps (full : Bool) (base : List (List Byte)) : Nat → List Byte → Option (List (List Byte))
  | 0, d => if d = [] then some [] else none
  | n + 1, d =>
    if d = [] then some []
    else
      let op := beAt d 0 1
      let c := beAt d 2 2
      let src := beAt d 4 4
      let rest := d.drop 8
      let blocks := imgBlocks c (rest.take (4096 * c))
      let srcBlocks := (base.drop src).take c
      if d.length < 8 ∨ beAt d 1 1 ≠ 0 ∨ c = 0 ∨ 6144 < c then none
      else if op = 3 then
        if src ≠ 0 ∨ rest.length < 4096 * c then none
        else (buildOps full base n (rest.drop (4096 * c))).map (blocks ++ ·)
      else if full || decide (base.length < src + c) then none
      else if op = 1 then (buildOps full base n rest).map (srcBlocks ++ ·)
      else if op = 2 then
        if rest.length < 4096 * c then none
        else (buildOps full base n (rest.drop (4096 * c))).map (List.zipWith addBytes srcBlocks blocks ++ ·)
      else none

/-- The delta: the bytes of chunks 1 to N up to the delta length. -/
def deltaBytes (s : State) (m : List Byte) : List Byte :=
  (((List.range (manN m)).map fun i => (sget s.upd.chunks (i + 1)).getD []).flatten).take (beAt m 20 4)

/-- The new image (R522, R523), none where the delta is malformed. -/
def buildImage (s : State) (m : List Byte) : Option (List Byte) :=
  let base := match runningImg s with | some x => imgBlocks 6144 (imgBytes x) | none => []
  let d := deltaBytes s m
  let il := beAt m 16 4
  match buildOps (manFull m) base d.length d with
  | none => none
  | some bs =>
    let bytes := bs.flatten
    if bs.length = cdiv il 4096 ∧ (bytes.drop il).all (· == 0xFF#8) then some (bytes.take il) else none

/-- The pair's partner shows UPDATING in its HEALTH (a bound member). -/
def partnerUpdating (s : State) : Bool := bound s && partnerHeard s && s.regB R.MIR_PHEALTH 13

/-- The first refusal of Table 17-5 that applies; `live` says whether LIVE counts. -/
def updRefusal (s : State) (live : Bool) : Nat :=
  if live && s.pair.role != .standby && s.pres.srfs.any (fun e => e.2.state != 0) then 1
  else if s.pwr.low40 || !s.pwr.charged then 2
  else if s.regB R.UPD_CTL 0 then 3
  else if 2 ≤ s.gnt.level then 4
  else if partnerUpdating s then 5
  else 0

/-- Empty the staging area: the stored chunks and what the window wrote. -/
def clearStaging (s : State) : State :=
  let t := s.tabs.filter fun e => e.1 / 0x100000000 != tUPDB
  let s1 := { s with tabs := t, upd := { s.upd with chunks := [] } }
  updProg ((s1.setReg R.UPD_IMG 0#32).setReg R.UPD_SVN 0#32)

/-- Errors of a write to UPD_CMD (Table 17-9, Table 17-7). -/
def updCmdErrors (s : State) (v : Nat) : List (Err × Nat) :=
  let st := s.upd.state
  (if 1 < popCount 3 v then [(Err.range, 0x44)] else []) ++
  (if (v.testBit 0 ∧ st ≠ 2) ∨ (v.testBit 1 ∧ st ≠ 4) ∨ (v.testBit 2 ∧ st ≠ 1 ∧ st ≠ 2 ∧ st ≠ 4) then
    [(Err.state, 0x44)] else [])

/-- UPD_CMD.APPLY (R528): the inactive slot is erased. -/
def updApply (s : State) : State :=
  let c := updRefusal s false
  if c ≠ 0 then raise (updStat s c 0) 0x48 4
  else
    updStat { s with upd := { s.upd with
      state := 3, updating := true, applyAt := some s.up, slots := sdel s.upd.slots (inactive s) } } 0 0

/-- An apply ends without an image (Table 17-4). -/
def applyStop (s : State) : State :=
  { s with upd := { s.upd with
    state := 2, updating := false, applyAt := none, slots := sdel s.upd.slots (inactive s) } }
def applyFail (s : State) : State := raise (applyStop s) 0x48 5

/-- APPLY_COMPLETE (R529): `outcome` 0 the flash took the image and reads back, 1 a flash failure, 2 it reads back
different. -/
def applyComplete (s : State) (outcome : Nat) : State :=
  match storedMan s with
  | none => s
  | some m =>
    if s.upd.state ≠ 3 then s
    else if outcome = 1 then applyFail (updStat s 0 9)
    else
      match buildImage s m with
      | none => applyFail (updStat s 0 6)
      | some img =>
        if outcome = 2 ∨ Config.sha384 img ≠ beAt m 76 48 then applyFail (updStat s 0 7)
        else
          let x : ImgSlot := ⟨beAt m 8 4, beAt m 12 4, img, m, false⟩
          raise { s with upd := { s.upd with
            state := 4, applyAt := none, slots := sset s.upd.slots (inactive s) x } } 0x48 2

/-- What ends an apply from outside: a power-fail warning, the level reaching LOCK (Table 17-4), and the partner's own
apply within 1 ms of its start on member B (R528). -/
def updTouch (s : State) : State :=
  if s.upd.state ≠ 3 then s
  else if cutPower s || decide (2 ≤ s.gnt.level) then applyFail s
  else if partnerUpdating s && s.regB R.MIR_CFG 1 &&
      (match s.upd.applyAt with | some t => decide (s.up < t + 1000000) | none => false) then
    raise (updStat (applyStop s) 5 0) 0x48 4
  else s

/-- UPD_CMD.CANCEL (Table 17-4). -/
def updCancel (s : State) : State :=
  clearStaging (updStat { s with upd := { s.upd with
    state := 0, updating := false, actAt := none, yielding := false } } 0 0)

/-! Activation (17.5) -/

/-- UPD_CMD.ACTIVATE (R530): zero in both registers is the next tick. -/
def updActivate (s : State) : State :=
  let ns := s.regF R.UPD_ACTNS 0 30
  let sec := (s.reg R.UPD_ACTS).toNat
  let t := if ns = 0 ∧ sec = 0 then tickNow s + 1000 else sec * 1000000000 + ns
  updStat { s with upd := { s.upd with actAt := some t, yielding := false } } 0 0

/-- The partner would take over (R533). -/
def partnerFit (s : State) : Bool :=
  bound s && s.pair.role == .active && partnerHeard s && wordHealthy (s.reg R.MIR_PHEALTH).toNat

/-- The pause begins (R531): the UPDSTATE record naming the new slot is submitted. -/
def pauseStart (s : State) : State :=
  let s1 := { s with upd := { s.upd with
    state := 5, pauseAt := some s.up, actAt := none, yielding := false, recWait := true } }
  (linSubmit s1 (updRec s1 (inactive s1))).1

/-- ACTIVATION_START: at the first tick at or after the activation time (R530, R533). -/
def activationStart (s : State) : State :=
  match s.upd.actAt with
  | none => s
  | some t =>
    if s.upd.state ≠ 4 || decide (tickNow s < t) then s
    else if !s.upd.yielding && partnerFit s then
      yieldStart { s with upd := { s.upd with yielding := true } } 3
    else if s.upd.yielding && s.pair.yield.isSome then s
    else
      let c := updRefusal s true
      if c ≠ 0 then
        raise (updStat { s with upd := { s.upd with actAt := none, yielding := false } } c 0) 0x48 4
      else pauseStart s

/-- A level of LOCK or above that was reached during the pause applies at its end (Table 17-7). -/
def pauseOver (s : State) : State := if 2 ≤ s.gnt.level then setGfrz s true else s

/-- An image runs: GNT_SVN rises to its security version (R531). -/
def imageRuns (s : State) (n : Nat) : State :=
  let svn := match sget s.upd.slots n with | some x => x.svn | none => 0
  { s with upd := { s.upd with running := n } }.setReg R.GNT_SVN (w32 (max svn (s.reg R.GNT_SVN).toNat))

/-- ACTIVATED (R531, R517): the new image runs. -/
def activated (s : State) : State :=
  match s.upd.pauseAt with
  | none => s
  | some t =>
    if s.upd.recWait || decide (t + 140000000 < s.up) then s
    else
      let s1 := imageRuns s (inactive s)
      raise (clearStaging (pauseOver { s1 with upd := { s1.upd with state := 0, updating := false, pauseAt := none } })) 0x48 3

/-- ACTIVATION_REVERT (R532): 140 ms into the pause the old image runs again. -/
def activationRevert (s : State) : State :=
  match s.upd.pauseAt with
  | none => s
  | some t =>
    if !elapsed s t 140000000 then s
    else
      let s1 := pauseOver { s with upd := { s.upd with state := 4, pauseAt := none, recWait := false } }
      updStat (linSubmit s1 (updRec s1 s1.upd.running)).1 0 8

end Sys2Proof.Machine
end

