-- ==== Sys2Proof/Machine/SelfCal.lean ====
section
/-! DEFINITION. Self-calibration and self-test (chapter 18). -/

namespace Sys2Proof.Machine

/-! Quantities (Table 18-1) -/

/-- The code names a quantity of this variant. -/
def qtyFitted (s : State) (q : Nat) : Bool :=
  decide (q ≤ 0x0C) || (decide (0x10 ≤ q) && decide (q ≤ 0x1C)) || q == 0x20 || q == 0x21 ||
    (s.hw.drive && decide (0x30 ≤ q) && decide (q ≤ 0x35))

/-- The codes of Table 18-1. -/
def qtyKnown (q : Nat) : Bool :=
  decide (q ≤ 0x0C) || (decide (0x10 ≤ q) && decide (q ≤ 0x1C)) || q == 0x20 || q == 0x21 ||
    (decide (0x30 ≤ q) && decide (q ≤ 0x35))

/-- The quantities of this variant. -/
def qtys (s : State) : List Nat := (List.range 0x36).filter (qtyFitted s)

/-- Range of a quantity in taps. -/
def qtyRange (q : Nat) : Int × Int :=
  if q ≤ 0x20 then (0, 4095) else if q = 0x21 then (-160, 160) else if q ≤ 0x33 then (-100, 100) else (-50, 50)

/-- A quantity is about to change: its path keeps the value it has until the instant of Table 18-1. -/
def pathHold (s : State) (q : Nat) : State :=
  { s with slf := { s.slf with paths := sset s.slf.paths q (pathEra s q, qtyPath s q) } }

/-- SCL_QDATA1: TOL and EN. -/
def qtyTol (s : State) (q : Nat) : Nat := s.entF tSCLQ q 1 0 8
def qtyEn (s : State) (q : Nat) : Bool := s.entF tSCLQ q 1 8 1 == 1

/-- The page of a port in the order of Table 18-1. -/
def qtyPort (n : Nat) : Nat := if n < 10 then 0x10 + n else 0x22 + (n - 10)

/-- Whether a quantity may be measured (R538). `off` says that a drive quantity's outputs, which are off now, were off for a
whole epoch. -/
def qtyMeasurable (s : State) (q : Nat) (off : Bool) : Bool :=
  if q < 0x20 then s.en (qtyPort (q % 16)) else if q < 0x30 then true else (off && qtyOff s q) || s.drv.dark != 0

/-- The entry of the quantity window (Table 18-8). -/
def qtyEntry (s : State) (q : Nat) : List Word :=
  let x := s.qty q
  let u (w : Nat) (v : Int) : Nat := (v % 2 ^ w).toNat
  [w32 (u 16 x.value + u 16 x.target * 65536), w32 (qtyTol s q + b2n (qtyEn s q) * 256 + x.state * 512),
    w32 (u 32 x.runA), w32 (u 32 x.runB), w32 (x.accept + x.disagree * 65536)]

/-- Baseplate temperature in 0.1 °C. -/
def baseTenths (s : State) : Int := toSigned 16 (s.regF R.THM_BASE 0 16)

/-- CALRES record (Table 18-2): submitted for the value in force. -/
def calRes (s : State) (q : Nat) : State :=
  let x := s.qty q
  let u (w : Nat) (v : Int) : Nat := (v % 2 ^ w).toNat
  let b := leBytes 1 q ++ leBytes 1 (b2n x.first) ++ leBytes 2 0 ++ leBytes 4 (u 32 x.value) ++ leBytes 4 (u 32 x.runA) ++
    leBytes 4 (u 32 x.runB) ++ leBytes 2 (u 16 (baseTenths s)) ++ leBytes 2 0
  (linSubmit (s.setQty q { x with temp := some (baseTenths s), first := false }) (mkRec s 0x20 false false b)).1

/-- A CAL_STEP item (Table 4-6) on delay list GEN. -/
def calItem (q op : Nat) (tap : Int) (nbt : Nat) : Item :=
  let h : ItemHead := ⟨kCal, 244, if nbt = 0 then 0 else 5, false, 0, nbt, noTime, 1, 0, true⟩
  mkItem h [q + op * 256, (tap % 2 ^ 32).toNat]

/-- A quantity returns to IDLE; a temperature trigger that came during its ramp makes it due (Table 18-6). -/
def Qty.idle (x : Qty) : Qty := { x with state := 0, due := x.due || x.again, again := false }

/-- A calibration is abandoned (R542, R545). -/
def calAbandon (s : State) (q : Nat) : State :=
  if (s.qty q).state = 0 then s else raise (s.setQty q (s.qty q).idle) 0x4C 3

/-- A CAL_STEP item left the Hatrack without completing. -/
def calDropped (s : State) (i : Item) : State := if i.kind = kCal then calAbandon s (i.f 6 0 8) else s

/-- Enqueue the next item of a calibration; a refused one abandons it. -/
def calNext (s : State) (q op : Nat) (tap : Int) (nbt : Nat) : State :=
  let e := enqueueIn s (calItem q op tap nbt)
  if e.2 then e.1 else calAbandon e.1 q

/-- Run A of a due quantity starts where R538 holds. -/
def calTry (s : State) (q : Nat) (off : Bool) : State :=
  let x := s.qty q
  if !x.due || x.state ≠ 0 || !qtyEn s q || !qtyMeasurable s q off then s
  else
    let e := enqueueIn s (calItem q 0 0 0)
    if e.2 then e.1.setQty q { e.1.qty q with state := 1, due := false } else e.1

/-- Make a quantity due (R547): not one that is due already or not IDLE. -/
def calMake (s : State) (q : Nat) : State :=
  let x := s.qty q
  if !qtyFitted s q || !qtyEn s q || x.due || x.state ≠ 0 then s else s.setQty q { x with due := true }

/-- The baseplate temperature differs by TDELTA or more from that of a quantity's last CALRES. -/
def calHot (s : State) (q : Nat) : Bool :=
  let td := s.regF R.SCL_CFG 16 5
  td != 0 && (match (s.qty q).temp with | some t => decide (10 * td ≤ (baseTenths s - t).natAbs) | none => false)

/-- Periods that have passed since a quantity's last accepted result; none where PERIOD is 0. -/
def calTurns (s : State) (q : Nat) : Nat :=
  (s.up - (s.qty q).last) / (s.regF R.SCL_CFG 0 14 * 60000000000)

/-- The period or the temperature makes a quantity due (R547): a result that was rejected comes again a period later. -/
def calCause (s : State) (q : Nat) : Bool := decide ((s.qty q).tried < calTurns s q) || calHot s q

/-- CAL_DUE. -/
def calDue (s : State) (q : Nat) (off : Bool) : State :=
  let s1 := if calCause s q then calMake s q else s
  calTry (s1.setQty q { s1.qty q with tried := calTurns s q }) q off

/-- The baseplate reading moved from that of `s0`: a temperature trigger that comes during a ramp makes the quantity due once it
is IDLE (Table 18-6). -/
def calHeat (s0 s : State) : State :=
  (qtys s).foldl (fun t q =>
    if (t.qty q).state = 3 ∧ qtyEn t q ∧ calHot t q ∧ !calHot s0 q then t.setQty q { t.qty q with again := true } else t) s

/-- After the self-test, and anew once the persisted copies stand, every idle quantity with EN = 1 is due and no other (R547,
Table 20-9). -/
def calFirst (s : State) : State :=
  (qtys s).foldl (fun t q => if (t.qty q).state = 0 then t.setQty q { t.qty q with due := qtyEn t q } else t) s

/-- SCL_CMD. -/
def sclAll (s : State) : State := (qtys s).foldl (fun t q => calTry (calMake t q) q false) s
def sclOne (s : State) (q : Nat) : State := calTry (calMake s q) q false

/-- Errors of a write to SCL_CMD (Table 18-9). -/
def sclErrors (v : Nat) : List (Err × Nat) :=
  if v % 4 = 3 ∨ (v / 2 % 2 = 1 ∧ !qtyKnown (v / 256 % 256)) then [(Err.range, 0x68)] else []

/-- Run B has completed: acceptance (R540, R541). -/
def calJudge (s : State) (q : Nat) : State :=
  let x := s.qty q
  let idle := { x with state := 0 }
  let tgt := (x.runA + x.runB + 16) / 32
  if qtyTol s q * 16 < (x.runA - x.runB).natAbs then
    raise (s.setQty q { idle with disagree := satAdd 16 x.disagree 1 }) 0x4C 0
  else if tgt < (qtyRange q).1 ∨ (qtyRange q).2 < tgt then raise (s.setQty q idle) 0x4C 2
  else
    let y := { x with target := tgt, accept := satAdd 16 x.accept 1, last := s.up, tried := 0 }
    if tgt = x.value then raise (calRes (s.setQty q { y with state := 0 }) q) 0x4C 1
    else
      calNext (s.setQty q { y with state := 3 }) q 2 (if x.value < tgt then 1 else -1)
        (now32 s + s.regF R.SCL_STEP 0 14 * 1000000)

/-- An OP 2 item moves the value by one tap (R543, R544). -/
def calTap (s0 : State) (q : Nat) (i : Item) : State :=
  let s := pathHold s0 q
  let x := s.qty q
  let v := x.value + toSigned 32 (i.word 7).toNat
  if v = x.target then
    raise (calRes (s.setQty q { x with value := v }.idle) q) 0x4C 4
  else
    calNext (s.setQty q { x with value := v }) q 2 (if v < x.target then 1 else -1)
      (i.nbt + s.regF R.SCL_STEP 0 14 * 1000000)

/-- CAL_STEP_COMPLETE: the calibration unit ends its item; a run gives its result in 1/16 tap, and none is an error. A run of a
quantity that may not be measured any more is one too (R538). An item of a calibration that was abandoned changes
nothing. -/
def calStepComplete (s : State) (result : Option Int) : State :=
  match svcOf s .cal with
  | none => s
  | some v =>
    let q := v.item.f 6 0 8
    match result with
    | none => failItem s v 2
    | some r =>
      let op := v.item.f 6 8 2
      if op < 2 ∧ !qtyMeasurable s q true then failItem s v 2
      else
        let s1 := completeItem s v
        let x := s1.qty q
        if v ∈ s.htk.orphans ∨ x.state ≠ op + 1 then s1
        else match op with
          | 0 => calNext (s1.setQty q { x with runA := r, state := 2 }) q 1 0 (now32 s + 10000000)
          | 1 => calJudge (s1.setQty q { x with runB := r }) q
          | _ => calTap s1 q v.item

/-- Each quantity takes its latest durable own CALRES record (R546, R548). -/
def calRestore (s : State) : State :=
  (qtys s).foldl (fun t q =>
    match stateRec t false 0x20 q with
    | some r =>
      let v := toSigned 32 (leNat ((r.payload.drop 4).take 4))
      t.setQty q { t.qty q with value := v, target := v, temp := some (toSigned 16 (leNat ((r.payload.drop 16).take 2))) }
    | none => t) { s with slf := { s.slf with paths := [] } }

/-! Power-on self-test (18.5) -/

/-- The self-test has ended with FATAL (R550). -/
def fatal (s : State) : Bool := s.regB R.BST_POST 1

/-- POST: `fails` holds the results of bits 2-6 and `engs` those of vector set 0, by engine. Every quantity falls due. -/
def post (s : State) (fails engs : Nat) : State :=
  if s.regB R.BST_POST 0 || decide (s.pwr.started < 12 + b2n s.hw.drive) then s
  else
    let f := fails % 32
    let e := engs % 2 ^ 24
    let s1 := s.setReg R.BST_POST (w32 (1 + b2n (f != 0) * 2 + f * 4 + e * 256))
    let s2 := s1.setReg R.HTK_ENG (w32 ((s1.reg R.HTK_ENG).toNat - ((s1.reg R.HTK_ENG).toNat &&& e)))
    calFirst s2

/-! Engine tests (18.6) -/

/-- Seconds between the TEST items of one engine. -/
def vecPeriod (s : State) : Nat :=
  if s.pair.role = .standby then s.regF R.BST_VEC 10 10 else s.regF R.BST_VEC 0 10

/-- TEST_VECTOR_ENQUEUE (R551). -/
def testEnqueue (s : State) (eng : Nat) : State :=
  if 24 ≤ eng ∨ !s.regB R.BST_POST 0 ∨ !elapsed s (sgetD s.slf.vecAt eng 0) (vecPeriod s * 1000000000) then s
  else
    let v := sgetD s.slf.vecNext eng 0
    let h : ItemHead := ⟨kTest, 246, 0, false, 0, 0, noTime, 1, 0, true⟩
    let e := enqueueIn s (mkItem h [eng + v * 256, (Config.testVectorCrc eng v).toNat])
    let t := e.1
    { t with slf := { t.slf with vecAt := sset t.slf.vecAt eng t.up, vecNext := sput t.slf.vecNext eng ((v + 1) % 256) 0 } }

/-- A TEST item ends on its engine with the CRC it computed (R552): the state, and whether the engine is to be
isolated. -/
def testComplete (s : State) (eng crc : Nat) : State × Bool :=
  match svcOf s (.engine eng) with
  | none => (s, false)
  | some v =>
    if v.item.kind ≠ kTest then (s, false)
    else
      let own := v.flow == 246 && !decide (v ∈ s.htk.orphans)
      let run (t : State) : State :=
        if own then t.setRegF R.BST_VCNT 0 16 (t.regF R.BST_VCNT 0 16 + 1) else t
      let mark (t : State) (b : Bool) : State :=
        if own then { t with slf := { t.slf with vecBad := sput t.slf.vecBad eng b false } } else t
      if crc = (v.item.word 7).toNat then (mark (run (completeItem s v)) false, false)
      else
        let twice := sgetD s.slf.vecBad eng false
        let s1 := mark (run (failItem s v 2)) true
        if !own then (s1, false)
        else
          let p := s1.pair
          let s2 := raise ({ s1 with pair := { p with testAt := some s1.up } }.count R.BST_VCNT 16 16 1) 0x4D 0
          (s2, twice && s2.regB R.BST_VEC 20)

/-! Scrubbing (18.7) -/

/-- The time of a scrub pass in s (R553). -/
def scrubPeriod (s : State) : Nat :=
  if s.pair.role = .standby then 2 * s.regF R.BST_SCRUB 17 15 else s.regF R.BST_SCRUB 0 17

/-- The words of a pass are read at an even pace (R553, R554): BST_SPOS is the next one. -/
def scrubTick (s : State) : State :=
  let w := min (2 ^ 28 - 1) ((s.up - s.slf.scrubFrom) * 2 ^ 28 / (scrubPeriod s * 1000000000))
  if s.regF R.BST_SPOS 0 28 < w then s.setReg R.BST_SPOS (w32 w) else s

/-- SCRUB_ERROR: the scrubber, which goes through the words in ascending order, finds a corrected or an uncorrectable one
(R553, R554). -/
def scrubError (s : State) (word : Nat) (ue : Bool) : State :=
  if word < s.regF R.BST_SPOS 0 28 then s
  else
  let s1 := s.setReg R.BST_SPOS (w32 ((word + 1) % 2 ^ 28))
  if ue then
    let s2 := fstUe (s1.count R.BST_SCNT 16 16 1) 1 word
    let p := s2.pair
    raise { s2 with pair := { p with scrubAt := some s2.up } } 0x4D 2
  else raise ((s1.count R.BST_SCNT 0 16 1).count R.FST_ECC 0 16 1) 0x08 3

/-- PASS_DONE (R553): a pass takes its period. -/
def passDone (s : State) : State :=
  if elapsed s s.slf.scrubFrom (scrubPeriod s * 1000000000) then
    raise ({ s with slf := { s.slf with scrubFrom := s.up } }.setReg R.BST_SPOS 0#32) 0x4D 3
  else s

end Sys2Proof.Machine
end

