-- ==== Sys2Proof/Machine/Power.lean ====
section
/-! DEFINITION. Supply, temperature, reset and start-up (chapter 20), but for the registers' own restoration. -/

namespace Sys2Proof.Machine

/-! Device reset (20.7) -/

/-- Registers that island 13 holds through every device reset (R519, Tables 20-14 and 20-15). -/
def heldRegs : List Nat :=
  [R.DEV_RSTCAUSE, R.GNT_TRIP, R.GNT_SVN, R.KEY_STAT, R.PWR_LAST, R.PWR_CNT] ++ (List.range 9).map R.GNT_POL

/-- A device reset with a cause of Table 20-11 (0 records none), ending in a phase. What island 13 and the flash hold
stays; a command being checked ends, and the trips that waited for it apply. Sensor sampling goes on through it where the
Gauntlet watches (Table 16-7). The replies given before it stand (R17). -/
def deviceReset (s : State) (cause phase : Nat) : State :=
  let z := State.reset
  let g := s.gnt
  let regs := s.regs.filter fun e => heldRegs.contains e.1
  let g1 : Gnt := { g with
    counts := if gntWatches s then g.counts else [], cmd := none, waiting := [], nonce := (Config.freeWord64 s.freeCtr).toNat, rekey := [] }
  let s1 : State := { z with
    pending := s.pending, hw := s.hw, regs := regs, lin := linReset s, clkr := clk0 (rtcNs s), gnt := g1,
    upd := { upd0 with slots := s.upd.slots, running := s.upd.running },
    pwr := { pwr0 with phase := phase, thermalOff := s.regF R.PWR_LAST 0 3 == 3, rstLow := s.pwr.rstLow },
    ctl := { z.ctl with replies := s.ctl.replies, hostOut := s.ctl.hostOut }, freeCtr := s.freeCtr + 1 }
  let s2 := if cause = 0 then s1
    else (s1.setRegF R.DEV_RSTCAUSE 0 3 cause).count R.DEV_RSTCAUSE 16 16 1
  let s3 := g.waiting.foldl (fun t w => trip1 t w.1 w.2) s2
  let s4 := cellLostReset s3
  if 2 ≤ s4.gnt.level then setGfrz s4 true else s4

/-- Device reset is released: the clocks of the start-up begin anew. -/
def release (s : State) : State :=
  { s with up := 0, clkr := { s.clkr with rtc := rtcNs s, rtcAt := 0 }, pwr := { s.pwr with phase := 2, tripSince := none } }

/-- Device reset is over but for the heat hold (R589): with the last power-off THERMAL, it lasts while the baseplate reads
70 °C or more, and the next check comes 10 s later. -/
def letGo (s : State) (base : Int) : State :=
  if s.pwr.thermalOff && decide (700 ≤ base) then { s with pwr := { s.pwr with tripSince := some s.up } } else release s

/-- A device reset after which the module starts at once, unless the heat of the last reading holds it (R589). -/
def restart (s : State) (cause : Nat) : State := letGo (deviceReset s cause 1) (baseTenths s)

/-! Secure boot and the start of the islands -/

/-- A slot's image may run (R516). The factory's own manifest verifies against slot 2 and carries no countersignature. -/
def slotOk (s : State) (n : Nat) : Bool :=
  match sget s.upd.slots n with
  | some x => ((x.factory && !keyPresent s 3) || (!x.factory && manSigned s x.man)) && decide ((s.reg R.GNT_SVN).toNat ≤ x.svn)
  | none => false

/-- Secure boot: the slot marked active, else the other with FALLBACK, else RECOVERY too. -/
def secureBoot (s : State) : State :=
  let a := markedSlot s
  if slotOk s a then (imageRuns s a).setReg R.GNT_BOOT (w32 a)
  else if slotOk s (1 - a) then (imageRuns s (1 - a)).setReg R.GNT_BOOT (w32 (1 - a + 2))
  else s.setReg R.GNT_BOOT 6#32

/-- Islands in the order of Table 20-8. -/
def startOrder (s : State) : List Nat :=
  [9, 12, 3, 2, 0, 1, 10, 4, 5, 6, 7, 8] ++ (if s.hw.drive then [11] else [])

/-- ISLAND_START (R587): the next island leaves reset and its fence opens. Secure boot precedes island 3 (R588); the
local clock starts with island 9 (R399). -/
def islandStart (s : State) : State :=
  match (startOrder s)[s.pwr.started]? with
  | none => s
  | some i =>
    if s.pwr.phase ≠ 2 then s
    else
      let s1 := if i = 3 then secureBoot s else s
      let s2 := if i = 9 then { s1 with clk := rtcNow s1 * 1000000000 * clkPerNs } else s1
      let s3 := { s2 with isl := { s2.isl with up := s2.isl.up ||| 2 ^ i }, pwr := { s2.pwr with started := s2.pwr.started + 1 } }
      raise s3 0x01 i

/-! Supply (20.3, 20.4) -/

/-- SUPPLY_BAND (R582): the J1 readings (10 mV, 10 mA), and for how long (ns) J1 has been below 36 V or above 75.5 V. -/
def supplyBand (s : State) (v i held : Nat) : State :=
  let p := s.pwr
  let low36 := decide (v < 3600) && decide (100000000 ≤ held)
  let overv := decide (7550 < v) && decide (1000000 ≤ held)
  let s1 := { s with pwr := { p with low36 := low36, low40 := decide (v < 4000), overv := overv } }.setReg R.PWR_J1
    (w32 (v + i * 65536))
  let s2 := if low36 && !p.low36 then raise s1 0x50 0 else s1
  if overv && !p.overv then raise s2 0x50 1 else s2

/-- The steps of Table 20-10 that a warning and an orderly reset share: pulse outputs open, the Lining's queue is
discarded, the drive is dark-safe, metering freezes, an apply stops. -/
def powerSteps (s : State) : State :=
  let s1 := meterFreeze (darkEnter (linPfail s) 3)
  if s1.upd.state = 3 then applyFail s1 else s1

/-- The power-fail warning (R586): raised once; of two causes in one cycle the lower code is recorded. -/
def powerFail (s : State) (cause : Nat) : State :=
  if s.pwr.phase ≠ 2 then s
  else match s.pwr.pfw with
    | some (c, t) =>
      if t = s.up ∧ cause < c then
        { s with pwr := { s.pwr with pfw := some (cause, t) } }.setRegF R.PWR_LAST 0 3 cause
      else s
    | none =>
      let s1 := { s with pwr := { s.pwr with pfw := some (cause, s.up), orderly := none } }
      powerSteps ((s1.setReg R.PWR_LAST (w32 cause)).count R.PWR_CNT 0 16 1)

/-- POWER_FAIL_WARNING: J1 below 34 V for 200 µs (`v` in 10 mV, `held` in ns). -/
def powerFailWarning (s : State) (v held : Nat) : State :=
  if v < 3400 ∧ 200000 ≤ held then powerFail s 1 else s

/-- OVERVOLTAGE_CUT: J1 above 82 V for 10 µs opens the input switch. -/
def overvoltageCut (s : State) (v held : Nat) : State :=
  if 8200 < v ∧ 10000 ≤ held then powerFail s 2 else s

/-- PWR_LAST as a sequence that began at `t` ends now. -/
def lastRecord (s : State) (t : Nat) : State :=
  (s.setRegB R.PWR_LAST 3 s.lin.finalDone).setRegF R.PWR_LAST 16 16 (min ((s.up - t) / 1000000) 65535)

/-- POWER_OFF_END (R591): at the later of HOLDMS and the FINAL mark, where metering writes one, and 75 ms after the
warning at the latest. -/
def powerOffEnd (s : State) : State :=
  match s.pwr.pfw with
  | none => s
  | some (_, t) =>
    if (elapsed s t (s.regF R.PWR_CFG 0 7 * 1000000) && (s.lin.finalDone || s.mtr.freeze.isNone)) || elapsed s t 75000000 then
      deviceReset (lastRecord s t) 2 0
    else s

/-- LOGIC_POWER_LOSS (R598): the bank gives out before the sequence ends, or the input is gone while reset is held. -/
def logicPowerLoss (s : State) : State :=
  match s.pwr.pfw with
  | some (_, t) => if s.pwr.charged then s else deviceReset (lastRecord s t) 0 0
  | none => if s.pwr.phase = 1 then { s with pwr := { s.pwr with phase := 0 } } else s

/-- POWER_ON (R583, R589, R592): J1 at `v` (10 mV) for `held` ns; `off` says that J1 was off before, and `base` is the
baseplate in 0.1 °C. The 10 ms begin no earlier than the end of a power-off sequence, where the up time is 0 (R590). The device reset that stood while power was absent ends here, so that a LOCK effect and a lost cell
of that time show before any access (R502, R505). -/
def powerOn (s : State) (v held : Nat) (off : Bool) (base : Int) : State :=
  if s.pwr.phase ≠ 0 ∨ v < 3550 ∨ min held s.up < 10000000 then s
  else
    let s1 := deviceReset s (b2n off) 1
    if s1.pwr.rstLow then s1 else letGo s1 base

/-- THERMAL_RESTART_CHECK (R589): every 10 s while the heat holds device reset. -/
def thermalRestartCheck (s : State) (base : Int) : State :=
  match s.pwr.tripSince with
  | some t =>
    if s.pwr.phase ≠ 1 ∨ s.pwr.rstLow ∨ !s.pwr.thermalOff ∨ !elapsed s t 10000000000 then s else letGo s base
  | none => s

/-! Resets (20.7) -/

/-- RST_N_LOW (R593): pulses shorter than 1 µs are ignored. -/
def rstLow (s : State) (held : Nat) : State :=
  if held < 1000 then s
  else
    let s1 := { s with pwr := { s.pwr with rstLow := true } }
    if s.pwr.phase ≠ 2 then s1
    else
      let s2 := match s.pwr.pfw with | some (_, t) => lastRecord s1 t | none => s1
      deviceReset s2 3 1

/-- RST_N_HIGH: start-up continues, unless heat holds it (R589). -/
def rstHigh (s : State) (base : Int) : State :=
  let s1 := { s with pwr := { s.pwr with rstLow := false } }
  if s.pwr.phase ≠ 1 then s1 else letGo s1 base

/-- An orderly reset begins (R594, R595): it ends once the FINAL record is durable, at once where metering writes none. -/
def orderlyStart (s : State) (cause : Nat) : State :=
  let s1 := s.setReg R.PWR_LAST 4#32
  if !s.mtr.run then restart s1 cause
  else powerSteps { s1 with pwr := { s1.pwr with orderly := some (s.up, cause) } }

/-- The end of an orderly reset. -/
def orderlyTouch (s : State) : State :=
  match s.pwr.orderly with
  | some (t, c) => if s.lin.finalDone then restart (lastRecord s t) c else s
  | none => s

/-- DEV_RESET (R594). -/
def devReset (s : State) (v : Nat) : State :=
  if v % 2 = 0 then s else if v.testBit 1 then orderlyStart s 4 else restart s 4

/-- Errors of a write to DEV_RESET (Table 20-14, R594). -/
def devResetErrors (s : State) (v : Nat) : List (Err × Nat) :=
  (if v % 2 = 1 ∧ v / 65536 ≠ 0x4456 then [(Err.range, 0x50)] else []) ++
  (if v % 2 = 1 ∧ (s.pwr.pfw.isSome ∨ s.pwr.orderly.isSome) then [(Err.state, 0x50)] else [])

/-- FIRMWARE_WATCHDOG (R595): an expiry begins an orderly reset; 100 ms into one it resets at once. -/
def firmwareWatchdog (s : State) : State :=
  if s.pwr.phase ≠ 2 ∨ s.pwr.pfw.isSome then s
  else match s.pwr.orderly with
    | none => orderlyStart s 5
    | some (t, _) => if elapsed s t 100000000 then restart (lastRecord s t) 5 else s

/-! Cages and hold-up -/

/-- Page of a cage. -/
def cagePage (c : Nat) : Nat := if c < 10 then 0x10 + c else 0x22 + (c - 10)

/-- Power limit of a cage's module in mW (Table 20-6). -/
def cageLimit (c : Nat) : Nat := if c < 2 then 2000 else 1500

/-- CAGE_OVERCURRENT (R581): a draw of `mw` above the limit plus 20 % for 1 ms. -/
def cageOvercurrent (s : State) (c mw held : Nat) : State :=
  if held < 1000000 ∨ 12 < c ∨ 5 * mw ≤ 6 * cageLimit c then s
  else linkGoesDown (raise (s.setRegB R.PWR_CAGE c true) 0x50 3) (cagePage c)

/-- HOLDUP_MEASURE (R585): bank voltage (10 mV) and measured capacity (10 µF). -/
def holdupMeasure (s : State) (v cap : Nat) : State :=
  let ok := decide (6800 ≤ v) && decide (380 ≤ cap)
  let s1 := { s with pwr := { s.pwr with charged := ok } }.setReg R.PWR_HOLDUP (w32 (v % 2 ^ 14 + cap * 65536))
  let s2 := if cap < 380 then raise s1 0x50 2 else s1
  if ok && !s.pwr.charged then raise s2 0x50 4 else s2

/-! Temperature -/

/-- The baseplate temperature (R574): the higher sensor, or the one that works. -/
def Temps.base (t : Temps) : Option Int :=
  match t.b0, t.b1 with
  | some a, some b => some (max a b)
  | some a, none => some a
  | none, b => b

/-- A temperature register takes a reading; MAX follows. The first reading since device reset is the maximum. -/
def tempReg (s : State) (a : Nat) (seen : Bool) (v : Int) : State :=
  let m := if seen then max v (toSigned 16 (s.regF a 16 16)) else v
  s.setReg a (w32 ((v % 65536).toNat + (m % 65536).toNat * 65536))

/-- Since when the baseplate has been at or above TRIP. -/
def tripTouch (s : State) : State :=
  let hot := decide (10 * s.regF R.THM_LIMIT 8 7 ≤ baseTenths s)
  { s with pwr := { s.pwr with tripSince := if hot then some (s.pwr.tripSince.getD s.up) else none } }

/-- A set of readings: the registers, WARN and the trip timer. -/
def thermSample (s : State) (t : Temps) : State :=
  let s1 := match t.base with | some v => tempReg s R.THM_BASE s.pwr.baseSeen v | none => s
  let s2 := tripTouch (tempReg (calHeat s s1) R.THM_DIE s.pwr.dieSeen (max t.d0 t.d1))
  let w := decide (10 * s2.regF R.THM_LIMIT 0 7 ≤ baseTenths s2)
  let s3 := { s2 with pwr := { s2.pwr with warn := w, dieSeen := true, baseSeen := s.pwr.baseSeen || t.base.isSome } }
  if w && !s.pwr.warn then raise s3 0x51 0 else s3

/-- THERMAL_TRIP (R574): at or above TRIP for 1 s. -/
def thermalTrip (s : State) : State :=
  match s.pwr.tripSince with
  | some t => if s.pwr.phase = 2 ∧ elapsed s t 1000000000 then powerFail s 3 else s
  | none => s

/-- BASEPLATE_SENSOR_FAIL (R574): a sensor fails, or the two have differed by more than 5 °C for `held` ns. -/
def sensorFail (s : State) (t : Temps) (held : Nat) : State :=
  let apart := match t.b0, t.b1 with
    | some a, some b => decide (50 < (a - b).natAbs) && decide (10000000000 ≤ held)
    | _, _ => true
  if apart then raise (thermSample s t) 0x51 2 else s

/-- THM_CLR.MAX. -/
def thmClr (s : State) : State :=
  let f (t : State) (a : Nat) : State := t.setRegF a 16 16 (t.regF a 0 16)
  f (f s R.THM_BASE) R.THM_DIE

/-! Relay and LEDs (20.8) -/

/-- The status relay is energised (R597). -/
def relayOn (s : State) : Bool :=
  match s.regF R.DEV_RELAY 0 2 with
  | 0 => s.pwr.ready && !fatal s && s.pwr.pfw.isNone && s.pwr.orderly.isNone && s.pwr.phase == 2
  | 2 => s.pwr.phase == 2
  | _ => false

/-- What an LED shows (Table 20-12). -/
inductive Led where
  | off | green | greenBlink | amber | amberBlink | red | redBlink | whiteBlink
  deriving DecidableEq, Repr

/-- The LEDs PWR, STAT, ALERT, RING, PAIR, TAMP, before DARK and LOCATE. -/
def ledStates (s : State) : List Led :=
  let v := s.regF R.PWR_J1 0 16
  let pwr := if s.pwr.pfw.isSome then Led.amberBlink else if s.pwr.low36 || s.pwr.overv then .amber
    else if 3600 ≤ v ∧ v ≤ 7500 then .green else .off
  let stat := if s.pwr.phase ≠ 2 then Led.off else if fatal s then .red else if s.regB R.GNT_BOOT 2 then .redBlink
    else if s.en 0x30 && s.drv.dark != 0 then .amber else if s.pwr.ready then .green else .greenBlink
  let ring := if s.reg (R.PG_EVRAW 0x22) &&& s.reg (R.PG_EVMSK 0x22) &&& 0x180#32 ≠ 0#32 then Led.red
    else match s.regF (R.HB_RING 0) 0 2 with | 2 => .green | 1 => .amber | _ => .off
  let pr := match s.pair.role with
    | .unbound => Led.off | .active => if s.pair.partner && partnerHeard s then .green else .red
    | .standby => if s.pair.synced then .greenBlink else .amber | .seeking => .amber
  let tamp := if s.gnt.level = 0 then Led.off else if s.gnt.level = 1 then .amber else .red
  [pwr, stat, if s.evt.alert then .amber else .off, ring, pr, tamp]

/-- What the LEDs show (R596). -/
def leds (s : State) : List Led :=
  if s.regB R.DEV_LED 1 then List.replicate 6 .whiteBlink
  else if s.regB R.DEV_LED 0 then List.replicate 6 .off
  else ledStates s

end Sys2Proof.Machine
end

