-- ==== Sys2Proof/Machine/Islands.lean ====
section
/-! DEFINITION. Resets smaller than the device: the registers of a block (R49), islands and their fences (chapter 1,
19.4), and locked sequences that break (3.6). -/

namespace Sys2Proof.Machine

/-! The registers of a block (R49) -/

/-- Tables held in the frame-store DRAM, and what the ports keep of their nodes: no reset of a block or an island
touches them (R49). -/
def dramTab (t : Nat) : Bool :=
  [tMAP, tMAPB, tCALP, tCALB, tCALC, tENGK, tENGC, tSRFT, tTDMQ, tTDMA].contains t || (decide (tPPN ≤ t) && decide (t < tSFP))

/-- Registers of a page that a soft reset (`isl` false) or an island reset leaves: the header registers of R49; the
Hatband's address, which an island reset leaves in island 12 (R443); page MIR but for its MAC block (R475); and the result
of the power-on self-test, which only device reset begins anew (R549). -/
def resetKeeps (p o : Nat) (isl : Bool) : Bool :=
  [0x08, 0x1C, 0x20, 0x28, 0x2C].contains o ||
    (isl && p == 0x22 && decide (0x104 ≤ o) && decide (o < 0x108)) || (isl && p == 0x24 && decide (o < 0x400)) || (p == 0x4D && o == 0x40)

/-- The block registers of a page and their tables return to reset values; what is staged or pending is discarded. -/
def blockReset (s : State) (p : Nat) (isl : Bool) : State :=
  let gone (a : Nat) : Bool := decide (pageOf a = p) && !resetKeeps p (offOf a) isl
  let tabs := ((winsOf p).map (·.tab)).filter fun t => !dramTab t && !(isl && t == tHBT)
  let c := s.ctl
  let s1 := { s with
    regs := sdelIf s.regs gone, bank := sdelIf s.bank fun k => gone (k % 0x1000000),
    tabs := sdelIf s.tabs fun k => tabs.contains (k / 0x100000000),
    ctl := { c with stage := sdelIf c.stage fun a => pageAt a == p, pend := sdelIf c.pend fun a => pageAt a == p } }
  let s2 := evtTouch s1 p
  if (macCls p).isSome then evtTouch s2 (macSrc p) else s2

/-- A metering member that never accumulated and holds no ENERGY record of its own takes the latest mirrored one (R471). -/
def energySeed (s : State) : State :=
  if s.regB R.MTR_CTL 0 && !s.mtr.run && s.mtr.ivl.at_ == 0 && s.mtr.restored.isNone && (stateRec s false 0x30 0).isNone then
    match stateRec s true 0x30 0 with
    | some r => energyRestore s r (meteredAfter s r)
    | none => s
  else s

/-- The calibration and the thresholds a METER_CAL record holds take precedence over an older copy of page MTR (R387). -/
def meterCalRestore (s : State) : State :=
  match stateRec s false 0x33 0 with
  | none => s
  | some r =>
    let newer := match pageCopy s 0x38 with | some c => decide (r.seq < c.seq) | none => false
    let b := r.payload
    let w (o : Nat) : Word := w32 (leNat ((b.drop o).take 4))
    let c := leNat ((b.drop 10).take 2)
    -- CHANGES has no other home than the METER_CAL records
    let t := { s with mtr := { s.mtr with changes := c } }.setRegF R.MTR_SEAL 16 16 c
    if newer then t
    else
      let s1 := (List.range 17).foldl (fun t k => t.setEnt tMTRC k [w (24 + 8 * k), w (28 + 8 * k)]) t
      (s1.setReg R.MTR_NOM (w 160)).setReg R.MTR_NOLOAD (w 164)

/-! Broken sequences (3.6) -/

/-- A sequence is aborted (R91, R92): cause 1 island reset, 2 hold limit, which bars its owner (R93). -/
def seqAbort (s : State) (req cause : Nat) : State :=
  match sget s.ctl.seqs req with
  | none => s
  | some q =>
    let n := satAdd 16 (s.regF R.CB_BROKEN 16 16) 1
    let s1 := { s with ctl := { s.ctl with seqs := sdel s.ctl.seqs req } }.setReg R.CB_BROKEN
      (w32 (req + cause * 16 + q.pages.headD 0 * 256 + n * 65536))
    let s2 := if cause = 2 then s1.setRegB R.CB_BARRIER req true else s1
    raise s2 0x02 0

/-- The first control-bus cycle at or after the hold limit (R91). -/
def lockHoldExpiry (s : State) (req : Nat) : State :=
  match sget s.ctl.seqs req with
  | some q => if elapsed s q.acq (q.lockUs * 1000) then seqAbort s req 2 else s
  | none => s

/-- Every sequence whose hold limit has come is aborted before the next access (R91, Table 3-2). -/
def locksDue (s : State) : State := (List.range 8).foldl lockHoldExpiry s

/-- The island a requester works in (Table 3-1). -/
def reqIsland (req : Nat) : Nat :=
  match req with | 2 => 7 | 3 => 7 | 4 => 8 | 5 => 2 | 6 => 13 | _ => 12

/-! Islands -/

/-- Pages whose block an island holds. -/
def islandPages (i : Nat) : List Nat := (allPages.filter fun d => d.isl == i).map (·.num)

/-- Pages with a MAC in an island. -/
def islandMacs (i : Nat) : List Nat := (islandPages i).filter fun p => (macCls p).isSome

/-- A reply to a bus access (Table 2-15). -/
def reply (s : State) (req status : Nat) (data : List Word) : State :=
  { s with ctl := { s.ctl with replies := sset s.ctl.replies req ⟨status, data⟩ } }

/-- The items in service that a reset of an island touches (Table 19-2): those whose executor works in it, and for the
memory island those that use the frame store. -/
def islandItems (s : State) (i : Nat) : List Svc :=
  (s.htk.svc ++ s.htk.orphans).filter fun v => v.exec.islands.contains i && v.exec != .cue &&
    (i != 3 || v.item.kind != kTest)

/-- An executor's item returns to its flow (R129); an engine records cause 4 (R566). -/
def islandFault (s : State) (v : Svc) : State :=
  match v.exec with
  | .engine e => faultItem (engFault (engDownNow s e) e 4) v
  | _ => faultItem s v

/-- The MACs of a port-group island lose their frames and their SAs, and their cages are read anew (R321). A link that the
reset costs its lock for 1 ms goes down then (R314). -/
def macReset (s : State) (p : Nat) : State :=
  let l := (s.mac p).link
  (macDropAll s p).setMac p { mac0 with link := l }

/-- What a reset of an island does to its block (Table 19-2). -/
def islandBlock (s : State) (i : Nat) : State :=
  match i with
  | 2 => htkReset s
  | 4 => (islandMacs 4).foldl macReset (ingestReset s)
  | 5 => (islandMacs 5).foldl macReset s
  | 6 => (islandMacs 6).foldl macReset s
  | 7 => (islandMacs 7).foldl macReset (hbReset s)
  | 8 => (islandMacs 8).foldl macReset s
  | 10 => meterReset s
  | 11 => (drvReset s).setRegB (R.PG_CTL 0x30) 0 false
  | _ => s

/-- An island enters reset (R18-R21, R91, Table 19-2): outstanding bus accesses are answered with RESET_ABORT in issue
order, sequences of its requesters break, its items fault, its blocks lose what Table 19-2 says, and its pages return to
their reset values. -/
def islandReset (s0 : State) (i : Nat) : State :=
  if !s0.islUp i then s0
  else
    -- a sequence whose hold limit has come is broken by that (R91)
    let s := locksDue s0
    let outs := s.isl.outs.filter fun o => o.isl == i
    let items := islandItems s i
    let s1 := (outs.filter fun o => !o.orphan).foldl (fun t o => reply t o.req 0x40 []) s
    let s2 := abortCount s1 i (outs.length + items.length)
    let l := s2.isl
    let reqs := (outs.filter fun o => !o.orphan).map (·.req)
    let gone := (List.range 8).filter fun r => reqIsland r == i
    let s3 : State := { s2 with
      -- what a requester of the island has asked of another takes effect there without it (R564)
      isl := { l with up := l.up - 2 ^ i, resetAt := sset l.resetAt i s2.up,
                      outs := (l.outs.filter fun o => o.isl != i).map fun o => { o with orphan := o.orphan || reqIsland o.req == i } },
      arb := { s2.arb with waiting := (reqs ++ gone).foldl maskOff s2.arb.waiting, cut := (reqs ++ gone).foldl maskOff s2.arb.cut } }
    let s4 := ((List.range 8).filter fun r => reqIsland r == i).foldl (fun t r => seqAbort t r 1) s3
    let s5 := items.foldl islandFault s4
    -- what the reset drops is counted in registers that have returned to their reset values (R36, R285)
    let s6 := if 4 ≤ i ∧ i ≤ 10 then (islandPages i).foldl (fun t p => blockReset t p true) s5 else s5
    let s7 := islandBlock s6 i
    let s8 := if 4 ≤ i ∧ i ≤ 10 then s7 else (islandPages i).foldl (fun t p => blockReset t p true) s7
    if i = 11 then railUpdate s8
    else if 4 ≤ i ∧ i ≤ 8 then hbTouch (ptpTouch s8)
    else s8

/-- ISL_RST: resets start for the selected islands. -/
def islRst (s : State) (mask : Nat) : State := (bitsOf 14 mask).foldl islandReset s

/-- Errors of a write to ISL_RST (Table 1-2, R23). -/
def islRstErrors (s : State) (v : Nat) : List (Err × Nat) :=
  (if v.testBit 9 || v.testBit 12 || v.testBit 13 then [(Err.protect, 0x40)] else []) ++
    (if v.testBit 11 && !s.hw.drive then [(Err.unmapped, 0x40)] else [])

/-- 64 cycles of an island's own clock in ns, rounded up (Table 1-1, R15). -/
def resetGuard (i : Nat) : Nat :=
  match i with
  | 0 | 1 => 107 | 2 => 160 | 3 => 61 | 10 => 2605 | 11 => 640 | _ => 410

/-- The instant an island's reset began is past by its guard time (R22). -/
def resetOver (s : State) (i : Nat) : Bool :=
  !s.islUp i && (match sget s.isl.resetAt i with | some t => elapsed s t (resetGuard i) | none => false)

/-- The fence timeout of an island (R563); `age` tells of the requests that are no bus accesses. With an ISL_RST in the same
cycle there is one reset, and the timeout counts (Table 19-7). -/
def fenceTimeout (s : State) (i : Nat) (age : FenceAge) : State :=
  let us := s.regF R.ISL_FTO 0 16
  let firsts := ((s.isl.outs.filter fun o => o.isl == i).map (·.since)) ++
    (match age.oldest with | some a => [s.up - a] | none => [])
  let watched := (decide (i ≤ 8) || i == 10 || i == 11) && us != 0 && (s.islUp i || sget s.isl.resetAt i == some s.up) && !firsts.isEmpty
  let oldest := firsts.foldl min (firsts.headD 0)
  let replied := match age.reply with | some a => s.up - a | none => 0
  let start := max oldest (max replied (max (sgetD s.isl.lastReply i 0) s.isl.ftoWrite))
  if watched && elapsed s start (us * 1000) then
    let s1 := islandReset s i
    let s2 := { s1 with isl := { s1.isl with lastReply := sput s1.isl.lastReply i s1.up 0 } }
    raise ((s2.setRegF R.ISL_FTO 16 4 i).count R.ISL_FTO 20 6 1) 0x01 14
  else s

/-- ORPHAN_REPLY (R564): a reply for an island in reset is discarded and counted. -/
def orphanReply (s : State) (i : Nat) : State :=
  if s.islUp i || (sget s.isl.resetAt i).isNone then s else s.count R.ISL_FTO 26 6 1

/-! Soft reset of a page (R49) -/

/-- Discard stack and colour entries that wait for their latch point: the windows read the applied entries again. -/
def dropEngPend (s : State) : State :=
  let s1 := s.ren.pend.foldl (fun t e =>
    let applied := (sget (if e.tab = tENGK then t.ren.stack else t.ren.colour) e.idx).getD (entryReset e.tab e.idx)
    t.setEnt e.tab e.idx applied) s
  { s1 with ren := { s1.ren with pend := [] } }

/-- Discard tile entries that wait for their latch point. -/
def dropTilePend (s : State) : State :=
  let s1 := s.pres.tilePend.foldl (fun t e => t.setEnt tSRFT e.tile (sgetD t.pres.tiles e.tile (entryReset tSRFT e.tile))) s
  { s1 with pres := { s1.pres with tilePend := [] } }

/-- A port page's framer stops (R285): its item returns to its flow. -/
def portSoftReset (s : State) (p : Nat) : State :=
  match svcOf s (.framer p) with
  | some v => faultItem (abortCount s (if p < 8 then 5 else 6) 1) v
  | none => s

/-- A MAC page's soft reset: the cage's caches read as after removal until the module is read anew, and the time held counts
from now. -/
def cageSoftReset (s : State) (p : Nat) : State :=
  let m := s.mac p
  s.setMac p { m with sfp := false, diag := false, heldNs := 0, hold := m.hold.map fun h => { h with from_ := s.up } }

/-- The block part of a soft reset, before the registers return. -/
def softBlock (s : State) (p : Nat) : State :=
  match p with
  | 0x04 => htkReset s
  | 0x05 => htkReset s
  | 0x06 => dropEngPend s
  | 0x09 =>
    let s1 := (List.range 4).foldl streamOff s
    { s1 with ing := { s1.ing with lays := [], streams := [], univ := [], hold := [], srcs := [], syncs := [] } }
  | 0x0A => srfReset (dropTilePend s)
  | 0x0D => tdmReset s
  | 0x0E => chkReset s
  | 0x22 => cageSoftReset (hbSoftReset s 0) 0x22
  | 0x23 => cageSoftReset (hbSoftReset s 1) 0x23
  | 0x24 => cageSoftReset s 0x24
  | 0x30 =>
    let r := s.drv.rails.map fun x => { x with fault := false, wait := x.wait || x.fault }
    { s with drv := { s.drv with rails := r } }
  | 0x31 => { s with drv := { s.drv with strs := [] } }
  | 0x32 => s.setMx 0 mx0
  | 0x33 => s.setMx 1 mx0
  | 0x3A => { s with mtr := { s.mtr with snaps := [] } }
  | 0x48 => if s.upd.state = 5 then s else updCancel (if s.upd.state = 3 then applyStop s else s)
  | 0x4C =>
    let busy := (qtys s).filter fun q => (s.qty q).state != 0
    let s1 := busy.foldl calAbandon s
    let kept := s1.slf.qs.filter fun e => !e.2.first
    { s1 with slf := { s1.slf with qs := kept.map fun e => (e.1, { qty0 with first := false }) } }
  | 0x4D => { s with slf := { s.slf with scrubFrom := s.up } }
  | _ =>
    if 0x12 ≤ p ∧ p ≤ 0x21 then cageSoftReset (portSoftReset s (p - 0x12)) p
    else if (macCls p).isSome then cageSoftReset s p else s

/-- The state of a Hatband port, which its link and its neighbour give (R425). -/
def portAgain (s : State) (p : Nat) : State := s.setRegF (R.HB_PORT p) 0 2 (portCode s p)

/-- After the return of page HB0: the ring table and the persisted address come from the Lining, and the ring state starts
anew at what Table 13-3 gives the ports that are UP. -/
def ringAgain (s : State) : State :=
  ringTouch (setRingState (ringRestore s) (b2n (hbUp s 0 || hbUp s 1)))

/-- What follows from the registers' return in the other blocks. -/
def softAfter (s : State) (p : Nat) : State :=
  match p with
  | 0x22 => hbTouch (ptpTouch (ringAgain (portAgain s 0)))
  | 0x23 => hbTouch (ptpTouch (portAgain s 1))
  | 0x24 => bindWritten s
  | 0x29 => ptpTouch s
  | 0x2A => tioWritten s
  | 0x30 => railUpdate s
  | 0x31 => railUpdate s
  | 0x38 => energySeed (meterCalRestore s)
  | 0x4C => calRestore s
  | _ =>
    let s1 := if 0x12 ≤ p ∧ p ≤ 0x21 then dropQueue s (p - 0x12) else s
    if (macCls p).isSome then hbTouch (ptpTouch s1) else s1

/-- A soft reset up to the persisted copy: pages HTK and HFL are one block. -/
def softReset (s : State) (p : Nat) : State :=
  let s1 := softBlock s p
  let s2 := if p = 0x04 ∨ p = 0x05 then blockReset (blockReset s1 0x04 false) 0x05 false else blockReset s1 p false
  softAfter s2 p

end Sys2Proof.Machine
end

