-- ==== Sys2Proof/Machine/BusRead.lean ====
section
/-! DEFINITION. What a register or a window entry reads: the registers that are computed from the state of their block
when they are read, and the entries a window READ loads (R54). Every other register reads as it is stored. -/

namespace Sys2Proof.Machine

/-! The page header (2.2) -/

/-- PG_ID (Table 2-2). -/
def pgId (d : PageD) : Word := w32 (1 + d.inst * 256 + d.typ * 65536)

/-- PG_CAP (Table 2-3): 0 on a page whose block is not fitted (R3); Table 0-2 on page DEV; pages MTR, MEA, ACC and SCL
depend on the variant (R8, 11.11, 18.7). -/
def pgCap (s : State) (d : PageD) : Word :=
  if !s.fitted d.num then 0#32
  else if d.num = 0 then w32 (b2n s.hw.drive + 2 + 4 * b2n s.hw.tsku + 0x900)
  else if s.hw.drive then w32 d.cap
  else match d.num with
    | 0x38 => 0x16403#32
    | 0x39 => 2#32
    | 0x3A => 0x64#32
    | 0x4C => 0x191B#32
    | _ => w32 d.cap

/-- The requester that holds a page (Table 2-10). -/
def lockOwner (s : State) (p : Nat) : Option Nat := (s.ctl.seqs.find? fun e => e.2.pages.contains p).map (·.1)

/-- PG_LOCK as read. -/
def pgLock (s : State) (p : Nat) : Word :=
  match lockOwner s p with
  | some r => w32 (256 + r * 4096)
  | none => 0xF000#32

/-- PG_PERSIST as read (Table 2-11). -/
def pgPersist (s : State) (p : Nat) : Word :=
  w32 (b2n (s.lin.busy.contains p) * 256 + b2n (pageCopy s p).isSome * 512 + b2n (s.lin.failed.contains p) * 1024)

/-- The header registers that are not read as stored. -/
def headWord (s : State) (d : PageD) (o : Nat) : Option Word :=
  match o with
  | 0x00 => some (pgId d)
  | 0x04 => some (pgCap s d)
  | 0x0C => some (pgStat s d.num)
  | 0x18 => some (s.reg (R.PG_EVRAW d.num) &&& s.reg (R.PG_EVMSK d.num))
  | 0x20 => some (pgLock s d.num)
  | 0x2C => some (pgPersist s d.num)
  | _ => none

/-! Block registers -/

/-- Index of offset `o` in an array at `base` of `n` registers `stride` apart. -/
def arrIdx (o base n stride : Nat) : Option Nat :=
  if base ≤ o && (o - base) % stride == 0 && decide ((o - base) / stride < n) then some ((o - base) / stride) else none

/-- MAC block (Table 9-8, Table 9-9). -/
def macWord (s : State) (p o : Nat) : Option Word :=
  let m := s.mac p
  match o with
  | 0x400 => if 0x12 ≤ p ∧ p ≤ 0x21 then some (setFld (s.reg (R.MAC_CFG p)) 0 14 (s.regF (R.PP_CFG (p - 0x12)) 16 14)) else none
  | 0x410 =>
    let paused := match m.hold with | some h => decide (s.up < h.until_) | none => false
    some (w32 (b2n (linkUp s p) + 2 * b2n paused + 4 * b2n m.sfp + 8 * b2n m.txFault + 16 * b2n m.rxLos +
      32 * b2n (secure s p) + pauseLeft s p * 65536))
  | 0x418 => some (setFld (s.reg (R.MAC_SEC p)) 1 1 (b2n m.xpn))
  | 0x428 => some (w32 (macAddr s p))
  | 0x42C => some (w32 (macAddr s p / 2 ^ 32 % 65536))
  | 0x474 => some (w32 (pauseUs s p))
  | _ => none

/-- PG_STAT-like bits of a timing domain (Table 7-9). -/
def tdmStat (s : State) (d : Nat) : Word :=
  let x := s.dom d
  let st := s.reg (R.TDM_STAT d)
  let ok := srcOk s (s.reg ·) d && (gSrc (s.reg ·) d != 0 || s.clkr.valid)
  w32 (b2n x.running + 2 * b2n x.bridge.isSome + 4 * b2n ok + fld st 16 16 * 65536)

/-- SRF_STATn (Table 7-15). -/
def srfStat (s : State) (n : Nat) : Word :=
  let x := s.srf n
  w32 (x.state + s.regF (R.SRF_STAT n) 2 1 * 4 + min x.changed 255 * 256 + min x.static 65535 * 65536)

/-- DRV_RAILn (Table 10-10). -/
def railWord (s : State) (r : Nat) : Word :=
  let x := s.rail r
  w32 (railV s r / 1000000 + b2n x.on * 16384 + b2n x.fault * 32768 + s.regF (R.DRV_RAILS r) 16 14 * 65536)

/-- The block registers of a page that are not read as stored. -/
def blkWord (s : State) (req p o : Nat) : Option Word :=
  match p with
  | 0x00 => match o with
    | 0x40 => some (w32 s.hw.serial)
    | 0x44 => some (w32 (s.hw.serial / 2 ^ 32))
    | 0x48 => some (w32 (s.hw.hwrev % 65536))
    | 0x4C => some (w32 ((runningImg s).elim 0 (·.id)))
    | 0x58 => some (w32 (s.regF R.DEV_RELAY 0 2 + b2n (relayOn s) * 256))
    | 0x60 => some (w32 (s.up / 1000000000))
    | _ => none
  | 0x01 => match o with
    | 0x44 => some (w32 (s.isl.up + 65536 * maskBits 5 fun i => !(islandMacs (4 + i)).any fun m => linkUp s m))
    | _ => none
  | 0x03 => match arrIdx o 0x40 8 4, o with
    | some g, _ => some (w32 (evtSrc s g))
    | none, 0xA0 => some (w32 ((evtSum s).foldl (fun a g => a + 2 ^ g) 0))
    | none, _ => none
  | 0x04 => if o = 0x4C then some (w32 (qFree s)) else none
  | 0x06 => if o = 0x44 then some (w32 (0xFFFFFF - engDown s)) else none
  | 0x08 => match arrIdx o 0x48 2 4, o with
    | some u, _ => some (w32 (poolFree s u + s.regF (R.FST_RXSTAT u) 16 14 * 65536))
    | none, 0x58 => some (w32 (layUse s))
    | none, _ => none
  | 0x09 => match arrIdx o 0x420 4 0x40 with
    | some i => some (w32 (b2n (s.stream i).live + ((s.stream i).ssrc.getD 0) % 65536 * 65536))
    | none => none
  | 0x0B => match o with
    | 0x70 => some (w32 (validRuns s).length)
    | 0x74 => some (w32 (epUse s))
    | _ => none
  | 0x0D => match arrIdx o 0x5C 4 0x40, o with
    | some d, _ => some (tdmStat s d)
    | none, 0x1D0 => some (w32 (cuesArmed s))
    | none, _ => none
  | 0x0A => (arrIdx o 0x108 64 0x10).map (srfStat s)
  | 0x24 => if o = 0x78 then some (w32 (healthWord s)) else macWord s p o
  | 0x28 => match o with
    | 0x58 => some (w32 (ofSigned 32 (slewLeft s)))
    | 0x70 => some (w32 (nsOf (nowNs s)))
    | 0x80 => some (w32 (incAvg s))
    | 0x84 => some (w32 (if s.clkr.state = 3 then (s.up - s.clkr.holdStart) / 1000000000 else 0))
    | _ => none
  | 0x2A => match o with
    | 0x44 => some (w32 (s.regF R.TIO_LTCSTAT 0 22 + b2n s.tio.ltc.lock * 2 ^ 22 + b2n s.tio.ltc.jump * 2 ^ 23))
    | 0x50 => some (w32 (wclkPer s % 2 ^ 24 + b2n s.tio.wclk.lock * 2 ^ 24 + b2n s.tio.wclk.jump * 2 ^ 25))
    | _ => none
  | 0x30 => match arrIdx o 0x60 4 4, o with
    | some r, _ => some (railWord s r)
    | none, 0x58 => some (w32 s.drv.dark)
    | none, _ => none
  | 0x38 => if o = 0x58 then some (w32 (min (bufPending s) 131071)) else none
  | 0x3A => match o, sget s.mtr.snaps req with
    | 0x74, some x => some (w32 (nsOf x.stamp))
    | 0x78, some x => some (w32 (secOf x.stamp))
    | _, _ => none
  | 0x40 => match o with
    | 0x48 => some (w32 s.lin.next)
    | 0x4C => some (w32 (s.lin.next / 2 ^ 32))
    | 0x50 => some (w32 s.lin.dur)
    | 0x54 => some (w32 (s.lin.dur / 2 ^ 32))
    | 0x58 => some (w32 (ckptC s))
    | 0x5C => some (w32 (ckptC s / 2 ^ 32))
    | 0x68 => some (w32 (oldestLog s))
    | 0x6C => some (w32 (oldestLog s / 2 ^ 32))
    | 0x70 => some (w32 (linUse s))
    | _ => none
  | 0x44 => match o with
    | 0x40 => some (w32 s.gnt.level)
    | 0x4C => some (w32 (b2n s.gnt.armed + s.gnt.precomm * 256))
    | 0x50 => some (w32 (rtcNow s))
    | 0x54 => some (w32 (rtcNow s / 2 ^ 32 % 65536))
    | 0x90 => some (w32 s.gnt.nonce)
    | 0x94 => some (w32 (s.gnt.nonce / 2 ^ 32))
    | _ => none
  | 0x46 => match arrIdx o 0x44 5 0x10 with
    | some n =>
      let st := s.reg (R.SEC_STAT n)
      some (w32 (secState s n + fld st 3 1 * 8 + fld st 8 2 * 256 + fld st 16 16 * 65536))
    | none => none
  | _ =>
    if 0x12 ≤ p ∧ p ≤ 0x21 ∧ o = 0x48 then
      some (w32 (credFree s (p - 0x12) + s.regF (R.PP_CREDSTAT (p - 0x12)) 16 13 * 65536))
    else if (macCls p).isSome then macWord s p o
    else none

/-- The Hatband's module-wide registers, table and event windows lie on HB0 and read the same on HB1 (R444). -/
def homeAddr (a : Nat) : Nat :=
  if pageOf a = 0x23 ∧ 0x100 ≤ offOf a ∧ offOf a < 0x180 then a - 0x10000 else a

/-- The word a register reads for a requester, staging left aside: a register held per requester reads the requester's
(R54), and write-only fields read 0. -/
def appliedWord (s : State) (req a0 : Nat) : Word :=
  let a := homeAddr a0
  match findPage (pageOf a), findReg a with
  | some d, some r =>
    let w := if r.banked then s.breg req a else s.reg a
    let x := if offOf a < 0x40 then headWord s d (offOf a) else blkWord s req d.num (offOf a)
    match x with
    | some v => v
    | none =>
      let wo := (r.fields.filter fun f => f.acc == .wo).foldl (fun m f => m ||| f.mask) 0
      w32 (w.toNat - (w.toNat &&& wo))
  | _, _ => 0#32

/-- Every field of a register is staged. -/
def isST (a : Nat) : Bool :=
  let fs := fieldsOf a
  !fs.isEmpty && fs.all fun f => f.acc == .st

/-- A register of a LATCH page, or a word of a string entry, as what is committed and pending would leave it (R51,
R334, R349, R154). -/
def pendWord (s : State) (a : Nat) : Word :=
  let p := pageAt a
  if 0x10000000 ≤ a then
    match sget s.ctl.pend a with
    | some e => e.val
    | none => s.entW tSTR ((a - 0x10000000) / 4) (a % 4)
  else if p = 0x32 ∨ p = 0x33 then
    let x := s.mxp (p - 0x32)
    match (x.pend.map (·.2)).reverse.find? (fun e => e.1 == a), x.due.reverse.find? (fun e => e.1 == a) with
    | some e, _ => e.2
    | none, some e => e.2
    | none, none => s.reg a
  else if p = 0x09 then
    match (s.lay ((a - R.LAY_FRAME 0) / 4)).pend.find? (·.fnum.isNone) with
    | some e => w32 e.slot
    | none => s.reg a
  else pendVal s a

/-- A register of a LATCH page as written: staged, otherwise pending, otherwise applied (R51). -/
def stagedWord (s : State) (a : Nat) : Word :=
  match sget s.ctl.stage a with
  | some v => v
  | none => pendWord s a

/-- The word a register reads (R51): an ST register reads its staged value, otherwise the pending one, otherwise the
applied one. -/
def readWord (s : State) (req a : Nat) : Word := if isST a then stagedWord s a else appliedWord s req a

/-- What a read changes: CLK_NOWNS latches the seconds of the same instant for its requester (R397). -/
def readTouch (s : State) (req a : Nat) : State :=
  if a = R.CLK_NOWNS then
    let sec := secOf (nowNs s)
    (s.setBreg req R.CLK_NOWSLO (w32 sec)).setBreg req R.CLK_NOWSHI (w32 (sec / 2 ^ 32 % 65536))
  else s

/-! Window entries (R54) -/

/-- Code of a flow state (Table 4-14). -/
def FlowState.code : FlowState → Nat
  | .disabled => 0 | .idle => 1 | .waiting => 2 | .ready => 3 | .reserved => 4 | .inService => 5 | .stopped => 6

/-- Flow status (Table 4-14). -/
def flowStat (s : State) (f : Nat) : List Word :=
  let x := s.flow f
  let att := match x.queue.head?, s.htk.svc.find? fun v => v.flow == f with
    | _, some v => v.item.attempt
    | some i, none => i.attempt
    | none, none => 0
  [w32 (x.state.code + att % 4 * 8 + b2n (fAtomic s f && openCount s f != 0) * 32 + x.lastEng * 256), w32 x.flags,
    w32 (x.queue.length + (delayedOf s f).length), w32 (x.failed + x.retries * 65536), w32 (x.expired + x.discarded * 65536)]

/-- Layer status (Table 5-15). -/
def layStat (s : State) (n : Nat) : List Word :=
  let x := s.lay n
  let st (m : Nat) : Nat := (lget x.slots m ⟨0, 0, false⟩).st
  let num := match x.shownFnum, shownSlot s n with
    | some f, _ => f
    | none, some m => (slotAt s n m).fnum
    | none, none => 0
  [w32 (st 0 + st 1 * 4 + st 2 * 16 + st 3 * 64 + b2n x.shownInc * 256), w32 num, w32 (x.incomplete + x.superseded * 65536),
    w32 (x.dropped + x.late * 65536)]

/-- Rectangle results (Table 7-19). -/
def chkStat (s : State) (n : Nat) : List Word :=
  let x := s.chk n
  [w32 (x.last + x.elast * 8 + x.queue.length * 256), w32 x.epoch, w32 x.crc, w32 x.ecrc, w32 (x.mismatch + x.echoBad * 65536),
    w32 (x.noexp + x.stale * 65536)]

/-- Node status (Table 8-15); entry 4,095 holds only the broadcast sequence and time. -/
def nodeStat (s : State) (p n : Nat) : List Word :=
  let x := s.node p n
  let own (v : Nat) : Word := if n = 4095 then 0#32 else w32 v
  [own (x.state + b2n (nodeGap s p n) * 4 + x.misses * 8 + x.nflags * 65536), w32 x.seq, w32 (nsOf x.lastP),
    w32 (secOf x.lastP), own x.nseq, own x.fence]

/-- String status (Table 10-11). -/
def strStat (s : State) (n : Nat) : List Word :=
  let x := s.str n
  let st := if x.fault != 0 then x.fault else b2n ((onNow s (n / 16)).contains n && s.drv.dark == 0)
  [w32 (st + x.vf * 65536), w32 (sgetD s.drv.cur (strAddr s n) 0 % 65536 + x.imeas % 65536 * 65536)]

/-- PTP port status (Table 12-11). -/
def ptpStat (s : State) (p : Nat) : List Word :=
  let x := s.pport p
  let delay := if 13 ≤ p then (s.regF R.PTP_BDLY 0 10 : Int) else x.delay
  [w32 x.state, w32 (ofSigned 32 delay), w32 (x.sync + x.bad * 65536)]

/-- The entry a window READ loads. -/
def winEntry (s : State) (req : Nat) (w : WinD) (i : Nat) : List Word :=
  if w.tab = tHFLS then flowStat s i
  else if w.tab = tLAYS then layStat s i
  else if w.tab = tCHKS then chkStat s i
  else if w.tab = tSTRS then strStat s i
  else if w.tab = tSTR then (List.range 3).map fun k => stagedWord s (strPseudo i k)
  else if w.tab = tPTPP then ptpStat s i
  else if w.tab = tACC then accEntry s req i
  else if w.tab = tGNTL then alarmEntry s i
  else if w.tab = tSCLQ then qtyEntry s i
  else if tPPNS ≤ w.tab ∧ w.tab < tSFP then nodeStat s (w.page - 0x12) i
  else s.ent w.tab i

end Sys2Proof.Machine
end

