-- ==== Sys2Proof/Machine/BusErrors.lean ====
section
/-! DEFINITION. What the control bus checks of a write (2.4, chapter 3): the checks every register has, and the ones a
register or window adds. An error is a code with the offset PG_ERR would name. -/

namespace Sys2Proof.Machine

/-! Checks of the registers, page by page. Each judges a write of `v` at offset `o` in a state in which the earlier
writes of the requester's own sequence have applied (R85). -/

/-- An error at an offset where a condition holds. -/
def errIf (b : Bool) (e : Err) (o : Nat) : List (Err × Nat) := if b then [(e, o)] else []

/-- Source numbers that Table 19-1 reserves. -/
def reservedSrc (n : Nat) : Bool :=
  (decide (0x52 ≤ n) && decide (n < 0x80)) || (decide (0x95 ≤ n) && decide (n < 0xC0)) || decide (0xD0 ≤ n)

/-- EVT_AMSKg and EVT_LOGg (Table 19-9). -/
def evtErrors (o v : Nat) : List (Err × Nat) :=
  match arrIdx o 0x60 16 4 with
  | some k => errIf ((bitsOf 32 v).any fun b => reservedSrc (32 * (k % 8) + b)) .reserved o
  | none => []

/-- The item in a requester's enqueue buffer (4.11). -/
def bufItem (s : State) (req : Nat) : Item := ⟨(List.range 16).map fun k => s.breg req (0x040080 + 4 * k), 0, false, false⟩

/-- HTK_ENQ_OP and HTK_FLOWCMD (R108, Table 4-12). -/
def htkErrors (s : State) (req o v : Nat) : List (Err × Nat) :=
  if o = 0xC0 ∧ v = 1 then
    let i := bufItem s req
    ((itemErrors s i).map fun e => (e.1, 0x80 + 4 * e.2)) ++ (enqCauses s false i).map fun e => (e, 0xC0)
  else if o = 0xD0 then
    let f := v % 256
    let cmd := v / 256 % 4
    errIf (decide (240 ≤ f) && cmd == 1) .range o ++
      errIf (decide (2 ≤ cmd) && decide (f < 248) && (s.flow f).state != .stopped) .state o
  else []

/-- FST_RXCFGn (Table 5-11): a parser takes frames of the port. -/
def fstErrors (s : State) (o : Nat) : List (Err × Nat) :=
  match arrIdx o 0x40 2 4 with
  | some u =>
    errIf (s.regB R.LAY_PIN (16 + u) || s.regB R.LAY_E131CTL u ||
      (List.range 4).any fun i => s.regB (R.LAY_SCTL i) 0 && s.regF (R.LAY_SCTL i) 1 1 == u) .state o
  | none => []

/-- LAY_FRAMEn (R155) and the stream registers (R164, Table 5-19). -/
def layRegErrors (s : State) (o : Nat) (v : Word) : List (Err × Nat) :=
  if 0x100 ≤ o ∧ o < 0x400 then
    let n := (o - 0x100) / 4
    errIf (!layEn s n || laySrc s n != 0) .state o ++ errIf (decide (layNbuf s n ≤ fld v 0 2)) .range o
  else if 0x400 ≤ o ∧ o < 0x500 then
    let i := (o - 0x400) / 0x40
    if o % 0x40 = 0 then streamErrors s i v else errIf (s.regB (R.LAY_SCTL i) 0) .state o
  else []

/-- CHK_XOP (R251). -/
def chkErrors (s : State) (req o v : Nat) : List (Err × Nat) :=
  if o ≠ 0x6C then []
  else if v = 3 then [(.range, o)]
  else if v = 1 then
    match expPushErr s (fld (s.breg req R.CHK_XRECT) 0 6) (s.breg req R.CHK_XEP).toNat with
    | some e => [(e, o)]
    | none => []
  else []

/-- TDM_QARMOP (R245). -/
def tdmErrors (s : State) (req o v : Nat) : List (Err × Nat) :=
  if o = 0x1CC ∧ v = 1 then
    let w := s.breg req R.TDM_QARM0
    let dom := fld w 12 3
    let lo := (s.breg req R.TDM_QARM1).toNat
    let hi := (s.breg req R.TDM_QARM2).toNat
    errIf (cueArmBad s dom (hi * 2 ^ 32 + lo)) .state o ++ errIf (dom == 4 && decide (999999999 < lo)) .range o
  else []

/-- SRF_CTLn (Table 7-5). -/
def srfErrors (s : State) (o : Nat) (v : Word) : List (Err × Nat) :=
  match arrIdx o 0x100 64 0x10 with
  | some n => errIf (srfDomainLocked s n v) .state o
  | none => []

/-- PPn_CFG and PPn_CREDIT (Table 8-12). -/
def portErrors (s : State) (p o : Nat) (v : Word) : List (Err × Nat) :=
  let held := (s.port p).held != 0
  if o = 0x40 then errIf (held && fld v 16 14 != s.regF (R.PP_CFG p) 16 14 && decide (p < 8)) .state o
  else if o = 0x44 then errIf held .state o ++ errIf (decide (fld v 0 13 / 2 < fld v 16 13)) .range o
  else []

/-- MAC_CFG and MAC_SEC (Table 9-8): settings of a MAC in use do not change. -/
def macErrors (s : State) (p o : Nat) (v : Word) : List (Err × Nat) :=
  let old := s.reg (R.MAC_CFG p)
  let c := macCls p
  let up := c == some .up
  let big := up || c == some .hb || c == some .mir
  if o = 0x400 then
    errIf (up && fld v 14 2 == 1 && bit v 16) .range o ++
      errIf (s.en p && ((big && fld v 0 14 != fld old 0 14) || (up && fld v 14 18 != fld old 14 18))) .state o
  else if o = 0x418 then errIf (s.en p && up && bit v 0 != s.regB (R.MAC_SEC p) 0) .state o
  else []

/-- HB_CTL.ETYPE (Table 13-11) and RA_OP (R66). -/
def hbErrors (s : State) (req p o : Nat) (v : Word) : List (Err × Nat) :=
  if o = 0x100 then errIf ((s.en 0x22 || s.en 0x23) && fld v 16 16 != s.regF (R.HB_CTL 0) 16 16) .state o
  else if o = 0x808 then raErrors s req p v.toNat
  else []

/-- MIR_CFG, MIR_PAIR, MIR_PEER and MIR_CMD (Table 14-11). -/
def mirErrors (s : State) (o : Nat) (v : Word) : List (Err × Nat) :=
  if o = 0x40 then mirCfgErrors s v
  else if 0x44 ≤ o ∧ o ≤ 0x50 then errIf (bound s) .state o
  else if o = 0x60 then
    errIf (fld v 0 2 == 3) .range o ++ errIf (bit v 0 && s.pair.role != .active) .state o ++
      errIf (bit v 1 && s.pair.role != .standby) .state o
  else []

/-- The clock registers (Tables 12-8 and 12-9): with the firmware servo only the management core writes them. -/
def clkErrors (s : State) (req o : Nat) (v : Word) : List (Err × Nat) :=
  let barred := firmware s && req != 0
  if o = 0x44 then
    let a := [fld v 0 3, fld v 4 3, fld v 8 3].filter (· != 0)
    errIf (!a.Nodup) .range o
  else if o = 0x4C ∨ o = 0x50 then errIf barred .protect o ++ errIf (!clkNormal s) .state o
  else if 0x5C ≤ o ∧ o ≤ 0x68 then errIf barred .protect o ++ errIf (o == 0x68 && fld v 0 2 == 3) .range o
  else []

/-- TIO_LTC.RATE (Table 12-12). -/
def tioErrors (s : State) (o : Nat) (v : Word) : List (Err × Nat) :=
  errIf (o == 0x40 && s.regB R.TIO_LTC 0 && fld v 1 2 != s.regF R.TIO_LTC 1 2) .state o

/-- DRV_CTL.DOMAIN (R324) and DRV_DERATE (Table 10-9). -/
def drvErrors (s : State) (o : Nat) (v : Word) : List (Err × Nat) :=
  if o = 0x40 then errIf (s.en 0x30 && fld v 0 2 != drvDom s) .state o
  else if o = 0x50 then errIf (decide (fld v 8 7 ≤ fld v 0 7)) .range o
  else []

/-- The sealed registers of metering (R387) and MTR_CTL.EN (R388). -/
def mtrErrors (s : State) (o : Nat) (v : Word) : List (Err × Nat) :=
  if o = 0x40 then errIf (bit v 0 && !s.regB R.MTR_CTL 0 && partnerMeters s) .state o
  else if o = 0x44 ∨ o = 0x48 then errIf (s.regB R.MTR_SEAL 0) .protect o
  else []

/-- LIN_ACKHI, LIN_CMD and LIN_ROP (Tables 15-7 and 15-8). -/
def linErrors (s : State) (o : Nat) (v : Word) : List (Err × Nat) :=
  if o = 0x64 then ackErrors s v
  else if o = 0x80 then errIf (bit v 0 && s.lin.run.isSome) .busy o
  else if o = 0xA8 then errIf (bit v 0 && s.lin.state == 0) .busy o
  else []

/-- GNT_POLn (R500) and GNT_CMDOP (R508). -/
def gntErrors (s : State) (o : Nat) (v : Word) : List (Err × Nat) :=
  match arrIdx o 0x60 9 4 with
  | some n => polErrors s n v
  | none => errIf (o == 0x98 && bit v 0 && s.gnt.cmd.isSome) .busy o

/-- The checks a block register adds to the common ones. -/
def regErrors (s : State) (req a : Nat) (v : Word) : List (Err × Nat) :=
  let p := pageOf a
  let o := offOf a
  let n := v.toNat
  match p with
  | 0x00 => if o = 0x50 then devResetErrors s n else []
  | 0x01 => if o = 0x40 then islRstErrors s n else []
  | 0x02 => errIf (o == 0x58 && fld v 0 4 != 15) .range o
  | 0x03 => evtErrors o n
  | 0x04 => htkErrors s req o n
  | 0x08 => fstErrors s o
  | 0x09 => layRegErrors s o v
  | 0x0A => srfErrors s o v
  | 0x0D => tdmErrors s req o n
  | 0x0E => chkErrors s req o n
  | 0x22 => hbErrors s req 0 o v ++ macErrors s p o v
  | 0x23 => hbErrors s req 1 o v ++ macErrors s p o v
  | 0x24 => mirErrors s o v ++ macErrors s p o v
  | 0x28 => clkErrors s req o v
  | 0x2A => tioErrors s o v
  | 0x30 => drvErrors s o v
  | 0x38 => mtrErrors s o v
  | 0x40 => linErrors s o v
  | 0x44 => gntErrors s o v
  | 0x45 => if o = 0xA4 then keyErrors s req n else []
  | 0x48 => if o = 0x44 then updCmdErrors s n else []
  | 0x4C => if o = 0x68 then sclErrors n else []
  | _ =>
    if 0x12 ≤ p ∧ p ≤ 0x21 then portErrors s (p - 0x12) o v ++ macErrors s p o v
    else if (macCls p).isSome then macErrors s p o v
    else []

/-! Windows (2.3) -/

/-- The index and the buffer of a requester's window. -/
def winIdx (s : State) (req : Nat) (w : WinD) : Nat := fld (s.breg req (w.page * 0x10000 + w.idx)) 0 24
def winBuf (s : State) (req : Nat) (w : WinD) : List Word :=
  (List.range w.nd).map fun k => s.breg req (w.page * 0x10000 + w.data + 4 * k)

/-- Offset of word `k` of an entry; beyond the data registers it is that of _OP. -/
def winOff (w : WinD) (k : Nat) : Nat := if k < w.nd then w.data + 4 * k else w.op

/-- Words of an entry that a WRITE ignores (Tables 11-15 and 18-8): their legal sets do not bind it. -/
def ignoredWord (t k : Nat) : Bool := (t == tACC && k != 5) || (t == tSCLQ && k != 1)

/-- Field checks of an entry (R55). -/
def entryErrors (w : WinD) (ws : List Word) : List (Err × Nat) :=
  ((List.range w.nd).map fun k =>
    let fs := lget (entryFields w.tab) k []
    let v := lget ws k 0#32
    errIf (setsReserved fs v) .reserved (winOff w k) ++
      errIf (!ignoredWord w.tab k && outOfRange fs v) .range (winOff w k)).flatten

/-- Checks of an entry beyond its fields, table by table; the number is the word, as `winOff` takes it. -/
def tableErrors (s : State) (w : WinD) (i : Nat) (ws : List Word) : List (Err × Nat) :=
  let t := w.tab
  if t = tHFL then flowEntryErrors s i ws
  else if t = tLAY then layerErrors s i ws
  else if t = tLAYU then universeErrors s i ws
  else if t = tENGK then stackErrors i ws
  else if t = tMAP then runErrors s i ws
  else if t = tCALP then profileErrors s i ws
  else if t = tSRFT then tileErrors s ws
  else if t = tTDMQ then cueErrors ws
  else if t = tTDMA then actionErrors ws
  else if t = tCHKR then rectErrors s ws
  else if t = tMTRC then
    errIf (s.regB R.MTR_SEAL 0) .protect 2 ++ errIf (!(decide (3 ≤ i) && decide (i ≤ 6)) && fld (lget ws 1 0#32) 0 16 != 0) .range 1
  else if tPPN < t ∧ t < tPPNS then nodeEntryErrors s (w.page - 0x12) i ws
  else []

/-- An error says that a field of an entry is illegal, not that the entry does not suit the module's state. -/
def illegalField (w : WinD) (e : Err × Nat) : Bool :=
  (e.1 == .reserved || e.1 == .range || e.1 == .unmapped) && e.2 != w.op

/-- Whichever error is reported, PG_ERR.OFFSET names the data register that holds the first illegal field (R55). -/
def firstField (w : WinD) (es : List (Err × Nat)) : List (Err × Nat) :=
  match (es.filter (illegalField w)).map (·.2) with
  | [] => es
  | o :: os => es.map fun e => if illegalField w e then (e.1, os.foldl min o) else e

/-- An entry that does not exist on this variant (R357, 18.7), or an index below the first (R615), or a stack slot or quantity code that names none. -/
def indexErrors (s : State) (w : WinD) (i : Nat) (write : Bool) : List (Err × Nat) :=
  let t := w.tab
  errIf (decide (i < w.lo)) .range w.op ++
  if t = tENGK then errIf (decide (16 < i % 32)) .range w.op
  else if t = tSCLQ then
    errIf (!qtyKnown i) .range w.op ++ errIf (qtyKnown i && !qtyFitted s i) .unmapped w.op
  else if t = tMTRC then errIf (!s.hw.drive && decide (9 ≤ i)) .unmapped w.op
  else if t = tACC then errIf (write && !s.hw.drive && decide (33 ≤ i)) .unmapped w.op
  else []

/-- Checks of a write of `v` to an _OP register (Table 2-12, R54, R55). -/
def winErrors (s : State) (req : Nat) (w : WinD) (v : Nat) : List (Err × Nat) :=
  let i := winIdx s req w
  let rd := v.testBit 0
  let wr := v.testBit 1
  let x2 := v.testBit 2
  errIf (decide (1 < popCount 3 v)) .range w.op ++ errIf (w.ro && wr) .readonly w.op ++
    (if rd ∨ wr ∨ (x2 && w.tab == tHBT) then indexErrors s w i wr else []) ++
    (if wr && !w.ro then
      let ws := winBuf s req w
      let k := firstField w (entryErrors w ws ++ (tableErrors s w i ws).map fun e => (e.1, winOff w e.2))
      if w.tab = tUPDB then k ++ updBopErrors s req v else k
    else []) ++
    (if x2 && w.tab == tHBT then errIf (ringSt s i == 2) .state w.op else []) ++
    (if x2 && w.tab == tUPDB then updBopErrors s req v else [])

/-! The common checks -/

/-- Write-only registers that a frozen page accepts (R45): they only clear, or are HB_EVPOP and DEV_RESET. -/
def frozenAccepts (a : Nat) : Bool :=
  let p := pageOf a
  let o := offOf a
  a == R.CB_CLR || a == R.FST_CLR || a == R.ENG_CLR || a == R.DRV_CLR || a == R.DRV_FCLR || a == R.STR_FCLR 0 ||
    a == R.STR_FCLR 1 || a == R.MIR_CLR || a == R.THM_CLR || a == R.HB_EVPOP 0 || a == R.DEV_RESET ||
    (decide (0x12 ≤ p) && decide (p ≤ 0x21) && o == 0x50) || ((macCls p).isSome && o == 0x424) ||
    ((p == 0x32 || p == 0x33) && o == 0xA4) || ((p == 0x22 || p == 0x23) && o == 0x4C)

/-- A frozen page rejects a write (R45). -/
def freezeHits (s : State) (a : Nat) (v : Word) : Bool :=
  let p := pageOf a
  let o := offOf a
  if !s.frozen p then false
  else if o = 0x08 then bit v 1 || bit v 0 != s.en p
  else if o = 0x24 then bit v 0
  else if o < 0x40 then false
  else !frozenAccepts a && (fieldsOf a).any fun f => f.acc == .rw || f.acc == .st || f.acc == .wo

/-- The requester holds a page. -/
def holds (s : State) (req p : Nat) : Bool :=
  match sget s.ctl.seqs req with
  | some q => q.pages.contains p
  | none => false

/-- PG_CTL (Table 2-4, R324, R550). -/
def ctlErrors (s : State) (d : PageD) (v : Word) (seq : Bool) : List (Err × Nat) :=
  errIf (d.core && (!bit v 0 || bit v 1)) .protect 0x08 ++
    errIf ((bit v 1 && seq) || (bit v 0 && !s.fitted d.num) || (d.num == 0x04 && bit v 0 && fatal s) ||
      (d.num == 0x30 && bit v 0 && s.fitted 0x30 && !gEn s.reg (drvDom s))) .state 0x08

/-- PG_LOCK.ACQ and PG_LOCK.REL (R68, R83, R90). -/
def lockErrors (s : State) (req p : Nat) (v : Word) : List (Err × Nat) :=
  let mine := match sget s.ctl.seqs req with | some q => q.pages | none => []
  errIf (req == 2 || req == 3) .protect 0x20 ++ errIf (fld v 0 2 == 3) .range 0x20 ++
    (if bit v 0 && !mine.contains p then
      errIf (mine.any fun q => decide (p < q)) .order 0x20 ++ errIf (decide (4 ≤ mine.length)) .state 0x20
    else []) ++
    errIf (bit v 1 && !mine.contains p) .state 0x20

/-- PG_PERSIST (Table 2-11). -/
def persistErrors (s : State) (p : Nat) (v : Word) : List (Err × Nat) :=
  errIf (fld v 0 2 == 3) .range 0x2C ++ errIf (fld v 0 2 != 0 && s.lin.busy.contains p) .busy 0x2C

/-! Joint rules at a commit (R52) -/

/-- The joint rules that a commit of page `p` with the staged words `ws` breaks, where all of `ws` (for every page that
commits with it) would be pending afterwards: the offset of the lowest register involved (R52). -/
def jointBroken (s : State) (p : Nat) (ws : List (Nat × Word)) : Option Nat :=
  let g (a : Nat) : Word := match ws.find? fun w => w.1 == a with | some w => w.2 | none => pendWord s a
  let gs (a : Nat) : Word := match ws.find? fun w => w.1 == a with | some w => w.2 | none => stagedWord s a
  if !(ws.any fun w => decide (pageAt w.1 = p)) then none
  else
    let os := match p with
      | 0x0D => tdmJoint s g (surfNames s g)
      | 0x0A => srfJoint g (gEn g)
      | 0x32 => mxJoint s gs 0
      | 0x33 => mxJoint s gs 1
      | _ => []
    match os with
    | [] => none
    | o :: rest => some (rest.foldl min o)

/-- Errors of a direct write of PG_COMMIT (Table 2-10, R52). -/
def commitErrors (s : State) (p : Nat) (v : Word) (seq : Bool) : List (Err × Nat) :=
  let ws := s.ctl.stage.filter fun e => pageAt e.1 == p
  errIf (fld v 0 2 == 3) .range 0x24 ++
    (if !seq && bit v 0 then match jointBroken s p ws with | some o => [(.state, o)] | none => [] else [])

/-- Words a sequence has staged so far. -/
def seqWords (s : State) (req : Nat) : Nat := match sget s.ctl.seqs req with | some q => q.writes.length | none => 0

/-- Everything a write of a register that exists can be rejected for but ALIGN and UNMAPPED. `t` is the state as the
requester's own sequence would leave it. -/
def writeErrors (s t : State) (req a : Nat) (d : PageD) (r : RegD) (v : Word) : List (Err × Nat) :=
  let p := d.num
  let o := offOf a
  let seq := holds s req p
  let lock := o == 0x20
  errIf (allRo r.fields || (p == 0x23 && decide (0x100 ≤ o) && decide (o < 0x180))) .readonly o ++
    errIf (match lockOwner s p with | some q => q != req | none => false) .locked o ++
    errIf (freezeHits s a v) .protect o ++ errIf (setsReserved r.fields v) .reserved o ++
    errIf (outOfRange r.fields v) .range o ++ errIf (p != 0x02 && s.regB R.CB_BARRIER req) .state o ++
    errIf (seq && !lock && !(o == 0x24 && fld v 0 2 == 2) && decide (512 ≤ seqWords s req)) .state o ++
    (if o = 0x08 then ctlErrors t d v seq
     else if lock then lockErrors s req p v
     else if o = 0x24 then commitErrors t p v seq
     else if o = 0x2C then persistErrors t p v
     else if o < 0x40 then []
     else match winOfOp a with
       | some w => winErrors t req w v.toNat
       | none => regErrors t req a v)

/-- The error reported (R57): the first in its order, and of equal ones the one at the lowest offset. -/
def firstError : List (Err × Nat) → Option (Err × Nat)
  | [] => none
  | e :: es => some (es.foldl (fun b x =>
      if x.1.prio < b.1.prio ∨ (x.1.prio = b.1.prio ∧ x.2 < b.2) then x else b) e)

end Sys2Proof.Machine
end

