-- ==== Sys2Proof/Machine/BusEffects.lean ====
section
/-! DEFINITION. What an accepted register write does (2.2, 2.3): the word it leaves, what its block does with it, window
operations, commits, and the persisted copy of a page. `req` is the requester and `c` the time a commit counts from. -/

namespace Sys2Proof.Machine

/-! The stored word -/

/-- Registers that a write of 1 to bit 31 clears whole (Table 2-9, Table 2-1 and those like them). -/
def recClears (a : Nat) : Bool :=
  offOf a == 0x1C || a == R.DEV_UNMAP || a == R.FST_UEADDR || a == R.TDM_LATEREC || a == R.EVT_FIRST || a == R.LIN_FAIL ||
    (decide (0x12 ≤ pageOf a) && decide (pageOf a ≤ 0x21) && offOf a == 0x54)

/-- The bits of a register's fields of one access code. -/
def accMask (fs : List FieldD) (k : Acc) : Nat := maskOf (fs.filter fun f => f.acc == k)

/-- The word a direct write of `v` leaves: RW fields take their new value, RW1C bits written 1 clear, the rest stays. -/
def mergeWord (fs : List FieldD) (old v : Word) : Word :=
  let rw := accMask fs .rw
  let cl := accMask fs .rw1c &&& v.toNat
  w32 (old.toNat - (old.toNat &&& (rw ||| cl)) + (v.toNat &&& rw))

/-- Store a written word: staged, per requester, or in the register itself (R50, R54). -/
def storeWord (s : State) (req a0 : Nat) (r : RegD) (v : Word) : State :=
  let a := homeAddr a0
  if isST a then { s with ctl := { s.ctl with stage := sset s.ctl.stage a v } }
  else if recClears a then (if bit v 31 then s.setReg a 0#32 else s)
  else if r.banked then s.setBreg req a (mergeWord r.fields (s.breg req a) v)
  else s.setReg a (mergeWord r.fields (s.reg a) (keepFresh s a v))

/-! Commits (R50-R53, R88) -/

/-- A commit of page LAY: every staged LAY_FRAMEn names the slot to show (R154, R155), of a layer that R155 still admits
(DESIGN CHOICE, log 134); late where it lies in a lead
interval of a layer's domain (R224). -/
def commitLayers (s : State) (ws : List (Nat × Word)) (c req : Nat) : State :=
  let num (a : Nat) : Nat := (a - R.LAY_FRAME 0) / 4
  let s1 := ws.foldl (fun t w =>
    let n := num w.1
    if layEn t n && laySrc t n == 0 && decide (fld w.2 0 2 < layNbuf t n) then
      selectSlot t n ⟨fld w.2 0 2, c, none, none, false, none, req == 4⟩
    else t) s
  (List.range 4).foldl (fun t d =>
    if (ws.any fun w => layDom s (num w.1) == d) && (s.dom d).running && inLead s d c then commitLate t d 0x09 req
    else t) s1

/-- PG_COMMIT.COMMIT of a page (R50, R51): an empty staging area makes it void. -/
def commitPage (s : State) (p c req : Nat) : State :=
  let ws := s.ctl.stage.filter fun e => pageAt e.1 == p
  if ws = [] then s
  else
    let s1 := { s with ctl := { s.ctl with stage := sdelIf s.ctl.stage fun a => pageAt a == p } }
    match p with
    | 0x0D => commitTdm s1 ws c req
    | 0x0A => commitLatched s1 p ws c req
    | 0x31 => commitLatched s1 p ws c req
    | 0x32 => mxCommit s1 0 ws
    | 0x33 => mxCommit s1 1 ws
    | 0x09 => commitLayers s1 ws c req
    | _ => ws.foldl (fun t w => t.setReg w.1 w.2) s1

/-- PG_COMMIT.DISCARD (R53). -/
def discardPage (s : State) (p : Nat) : State :=
  { s with ctl := { s.ctl with stage := sdelIf s.ctl.stage fun a => pageAt a == p } }

/-! The persisted copy of a page (R48, R49) -/

/-- The bits of a register that take part in a SAVE. -/
def savedMask (fs : List FieldD) : Nat := maskOf (fs.filter fun f => f.persisted && f.writable)

/-- Tables whose entries take part in a SAVE. -/
def savedTab (t : Nat) : Bool :=
  [tHFL, tLAY, tLAYU, tCHKR, tSTR, tSTRV, tMTRC, tACC, tSCLQ].contains t || (decide (tPPN ≤ t) && decide (t < tPPNS))

/-- The persisted words of an entry. -/
def savedEntry (s : State) (t i : Nat) : List Word :=
  (entryFields t).mapIdx fun k fs => w32 ((s.entW t i k).toNat &&& savedMask fs)

/-- The registers of a page with persisted fields, as offset and applied value, where that is not the reset value. -/
def savedRegs (s : State) (p : Nat) : List (Nat × Word) :=
  ((blockRegs p).filter fun r => savedMask r.fields != 0 && !r.banked).flatMap fun r =>
    let m := savedMask r.fields
    ((List.range r.count).map fun k => r.off + r.stride * k).filterMap fun o =>
      let a := p * 0x10000 + o
      let w := (s.reg a).toNat &&& m
      if w = (resetWord a).toNat &&& m then none else some (o, w32 w)

/-- The entries of a page's persisted tables that are not as after reset, as the writes that load them through the
window. -/
def savedWins (s : State) (p : Nat) : List (Nat × Word) :=
  ((winsOf p).filter fun w => savedTab w.tab && !w.ro).flatMap fun w =>
    ((List.range (w.hi + 1)).filter fun i => (sget s.tabs (tabKey w.tab i)).isSome && !(w.tab == tHFL && decide (240 ≤ i))).flatMap
      fun i => (windowWrites w i (savedEntry s w.tab i)).map fun x => (offOf x.1, x.2)

/-- Payload of a PAGE record (Table 15-3). -/
def copyPayload (s : State) (p : Nat) : List Byte :=
  let d := match findPage p with | some d => !d.core && p != 0x30 | none => false
  let ws := (if d then [(0x08, w32 (b2n (s.en p)))] else []) ++ savedRegs s p ++ savedWins s p
  leBytes 1 p ++ leBytes 1 0 ++ leBytes 2 ws.length ++
    ws.flatMap fun w => leBytes 2 w.1 ++ leBytes 2 0 ++ leBytes 4 w.2.toNat

/-- Note that a SAVE or FORGET is under way, or that it failed. -/
def copyMark (s : State) (p : Nat) (ok : Bool) : State :=
  let l := s.lin
  if ok then { s with lin := { l with busy := p :: l.busy.filter (· != p) } }
  else { s with lin := { l with failed := p :: l.failed.filter (· != p) } }

/-- PG_PERSIST.SAVE (R48): a copy longer than a record's payload fails. -/
def persistSave (s : State) (p : Nat) : State :=
  let b := copyPayload s p
  if 4080 < b.length then copyMark s p false
  else
    let r := linSubmit s (mkRec s 1 false false b)
    copyMark r.1 p r.2

/-- PG_PERSIST.FORGET. -/
def persistForget (s : State) (p : Nat) : State :=
  let r := linSubmit s (mkRec s 2 false false (leBytes 4 p))
  copyMark r.1 p r.2

/-- The writes a page copy holds, as offset and value. -/
def copyWrites (b : List Byte) : List (Nat × Word) :=
  (List.range (leNat ((b.drop 2).take 2))).map fun k =>
    let x := b.drop (4 + 8 * k)
    (leNat (x.take 2), w32 (leNat ((x.drop 4).take 4)))

/-- An entry of a page copy returns to its table. -/
def restoreEntry (s : State) (w : WinD) (i : Nat) (ws : List Word) : State :=
  let t := w.tab
  if t = tHFL then flowWritten (s.setEnt t i ws) i
  else if t = tLAY then layerWritten (s.setEnt t i ws) i (layEn s i)
  else if t = tACC then s.setEntW t i 5 (lget ws 5 0#32)
  else if t = tSCLQ then s.setEntW t i 1 (lget ws 1 0#32)
  else s.setEnt t i ws

/-- Engines that the power-on self-test failed stay isolated (R550). -/
def restoreMask (s : State) (a : Nat) (v : Word) : Word :=
  if a = R.HTK_ENG then w32 (v.toNat - (v.toNat &&& s.regF R.BST_POST 8 24)) else v

/-- One word of a page copy returns: to its register, or into the entry being loaded (index and data so far). -/
def restoreWord (p : Nat) (withEn : Bool) (x : State × Nat × List Word) (w : Nat × Word) : State × Nat × List Word :=
  let s := x.1
  let a := p * 0x10000 + w.1
  if w.1 = 0x08 then
    if withEn && s.fitted p && !(p == 0x04 && fatal s) then (s.setRegB (R.PG_CTL p) 0 (bit w.2 0), x.2) else x
  else match winOfOp a with
    | some d => (restoreEntry s d x.2.1 x.2.2, 0, [])
    | none =>
      if (winsOf p).any fun d => d.idx == w.1 then (s, w.2.toNat, [])
      else match findReg a with
        | some r =>
          if r.banked then (s, x.2.1, x.2.2 ++ [w.2])
          else
            let m := savedMask r.fields
            let old := (s.reg a).toNat
            let new := restoreMask s a (w32 (old - (old &&& m) + (w.2.toNat &&& m)))
            (if isST a then applyReg s a new else s.setReg a new, x.2)
        | none => x

/-- What the blocks do once a page's copy has been applied. -/
def afterRestore (s : State) (p : Nat) : State :=
  match p with
  | 0x03 => alertDrive s
  | 0x0D =>
    if s.clkr.valid then
      (List.range 4).foldl (fun t d => if gEn t.reg d && !(t.dom d).running then startDomain t d (nowNs t) else t) s
    else s
  -- the address outlives the reset; a copy without JOIN takes nothing from it (R443)
  | 0x22 => if s.regB (R.HB_CTL 0) 0 then joinWritten s else s
  | 0x24 => bindWritten (hbTouch (ptpTouch s))
  | 0x28 => availTouch s
  | 0x29 => ptpTouch s
  | 0x2A => tioWritten s
  | 0x30 => railUpdate (if s.regB R.DRV_CTL 2 then darkEnter s 1 else s)
  | 0x31 => railUpdate s
  | 0x38 => energySeed (meterCalRestore s)
  | 0x51 => tripTouch s
  | _ => if (macCls p).isSome then hbTouch (ptpTouch s) else s

/-- The persisted copy of a page is applied, with its saved EN at a device reset only (R49). -/
def persistApply (s : State) (p : Nat) (withEn : Bool) : State :=
  match pageCopy s p with
  | none => s
  | some r => afterRestore ((copyWrites r.payload).foldl (restoreWord p withEn) (s, 0, [])).1 p

/-- SOFT_RESET of a page (R49): pages HTK and HFL are one block, so the copies of both are applied (R134). -/
def resetPage (s : State) (p : Nat) : State :=
  if p = 0x04 ∨ p = 0x05 then persistApply (persistApply (softReset s p) 0x04 false) 0x05 false
  else
    let t := persistApply (softReset s p) p false
    if p = 0x30 then drvHolds t else t

/-- The engines of an island that runs again are idle from now on (R126). -/
def enginesBack (s : State) (i : Nat) : State :=
  if i = 0 ∨ i = 1 ∨ i = 3 then
    ((List.range 24).filter fun e => (Exec.engine e).islands.contains i).foldl noteIdle s
  else s

/-- ISLAND_RESET_END (R22, R49): the fence reopens, the island's pages take their persisted copies, RST_DONE. -/
def islandResetEnd (s : State) (i : Nat) : State :=
  if !resetOver s i then s
  else
    let l := s.isl
    let s1 : State := { s with isl := { l with up := l.up ||| 2 ^ i, resetAt := sdel l.resetAt i } }
    let s2 := (islandPages i).foldl (fun t p => persistApply t p false) s1
    -- PTP runs again on the ports whose links have returned (R418)
    let s3 := if i = 10 then meterCalRestore s2 else if 4 ≤ i ∧ i ≤ 8 then ptpTouch s2 else s2
    raise (enginesBack s3 i) 0x01 i

/-! Effects of a write on the page header -/

/-- PG_CTL.EN changes (R284, R313, R326). -/
def enWritten (s : State) (p : Nat) : State :=
  let on := s.en p
  if 0x12 ≤ p ∧ p ≤ 0x21 then
    -- the link of a bus goes down with EN: what its MAC holds is dropped (R313, R315)
    ptpTouch (if on then s else if 0x1A ≤ p then macDropAll s p else dropQueue s (p - 0x12))
  else if (macCls p).isSome then hbTouch (ptpTouch s)
  else if p = 0x29 then ptpTouch s
  else if p = 0x2A then tioWritten s
  else if p = 0x30 then (if on then s else darkEnter s 0)
  else s

/-- The effect of a write at a header offset. -/
def headEffect (s : State) (p o req c : Nat) (old v : Word) : State :=
  match o with
  | 0x08 =>
    let s1 := if bit old 0 != bit v 0 then enWritten s p else s
    if bit v 1 then resetPage s1 p else s1
  | 0x10 => evtTouch s p
  | 0x14 => evtTouch s p
  | 0x24 => if bit v 0 then commitPage s p c req else if bit v 1 then discardPage s p else s
  | 0x2C => if bit v 0 then persistSave s p else if bit v 1 then persistForget s p else s
  | _ => s

/-! Effects of a write on a block register -/

/-- CB_CLR (R79). -/
def cbClr (s : State) (mask : Nat) : State := (bitsOf 8 mask).foldl (fun t n => t.setRegF (R.CB_LOSS n) 16 16 0) s

/-- Active software sources change (R556). -/
def swSources (s : State) (sw : Nat) : State :=
  (List.range 16).foldl (fun t b => evtTouch t (0xC0 + b)) { s with evt := { s.evt with sw := sw } }

/-- EVT_SWSET and EVT_SWCLR. -/
def evtSwset (s : State) (v : Nat) : State := swSources s (s.evt.sw ||| v % 65536)
def evtSwclr (s : State) (v : Nat) : State := swSources s (s.evt.sw - (s.evt.sw &&& v))

/-- HTK_FLAGCLR (R101): a READY flow whose wait no longer holds returns to WAITING. -/
def flagClr (s : State) (f m : Nat) : State :=
  let r := s.flow f
  refresh (s.setFlow f { r with flags := r.flags - (r.flags &&& m) }) f

/-- What a sequence stages for an ENQ that was refused (R128): bit 31 is no bit of the register. -/
abbrev refusedEnq : Word := 0x80000001#32

/-- HTK_ENQ_OP.ENQ (R108, R109). -/
def enqueueOp (s : State) (req : Nat) : State := putItem s (bufItem s req)

/-- HTK_FLOWCMD (Table 4-12). -/
def flowCmd (s : State) (v : Nat) : State :=
  let f := v % 256
  match v / 256 % 4 with
  | 1 => flushFlow s f
  | 2 => restartRetry s f
  | 3 => restartDiscard s f
  | _ => s

/-- The flow a requester's flag writes name. -/
def flagFlow (s : State) (req : Nat) : Nat := fld (s.breg req R.HTK_FLAGFLOW) 0 8

/-- Page HTK. -/
def htkEffect (s : State) (req o v : Nat) : State :=
  match o with
  | 0xC0 => if v = 1 then enqueueOp s req else if v = refusedEnq.toNat then refuseGroup s (bufItem s req) else s
  | 0xC8 => postFlags s (flagFlow s req) v
  | 0xCC => flagClr s (flagFlow s req) v
  | 0xD0 => flowCmd s v
  | _ => s

/-- Page FST (Table 5-11). -/
def fstEffect (s : State) (o v : Nat) : State :=
  match o with
  | 0x40 => s.setRegF (R.FST_RXSTAT 0) 16 14 (poolFree s 0)
  | 0x44 => s.setRegF (R.FST_RXSTAT 1) 16 14 (poolFree s 1)
  | 0x5C =>
    let s1 := if v.testBit 0 then fstClrPort s 0 else s
    let s2 := if v.testBit 1 then fstClrPort s1 1 else s1
    if v.testBit 2 then s2.setReg R.FST_ECC 0#32 else s2
  | _ => s

/-- Stream control (R165, Table 5-19): a change of port, layer or format while EN is 1 begins the stream anew. -/
def layEffect (s : State) (o : Nat) (old v : Word) : State :=
  match arrIdx o 0x400 4 0x40 with
  | some i =>
    if bit old 0 && (!bit v 0 || v.toNat % 2 ^ 14 != old.toNat % 2 ^ 14) then streamOff s i
    else if !bit old 0 && bit v 0 then s.setRegF (R.LAY_SCNT i) 0 16 0
    else s
  | none => s

/-- TDM_QARMOP.GO (R245). -/
def armOp (s : State) (req : Nat) : State :=
  let w := s.breg req R.TDM_QARM0
  cueArm s (fld w 0 12) (fld w 12 3) (s.breg req R.TDM_QARM1).toNat (s.breg req R.TDM_QARM2).toNat

/-- CHK_XOP.PUSH and CHK_XOP.FLUSH (R251). -/
def xopPush (s : State) (req : Nat) : State :=
  expPush s (fld (s.breg req R.CHK_XRECT) 0 6) (s.breg req R.CHK_XEP).toNat (s.breg req R.CHK_XCRC).toNat
def xopFlush (s : State) (req : Nat) : State := expFlush s (fld (s.breg req R.CHK_XRECT) 0 6)

/-- PPn_CLR (R287, R275). -/
def ppClrCnt (s : State) (u : Nat) : State :=
  (List.range 9).foldl (fun t k => t.setReg ((0x12 + u) * 0x10000 + 0x60 + 4 * k) 0#32) s
def ppClrCredmin (s : State) (u : Nat) : State := s.setRegF (R.PP_CREDSTAT u) 16 13 (credFree s u)

/-- A push port page. -/
def portEffect (s : State) (u o v : Nat) : State :=
  match o with
  | 0x44 => s.setRegF (R.PP_CREDSTAT u) 16 13 (credFree s u)
  | 0x50 =>
    let s1 := if v.testBit 0 then ppClrCnt s u else s
    if v.testBit 1 then ppClrCredmin s1 u else s1
  | _ => s

/-- MAC_CLR.RINGMIN (R295). -/
def macClrRingmin (s : State) (p : Nat) : State := s.setRegF (R.MAC_RING p) 16 14 (ringFree s p)

/-- The MAC block of a page. -/
def macEffect (s : State) (p o v : Nat) : State :=
  match o with
  | 0x404 => if p = 0x10 ∨ p = 0x11 then pauseCheck s (p - 0x10) else s
  | 0x408 => evtTouch s (macSrc p)
  | 0x40C => evtTouch s (macSrc p)
  | 0x418 => hbTouch (ptpTouch s)
  | 0x424 =>
    let s1 := if v.testBit 0 then macClrCnt s p else s
    if v.testBit 1 then macClrRingmin s1 p else s1
  | _ => s

/-- Pages HB0 and HB1. -/
def hbEffect (s : State) (req n o v : Nat) : State :=
  match o with
  | 0x4C => if v = 1 then hbClr s n else s
  | 0x100 => joinWritten s
  | 0x170 => if v = 1 then eventPop s else s
  | 0x808 => if v = 0 then s else raSend s req n (v.testBit 1)
  | _ => s

/-- Page MIR. -/
def mirEffect (s : State) (o v : Nat) : State :=
  match o with
  | 0x40 => bindWritten s
  | 0x60 =>
    let s1 := if v.testBit 0 then yieldStart s 3 else s
    if v.testBit 1 then resyncReq s1 else s1
  | 0x90 => if v = 1 then mirClr s else s
  | _ => s

/-- CLK_STEPOP (R396). -/
def stepAbsOp (s : State) (req : Nat) : State :=
  let sec := fld (s.breg req R.CLK_STEPSHI) 0 16 * 2 ^ 32 + (s.breg req R.CLK_STEPSLO).toNat
  clkOp s (.stepAbs (sec * 1000000000 + fld (s.breg req R.CLK_STEPNS) 0 30))
def stepRelOp (s : State) (req : Nat) : State :=
  let sec := toSigned 48 (fld (s.breg req R.CLK_STEPSHI) 0 16 * 2 ^ 32 + (s.breg req R.CLK_STEPSLO).toNat)
  clkOp s (.stepRel (sec * 1000000000 + (fld (s.breg req R.CLK_STEPNS) 0 30 : Int)))

/-- A write of CLK_CTL (R393, R398). -/
def clkCtlEffect (s : State) (old v : Word) : State :=
  let s1 := if bit old 0 && !bit v 0 then clkOp s .raw else if !bit old 0 && bit v 0 then availTouch s else s
  if bit v 3 then setValid s1 else s1

/-- Page CLK. -/
def clkEffect (s : State) (req o : Nat) (old v : Word) : State :=
  match o with
  | 0x40 => clkCtlEffect s old v
  | 0x44 => availTouch s
  | 0x50 => clkOp s (.slew (toSigned 32 v.toNat))
  | 0x68 => if bit v 0 then stepAbsOp s req else if bit v 1 then stepRelOp s req else s
  | _ => s

/-- Page DRV. -/
def drvEffect (s : State) (o : Nat) (v : Word) : State :=
  match o with
  | 0x40 => if bit v 2 then darkEnter s 1 else s
  | 0x5C =>
    let s1 := railClear s (fld v 0 4)
    if bit v 4 then s1.setRegB R.DRV_MXSUP 15 false else s1
  | 0x90 => if bit v 0 then drvClr s else s
  | _ => s

/-- Pages MX0 and MX1. -/
def mxEffect (s : State) (n o v : Nat) : State :=
  match o with
  | 0xA4 =>
    let s1 := if v.testBit 0 then mxClearCols s n else s
    if v.testBit 1 then mxClearLines s1 n else s1
  | _ => s

/-- Page UPD. -/
def updCmd (s : State) (v : Nat) : State :=
  match v with
  | 1 => updApply s
  | 2 => updActivate s
  | 4 => updCancel s
  | _ => s

/-- Page SCL. -/
def sclCmd (s : State) (v : Nat) : State :=
  let s1 := if v.testBit 0 then sclAll s else s
  if v.testBit 1 then sclOne s1 (v / 256 % 256) else s1

/-- Page KEY (R511, R512). -/
def keyOp (s : State) (req v : Nat) : State :=
  match v with
  | 1 => keyRead s req
  | 2 => keyWrite s req
  | 4 => keyErase s req
  | _ => s

/-- The effect of a write at a block register of a page, beyond the word it stores. -/
def blockEffect (s : State) (req p o : Nat) (old v : Word) : State :=
  let n := v.toNat
  match p with
  | 0x00 => if o = 0x50 then devReset s n else s
  | 0x01 =>
    if o = 0x40 then islRst s n
    else if o = 0x4C then { s with isl := { s.isl with ftoWrite := s.up } } else s
  | 0x02 => if o = 0x98 then cbClr s n else s
  | 0x03 =>
    if o = 0xA8 then evtSwset s n
    else if o = 0xAC then evtSwclr s n
    else if o = 0xA4 then alertDrive s
    else if (arrIdx o 0x60 8 4).isSome then alertDrive s
    else s
  | 0x04 => htkEffect s req o n
  | 0x06 => if o = 0x40 then engRst s n else if o = 0x54 ∧ n = 1 then engClr s else s
  | 0x08 => fstEffect s o n
  | 0x09 => layEffect s o old v
  | 0x0D => if o = 0x1CC ∧ n = 1 then armOp s req else s
  | 0x0E => if o = 0x6C then (if n = 1 then xopPush s req else if n = 2 then xopFlush s req else s) else s
  | 0x22 => macEffect (hbEffect s req 0 o n) p o n
  | 0x23 => macEffect (hbEffect s req 1 o n) p o n
  | 0x24 => macEffect (mirEffect s o n) p o n
  | 0x28 => clkEffect s req o old v
  | 0x29 => ptpTouch s
  | 0x2A => tioWritten s
  | 0x30 => drvEffect s o v
  | 0x31 => if o = 0x90 then strFclr s 0 n else if o = 0x94 then strFclr s 1 n else s
  | 0x32 => mxEffect s 0 o n
  | 0x33 => mxEffect s 1 o n
  | 0x38 => if o = 0x54 ∧ n.testBit 1 then sealClose s else if o = 0x40 then energySeed s else s
  | 0x3A => if o = 0x70 ∧ n.testBit 0 then snapTake s req else s
  | 0x40 =>
    if o = 0x64 then ackWritten s
    else if o = 0x80 ∧ n = 1 then ckptBegin s
    else if o = 0xA8 ∧ n = 1 then linRead s req
    else s
  | 0x44 => if o = 0x98 ∧ n = 1 then cmdGo s req else s
  | 0x45 => if o = 0xA4 then keyOp s req n else s
  | 0x48 => if o = 0x44 then updCmd s n else s
  | 0x4C => if o = 0x68 then sclCmd s n else s
  | 0x51 => if o = 0x4C then (if n = 1 then thmClr s else s) else if o = 0x48 then tripTouch s else s
  | _ =>
    if 0x12 ≤ p ∧ p ≤ 0x21 then macEffect (portEffect s (p - 0x12) o n) p o n
    else if (macCls p).isSome then macEffect s p o n
    else s

/-! Windows (R54, R55, R615) -/

/-- A window READ loads the entry into the requester's buffer. -/
def winLoad (s : State) (req : Nat) (w : WinD) (i : Nat) : State :=
  let ws := winEntry s req w i
  (List.range w.nd).foldl (fun t k => t.setBreg req (w.page * 0x10000 + w.data + 4 * k) (lget ws k 0#32)) s

/-- A window WRITE puts an entry into its table. -/
def winStore (s : State) (w : WinD) (i c : Nat) (ws : List Word) : State :=
  let t := w.tab
  if t = tHFL then flowWritten (s.setEnt t i ws) i
  else if t = tLAY then layerWritten (s.setEnt t i ws) i (layEn s i)
  else if t = tLAYU then univWritten (s.setEnt t i ws) i (univNum s i)
  else if t = tENGK ∨ t = tENGC then engWritten s t i ws c
  else if t = tSRFT then tileWritten s i ws c
  else if t = tCHKR then rectWritten s i ws
  else if t = tSTR then
    (List.range 3).foldl (fun u k =>
      { u with ctl := { u.ctl with stage := sset u.ctl.stage (strPseudo i k) (lget ws k 0#32) } }) s
  else if t = tSTRV then (railMove s).setEnt t i ws
  else if t = tACC then s.setEntW t i 5 (lget ws 5 0#32)
  else if t = tSCLQ then s.setEntW t i 1 (w32 (fld (lget ws 1 0#32) 0 9))
  else s.setEnt t i ws

/-- The operation bit that a page adds (MAP_OP.CLEAR, HB_TOP.FORGET, UPD_BOP.SUBMIT). -/
def winExtra (s : State) (req : Nat) (w : WinD) (i : Nat) : State :=
  if w.tab = tMAP then s.setEnt tMAP i (entryReset tMAP i)
  else if w.tab = tHBT then forgetSend s i
  else if w.tab = tUPDB then updSubmit s req
  else s

/-- INDEX after an accepted operation under AINC (R615). -/
def winAdvance (s : State) (req : Nat) (w : WinD) : State :=
  let a := w.page * 0x10000 + w.idx
  let v := s.breg req a
  if bit v 31 then s.setBreg req a (setFld v 0 24 (if w.hi ≤ fld v 0 24 then w.lo else fld v 0 24 + 1)) else s

/-- An accepted write to an _OP register. -/
def winOp (s : State) (req c : Nat) (w : WinD) (v : Nat) : State :=
  let i := winIdx s req w
  if v.testBit 0 then winAdvance (winLoad s req w i) req w
  else if v.testBit 1 then winAdvance (winStore s w i c (winBuf s req w)) req w
  else if v.testBit 2 then winAdvance (winExtra s req w i) req w
  else s

/-! A write -/

/-- An accepted write takes effect: the word is stored, and the page or its block acts on it. -/
def applyWrite (s : State) (req c a : Nat) (r : RegD) (v : Word) : State :=
  let p := pageOf a
  let o := offOf a
  match winOfOp a with
  | some w => winOp s req c w v.toNat
  | none =>
    let old := s.reg (homeAddr a)
    -- a rail has moved at the old slew rate until now (R338)
    let s0 := if a = R.DRV_RAIL then railMove s else s
    let s1 := storeWord s0 req a r v
    if o < 0x40 then headEffect s1 p o req c old v else blockEffect s1 req p o old v

end Sys2Proof.Machine
end

