-- ==== Sys2Proof/Machine/Bus.lean ====
section
/-! DEFINITION. A register access on the control bus (chapters 2 and 3): where it ends, what it is rejected for and how
that is recorded, locked sequences and their release, and the reply. -/

namespace Sys2Proof.Machine

/-! Where an access ends -/

/-- The register at an address as this module has it: on a page whose block is not fitted the header alone (R3). -/
def locate (s : State) (a : Nat) : Option (PageD × RegD) :=
  match findPage (pageOf a), findReg (a - a % 4) with
  | some d, some r => if offOf a < 0x40 ∨ s.fitted d.num then some (d, r) else none
  | _, _ => none

/-- Pages served before STARTED, in an activation pause and after a FATAL self-test (R588, R531, R550). -/
def servedPage (s : State) (p : Nat) : Bool :=
  (s.pwr.ready || [0x00, 0x03, 0x40, 0x44, 0x45, 0x4D, 0x50, 0x51].contains p || (p == 0x48 && s.regB R.GNT_BOOT 2)) &&
    (s.upd.pauseAt.isNone || [0x00, 0x03, 0x44, 0x45, 0x48, 0x50, 0x51].contains p) &&
    (!fatal s || [0x00, 0x03, 0x40, 0x44, 0x45, 0x48, 0x4C, 0x4D, 0x50, 0x51].contains p)

/-- Header registers that island 12 answers while a page's island is in reset (R49). -/
def heldHeader (o : Nat) : Bool := [0x00, 0x08, 0x1C, 0x20, 0x28, 0x2C].contains o

/-- An access to an address outside every page is recorded in DEV_UNMAP (R43, Table 2-1). -/
def unmapRecord (s : State) (req a : Nat) : State :=
  if s.regB R.DEV_UNMAP 31 then s else s.setReg R.DEV_UNMAP (w32 (a % 2 ^ 24 + req * 2 ^ 24 + 2 ^ 31))

/-- A rejected access is recorded on its page (R47, Tables 2-6 and 2-9). -/
def rejectRecord (s : State) (req p o : Nat) (e : Err) : State :=
  let a := R.PG_ERR p
  let s1 := if s.regB a 31 then s.setRegB a 28 true
    else s.setReg a (w32 (e.code + o * 256 + req * 2 ^ 24 + 2 ^ 31))
  raise s1 p 31

/-- What the bus finds before a register is asked: an end with its status, or the register. -/
inductive Found where
  | ends (s : State) (status : Nat)
  | reg (d : PageD) (r : RegD)
  deriving Repr

/-- UNMAPPED and ALIGN, pages not served (R616), and islands in reset (R20). -/
def findTarget (s : State) (req a : Nat) : Found :=
  if !s.islUp 12 then .ends (abortCount s 12 1) 0x40
  else match locate s a with
    | none =>
      if (findPage (pageOf a)).isSome && decide (a % 0x10000 < 0x1000) then
        .ends (rejectRecord s req (pageOf a) (offOf a) .unmapped) Err.unmapped.code
      else .ends (unmapRecord s req a) Err.unmapped.code
    | some (d, r) =>
      if a % 4 ≠ 0 then .ends (rejectRecord s req d.num (offOf a) .align) Err.align.code
      else if !servedPage s d.num then .ends s Err.busy.code
      else if s.fitted d.num && !s.islUp d.isl && !heldHeader (offOf a) then .ends (abortCount s d.isl 1) 0x40
      else .reg d r

/-! Accepted writes -/

/-- The time a requester's commit counts from: a mirrored one keeps the time it had at the active (R453). -/
def commitTime (s : State) (req : Nat) : Nat := if req = 4 then s.pair.mirTime.getD (nowNs s) else nowNs s

/-- PG_SEQ counts an accepted write (R48). -/
def countWrite (s : State) (p : Nat) : State := s.setReg (R.PG_SEQ p) (w32 ((s.reg (R.PG_SEQ p)).toNat + 1))

/-- A write takes effect: counted, applied and mirrored (R48, R452). -/
def takeWrite (s : State) (req c a : Nat) (r : RegD) (v : Word) : State :=
  mirWrite (applyWrite (countWrite s (pageOf a)) req c a r v) a v

/-- An access to a table in the frame-store DRAM while island 3 is in reset (R20, R565). -/
def dramDown (s : State) (a : Nat) (v : Word) : Bool :=
  match winOfOp a with
  | some w => v != 0#32 && dramTab w.tab && !s.islUp 3
  | none => false

/-- An accepted write takes effect, or meets the fence of the island that holds its table: RESET_ABORT, and no effect. -/
def takeFenced (s : State) (req c a : Nat) (r : RegD) (v : Word) : State × Nat :=
  if dramDown s a v then (abortCount s 3 1, 0x40) else (takeWrite s req c a r v, 0)

/-- One staged write of a sequence takes effect; the fence of an island in reset answers it with RESET_ABORT (R20). -/
def takeStaged (s : State) (req c : Nat) (w : Nat × Word) : State :=
  match locate s w.1 with
  | some (d, r) =>
    if s.fitted d.num && !s.islUp d.isl && !heldHeader (offOf w.1) then abortCount s d.isl 1
    else (takeFenced s req c w.1 r w.2).1
  | none => s

/-! Locked sequences (3.5) -/

/-- Staged writes that a view of the sequence leaves aside: commits, and commands that reset. -/
def viewSkips (a : Nat) : Bool := offOf a == 0x24 || a == R.DEV_RESET || a == R.ISL_RST

/-- The module as a requester's own staged writes would leave it (R85, R86). -/
def seqView (s : State) (req : Nat) : State :=
  match sget s.ctl.seqs req with
  | none => s
  | some q => (q.writes.filter fun w => !viewSkips w.1).foldl (fun t w =>
      match locate t w.1 with
      | some (_, r) => applyWrite t req (commitTime s req) w.1 r w.2
      | none => t) s

/-- PG_LOCK.ACQ (R83): the first acquisition begins the sequence. -/
def lockAcquire (s : State) (req p : Nat) : State :=
  let q : LockSeq := match sget s.ctl.seqs req with
    | none => ⟨s.up, s.regF R.CB_HOLD 16 16, [p], []⟩
    | some q => if q.pages.contains p then q else { q with pages := q.pages ++ [p] }
  { s with ctl := { s.ctl with seqs := sset s.ctl.seqs req q } }

/-- Stage a write of a sequence (R85); PG_COMMIT.DISCARD removes the sequence's writes to the page (R89). -/
def stageWrite (s : State) (req a : Nat) (v : Word) : State :=
  match sget s.ctl.seqs req with
  | none => s
  | some q =>
    let ws := if offOf a = 0x24 ∧ fld v 0 2 = 2 then q.writes.filter fun w => pageOf w.1 != pageOf a
      else q.writes ++ [(a, v)]
    { s with ctl := { s.ctl with seqs := sset s.ctl.seqs req { q with writes := ws } } }

/-- A page commits in a sequence. -/
def commitsPage (q : LockSeq) (p : Nat) : Bool := q.writes.any fun w => w.1 == R.PG_COMMIT p && bit w.2 0

/-- Why a release fails (R87): the error, the page that holds the cause and the offset it records. -/
def releaseFault (s : State) (req : Nat) (q : LockSeq) : Option (Err × Nat × Nat) :=
  let frozen := q.pages.filterMap fun p =>
    (q.writes.find? fun w => decide (pageOf w.1 = p) && freezeHits s w.1 w.2).map fun w => (p, offOf w.1)
  match frozen with
  | x :: _ => some (.protect, x.1, x.2)
  | [] =>
    let t := seqView s req
    let ps := q.pages.filter (commitsPage q)
    let ws := t.ctl.stage.filter fun e => ps.contains (pageAt e.1)
    ps.findSome? fun p => (jointBroken t p ws).map fun o => (.state, p, o)

/-- Every staged write of a sequence applies in order, then each page that commits commits, then the locks are released
(R87, R88); a device reset takes effect last. -/
def releaseApply (s : State) (req : Nat) (q : LockSeq) : State :=
  let c := commitTime s req
  let isCommit (w : Nat × Word) : Bool := offOf w.1 == 0x24
  let s1 := { s with ctl := { s.ctl with seqs := sdel s.ctl.seqs req } }
  let s2 := (q.writes.filter fun w => !isCommit w && w.1 != R.DEV_RESET).foldl (fun t w => takeStaged t req c w) s1
  let s3 := (q.writes.filter isCommit).foldl (fun t w => takeStaged t req c w) s2
  (q.writes.filter fun w => w.1 == R.DEV_RESET).foldl (fun t w => takeStaged t req c w) s3

/-- PG_LOCK.REL of a page that is held (R87): the state and the status. -/
def lockRelease (s : State) (req : Nat) : State × Nat :=
  match sget s.ctl.seqs req with
  | none => (s, 0)
  | some q =>
    match releaseFault s req q with
    | some (e, p, o) => (rejectRecord s req p o e, e.code)
    | none => (releaseApply s req q, 0)

/-! Accesses -/

/-- A rejected write: recorded; a refused enqueue also acts on its ATOMIC flow (R128), in a sequence when that is released,
after the items that were staged before it. `t` is the module as the requester's own sequence would leave it (R85). -/
def rejectWrite (s t : State) (req a : Nat) (d : PageD) (v : Word) (e : Err × Nat) : State :=
  let s1 := rejectRecord s req d.num e.2 e.1
  if a = 0x0400C0 ∧ v = 1#32 ∧ (htkErrors t req 0xC0 1).contains e then
    if holds s req d.num then stageWrite s1 req a refusedEnq else refuseGroup s1 (bufItem t req)
  else s1

/-- A register write by a requester where every sequence whose hold limit has come is aborted: the state and the status
of Table 2-15. -/
def busWriteAt (s : State) (req a : Nat) (v : Word) : State × Nat :=
  match findTarget s req a with
  | .ends s1 st => (s1, st)
  | .reg d r =>
    let seq := holds s req d.num
    let view := if seq then seqView s req else s
    match firstError (writeErrors s view req a d r v) with
    | some e => (rejectWrite s view req a d v e, e.1.code)
    | none =>
      if offOf a = 0x20 then
        if bit v 0 then (lockAcquire s req d.num, 0)
        else if bit v 1 then lockRelease s req
        else (s, 0)
      else if seq then (stageWrite s req a v, 0)
      else takeFenced s req (commitTime s req) a r v

/-- A register write by a requester: the state and the status of Table 2-15. -/
def busWrite (s : State) (req a : Nat) (v : Word) : State × Nat := busWriteAt (locksDue s) req a v

/-- Some field of a register takes a written value. -/
def writableReg (r : RegD) : Bool := r.fields.any fun f => f.acc == .rw || f.acc == .st || f.acc == .rw1c

/-- A register read by a requester where every sequence whose hold limit has come is aborted: the state, the status and
the word. The owner of a lock reads what it has staged (R86). -/
def busReadAt (s : State) (req a : Nat) : State × Nat × Word :=
  match findTarget s req a with
  | .ends s1 st => (s1, st, 0#32)
  | .reg d r =>
    let t := if holds s req d.num && writableReg r then seqView s req else s
    (readTouch s req a, 0, readWord t req a)

/-- A register read by a requester: the state, the status and the word. -/
def busRead (s : State) (req a : Nat) : State × Nat × Word := busReadAt (locksDue s) req a

/-- The island that answers an access launches a reply (R17, R563). -/
def noteReply (s : State) (a : Nat) : State :=
  match findPage (pageOf a) with
  | some d => { s with isl := { s.isl with lastReply := sput s.isl.lastReply d.isl s.up 0 } }
  | none => s

/-- A write that a block makes as its requester in the course of a command: the state and the status. Its reply ends the
tenure that covered it (R81) and restarts the fence's timer (R563). -/
def issue (s : State) (req a : Nat) (v : Word) : State × Nat :=
  let r := busWrite s req a v
  let t := noteReply r.1 a
  ({ t with arb := { t.arb with owner := if t.arb.owner = some req then none else t.arb.owner } }, r.2)

/-- A register write, with its reply. -/
def busWriteR (s : State) (req a : Nat) (v : Word) : State :=
  let r := busWrite s req a v
  reply (noteReply r.1 a) req r.2 []

/-- A register read, with its reply. -/
def busReadR (s : State) (req a : Nat) : State :=
  let r := busRead s req a
  reply (noteReply r.1 a) req r.2.1 (if r.2.1 = 0 then [r.2.2] else [])

end Sys2Proof.Machine
end

