-- ==== Sys2Proof/Machine/FrameRx.lean ====
section
/-! DEFINITION. A frame received by a MAC (9.2): the checks of Table 9-2 in order, its count, and the forwarding of a
Ryuward frame that is for another module. What a client does with a frame handed to it is the command of its message. -/

namespace Sys2Proof.Machine

/-- The EtherType of a frame on the line: a SecTAG's own where it carries one (R301). -/
def RxFrame.outer (f : RxFrame) : Nat := if f.sec.isSome then 0x88E5 else etherType f.bytes

/-- A giant's length (R290). -/
def rxLimit (s : State) (pg : Nat) (f : RxFrame) : Nat :=
  macMtu s pg + 18 + (if tagged f.bytes then 4 else 0) + (if f.sec.isSome then 32 else 0)

/-- Destination addresses a MAC accepts (R294). Ryuward and Cuff frames go to the broadcast address. -/
def destOk (s : State) (pg : Nat) (f : RxFrame) : Bool :=
  let d := beAt f.bytes 0 6
  let c := macCls pg
  d == macAddr s pg || d == 0xFFFFFFFFFFFF || d == 0x0180C2000001 ||
    (d == 0x0180C2000003 && (c == some .up || c == some .pp || c == some .hb)) ||
    ((d == 0x011B19000000 || d == 0x0180C200000E) && c != some .up) ||
    (c == some .up && d / 2 ^ 40 % 2 == 1 && f.hash)

/-- VLAN tags (R292). -/
def vlanOk (s : State) (pg : Nat) (b : List Byte) : Bool :=
  !tagged b || (macCls pg == some .up && s.regF (R.MAC_CFG pg) 20 12 != 0 && beAt b 14 2 % 4096 == s.regF (R.MAC_CFG pg) 20 12)

/-- Ryuward types (Table 13-2). -/
def ryuTypes : List Nat := [1, 2, 3, 4, 5, 6, 7, 8, 0x10, 0x20, 0x21, 0x30, 0x31]

/-- A Ryuward frame of a port, by its EtherType. -/
def isRyu (s : State) (pg : Nat) (b : List Byte) : Bool :=
  macCls pg == some .hb && etherType b == s.regF (R.HB_CTL 0) 16 16

/-- EtherType, version and type of check 7 (Table 9-3, R420, Table 14-2). -/
def typeOk (s : State) (pg : Nat) (b : List Byte) : Bool :=
  let e := etherType b
  let x := etherPayload b
  let ver := beAt x 0 1 == 1
  let typ := beAt x 1 1
  vlanOk s pg b && match macCls pg with
  | some .up => [0x0800, 0x86DD, 0x0806, 0x888E].contains e
  | some .pp | some .bb =>
    e == 0x88F7 || (e == s.regF (R.PP_CFG (pg - 0x12)) 0 16 && ver && [3, 5, 7, 9].contains typ)
  | some .hb => e == 0x88F7 || e == 0x888E || (isRyu s pg b && ver && ryuTypes.contains typ)
  | some .mir =>
    e == 0x88F7 || e == 0x888E || (e == cuffType s && ver && decide (1 ≤ typ) && decide (typ ≤ 9))
  | none => false

/-- The fencing epoch a frame carries where check 8 applies to it (R293, R435, R449). -/
def frameFence (s : State) (pg : Nat) (b : List Byte) : Option Nat :=
  let e := etherType b
  let x := etherPayload b
  let typ := beAt x 1 1
  match macCls pg with
  | some .pp | some .bb => if e = s.regF (R.PP_CFG (pg - 0x12)) 0 16 then some (beAt x 4 4) else none
  | some .hb =>
    if !isRyu s pg b then none
    else if typ = 8 then some (beAt x 6 4)
    else if typ = 2 ∧ beAt x 24 1 % 2 = 1 ∧ svcAddr s ≠ 0 ∧ beAt x 3 1 = svcAddr s then some (beAt x 26 4)
    else none
  | some .mir => if e = cuffType s then some (beAt x 4 4) else none
  | _ => none

/-- The frame finds no buffer (check 9, R295). -/
def noRing (s : State) (pg : Nat) (f : RxFrame) : Bool := decide (ringFree s pg < frameBufs f.bytes.length)

/-- The client returns the buffers of the frames it has done with, in ring order (R295). -/
def ringReturn (s : State) (pg n : Nat) : State := s.setMac pg { s.mac pg with ring := (s.mac pg).ring.drop n }

/-- Destination address and port of a frame's UDP datagram, over IPv4 or IPv6. -/
def udpOf (b : List Byte) : Option (List Byte × Nat) :=
  let x := etherPayload b
  if etherType b = 0x0800 ∧ beAt x 9 1 = 17 ∧ beAt x 6 2 % 8192 = 0 then
    some ((x.drop 16).take 4, beAt x (beAt x 0 1 % 16 * 4 + 2) 2)
  else if etherType b = 0x86DD ∧ beAt x 6 1 = 17 then some ((x.drop 24).take 16, beAt x 42 2)
  else none

/-- SSRC, extended sequence number and timestamp of the RTP packet in a frame's UDP datagram (R165, R166, R171): RTP's fixed
header and the RFC 4175 payload header that Table 5-6 names (DEDUCED, log 135). -/
def rtpOf (b : List Byte) : Nat × Nat × Nat :=
  let x := etherPayload b
  let p := if etherType b = 0x0800 then x.drop (beAt x 0 1 % 16 * 4 + 8) else x.drop 48
  let h := 12 + beAt p 0 1 % 16 * 4
  let e := if beAt p 0 1 / 16 % 2 = 1 then 4 + beAt p (h + 2) 2 * 4 else 0
  (beAt p 8 4, beAt p (h + e) 2 * 65536 + beAt p 2 2, beAt p 4 4)

/-- The destination address of a stream (Table 5-19). -/
def streamAddr (s : State) (i : Nat) : List Byte :=
  let a := ((List.range 4).map fun k => beBytes 4 (s.reg (R.LAY_SADDR0 i + 4 * k)).toNat).flatten
  if s.regB (R.LAY_SCTL i) 15 then a else a.drop 12

/-- The enabled stream of U port `u` that a destination port and address name (Table 5-1, Table 5-19). -/
def streamAt (s : State) (u port : Nat) (a : List Byte) : Option Nat :=
  (List.range 4).find? fun i => s.regB (R.LAY_SCTL i) 0 && s.regF (R.LAY_SCTL i) 1 1 == u &&
    s.regF (R.LAY_SCTL i) 16 16 == port && streamAddr s i == a

/-- The row of Table 5-1 that a frame accepted by U port `u` matches, in order (R139); rows 2 to 4 only while pages FST and
LAY are enabled (R620). -/
def rowOf (s : State) (u : Nat) (f : RxFrame) : Nat :=
  let e := etherType f.bytes
  let ip := if [0x0800, 0x86DD, 0x0806, 0x888E].contains e then 5 else 6
  match udpOf f.bytes with
  | none => ip
  | some (a, port) =>
    if port = 319 ∨ port = 320 then 1
    else if !(s.en 0x08 && s.en 0x09) then ip
    else if (streamAt s u port a).isSome then 2
    else if s.regB R.LAY_PIN (16 + u) && port == s.regF R.LAY_PIN 0 16 && f.own then 3
    else if s.regB R.LAY_E131CTL u && port == 5568 then 4
    else ip

/-- An ingest parser takes the frame, into its port's pool (R140). -/
def toParser (s : State) (pg : Nat) (f : RxFrame) : Bool :=
  macCls pg == some .up && [2, 3, 4].contains (rowOf s (pg - 0x10) f)

/-- A frame for a parser finds too few buffers (R143): an ST 2110 packet among them is lost to its frame (R177). -/
def parserDrop (s : State) (u : Nat) (f : RxFrame) : State :=
  let s1 := noBuf s u
  match if rowOf s u f = 2 then (udpOf f.bytes).bind fun x => streamAt s u x.2 x.1 else none with
  | some i => streamLost s1 i (rtpOf f.bytes).1 (rtpOf f.bytes).2.1 (rtpOf f.bytes).2.2
  | none => s1

/-- Checks 1 to 5 (Table 9-2): the state and whether the frame goes on. -/
def rxOuter (s : State) (pg : Nat) (f : RxFrame) : State × Bool :=
  if f.len < 64 then (s.count (R.MAC_RXRUNT pg) 0 32 1, false)
  else if rxLimit s pg f < f.len then (s.count (R.MAC_RXGIANT pg) 0 32 1, false)
  else if !f.fcs then (s.count (R.MAC_RXFCS pg) 0 32 1, false)
  else if !destOk s pg f then (s.count (R.MAC_RXFILT pg) 0 32 1, false)
  else if f.outer = 0x8808 then
    let x := etherPayload f.bytes
    if beAt x 0 2 = 1 then (pauseReceive s pg (beAt x 2 2), false) else (s.count (R.MAC_RXETYPE pg) 0 32 1, false)
  else (s, true)

/-- Checks 6 to 9: the state and whether the frame is accepted. -/
def rxInner (s : State) (pg : Nat) (f : RxFrame) : State × Bool :=
  let guarded := strict s pg && f.outer != 0x888E && f.outer != 0x8808
  if guarded && !secOk s pg f.sec then (s.count (R.MAC_RXAUTH pg) 0 32 1, false)
  else
    let s1 := if guarded then secAccept s pg f.sec else s
    if !typeOk s pg f.bytes || (!guarded && f.sec.isSome) then (s1.count (R.MAC_RXETYPE pg) 0 32 1, false)
    else if (match frameFence s pg f.bytes with | some e => decide (e < fence s) | none => false) then
      (s1.count (R.MAC_RXFENCE pg) 0 32 1, false)
    else if toParser s pg f then
      if poolFree s1 (pg - 0x10) < frameBufs f.bytes.length then
        (parserDrop s1 (pg - 0x10) f, false)
      else (s1.count (R.MAC_RXOK pg) 0 32 1, true)
    else if noRing s1 pg f then
      (raiseMac ((s1.count (R.MAC_RXNOBUF pg) 0 32 1).setRegF (R.MAC_RING pg) 16 14 0) pg 3, false)
    else
      let s2 := s1.setMac pg { s1.mac pg with ring := (s1.mac pg).ring ++ [⟨frameBufs f.bytes.length, f.sfd, (s1.mac pg).rxTs⟩] }
      ((s2.setRegF (R.MAC_RING pg) 16 14 (min (s2.regF (R.MAC_RING pg) 16 14) (ringFree s2 pg))).count (R.MAC_RXOK pg) 0 32 1, true)

/-- The receive timestamp (R305): corrected by the calibrated ingress delay; on a B port that of the handler, for PTP
frames (R307). -/
def rxStamp (s : State) (pg : Nat) (f : RxFrame) : State :=
  match calIndex pg with
  | some k => s.setMac pg { s.mac pg with rxTs := ((f.sfd : Int) - calDelay s (0x10 + k)).toNat }
  | none =>
    if etherType f.bytes = 0x88F7 then
      s.setMac pg { s.mac pg with rxTs := nowNs s - f.len * 800 - s.regF (R.MAC_SWLAT pg) 0 12 }
    else s

/-- Preamble and SFD, 8 bytes of line time in whole ns. -/
def preambleNs (s : State) (pg : Nat) : Nat := if s.regF (R.MAC_CFG pg) 14 2 = 0 then 3 else 6

/-- A transmission begins: the transmit timestamp is that of the SFD, to 1 ns within the tick (R410), corrected by the
calibrated egress delay (R305). -/
def txStart (s : State) (pg : Nat) (med : Medium) : State :=
  let s1 := frameTxStart s pg med
  match txBusy s pg, txBusy s1 pg, calIndex pg with
  | false, true, some k =>
    s1.setMac pg { s1.mac pg with txTs := (((nowNs s + med.sub + preambleNs s pg : Nat) : Int) + calDelay s k).toNat }
  | _, _, _ => s1

/-- A transmission ends: on a B port the handler refers the time of a PTP frame to its SFD (R307); the time island learns when
a Sync or Delay_Req left (R306). -/
def txEnd (s : State) (pg : Nat) : State :=
  let f := (s.mac pg).tx
  let w := match f with | some x => x.bytes | none => (s.mac pg).wire
  let s1 := if isBus pg && txBusy s pg && etherType w == 0x88F7 then
      s.setMac pg { s.mac pg with txTs := nowNs s - (w.length + 4) * 800 - s.regF (R.MAC_SWLAT pg) 0 12 }
    else s
  let s2 := frameTxEnd s1 pg
  let s3 := match f.bind (·.ptp) with
    | some (typ, seq) => ptpLeft s2 pg typ seq (s2.mac pg).txTs
    | none => s2
  if macCls pg = some .hb ∧ txBusy s pg then raLeft s3 w else s3

/-- FRAME_RECEIVE: the checks, and a Ryuward frame for another module is forwarded (R423). -/
def frameReceive (s : State) (pg : Nat) (f : RxFrame) : State :=
  if !linkUp s pg then s
  else
    let r := rxOuter (ringReturn (rxStamp s pg f) pg f.back) pg f
    if !r.2 then r.1
    else
      let q := rxInner r.1 pg f
      let x := etherPayload f.bytes
      let dst := beAt x 2 1
      if q.2 && isRyu s pg f.bytes && dst != 0 && dst != 255 && !ryuMine s dst then
        (ryuArrive q.1 (pg - 0x22) ⟨beAt x 1 1, dst, beAt x 3 1, beAt x 4 2, x.drop 6⟩).1
      else q.1

end Sys2Proof.Machine
end

