-- ==== Sys2Proof/Machine/Settle.lean ====
section
/-! DEFINITION. What follows from a step in other blocks before the next command: the effects of items that left the
Hatrack without completing, conditions that have begun or ended, and the items whose executors use the control bus. -/

namespace Sys2Proof.Machine

/-! Items that left the Hatrack without completing -/

/-- The effect on its block of an item that left without completing: a RENDER closes its place in its epoch (R241, R243),
a PUSH that expired or failed is missed (R279, R131), a CHECK that expired is SKIPPED (R253), frames of an INGEST_FIX are released (R142,
R177), quanta of a METER_FOLD are covered anew (R372), a LINING_APPEND keeps or loses its record, a CAL_STEP abandons its
calibration (R542), and a CUE lost with island 2 sets CUE_LOST (R259). -/
def dropEffect (s : State) (d : Drop) (i : Item) : State :=
  let k := i.kind
  if k = kRender then (
    if i.mach then renderLost s (i.f 6 0 6) (i.f 6 8 16) (i.word 10).toNat (d == .held)
    else hostRenderLost s (i.f 6 8 16) (i.word 10).toNat)
  else if k = kPush then (if d = .expired then pushExpired s i else if d = .failed then pushMissed s i else s)
  else if k = kCheck then (if d = .expired then chkExpired s i else s)
  else if k = kIngest then (if d = .held then s else ingestDropped s i)
  else if k = kAppend then appendDropped s d i
  else if k = kCal then (if d = .held then s else calDropped s i)
  else if k = kCue then (if d = .lost then raise s 0x0D 4 else s)
  else s

/-- Make the effects of dropped items in order; an effect may drop further items. -/
def settleDrops : Nat → State → State
  | 0, s => s
  | fuel + 1, s =>
    match s.htk.dropped with
    | [] => s
    | (d, i) :: rest => settleDrops fuel (dropEffect { s with htk := { s.htk with dropped := rest } } d i)

/-- Writes that the management firmware makes as requester 0, as a host could (12.2); while it waits for the reply to a
cut-off access it issues none (R81). -/
def mgmtWrites (s : State) (ws : List (Nat × Word)) : State :=
  if s.arb.waiting.testBit 0 then { s with ctl := { s.ctl with later := s.ctl.later ++ ws } }
  else ws.foldl (fun t w => (issue t 0 w.1 w.2).1) s

/-- What the time island has done, and then the writes that the firmware makes of it. -/
def firmwareActs (r : State × List (Nat × Word)) : State := mgmtWrites r.1 r.2

/-- The firmware writes NORMAL when a selected source first becomes available (R393), once no requester holds page CLK; where
the clock is NORMAL by then, or the servo is the host's, it has nothing to write, then or later. -/
def normalTouch (s : State) : State :=
  if s.clkr.normalSet || (bestSource s).isNone then s
  else if !firmware s || clkNormal s then { s with clkr := { s.clkr with normalSet := true } }
  else if !s.arb.waiting.testBit 0 && s.islUp 9 && !((List.range 8).any fun q => holds s q 0x28) then
    let r := issue s 0 R.CLK_CTL (s.reg R.CLK_CTL ||| 1#32)
    if r.2 = 0 then { r.1 with clkr := { r.1.clkr with normalSet := true } } else s
  else s

/-- Conditions that hold or have ended are noted: an alert that waited for its pause, Hatband ports, reclaim, self-diagnosis, an apply under way, an orderly
reset, a waiting append, and the data set that instances H and N announce. -/
def touches (s : State) : State :=
  let s1 := alertDrive (gmTouch (normalTouch (appendSettle (calmCheck (orderlyTouch (updTouch (diagTouch (fitTouch (hbTouch s)))))))))
  s1.setRegF (R.PG_STAT 0x29) 16 8 (announceData s1).cls

/-- After a step. -/
def settle (s : State) : State := touches (settleDrops 1048576 s)

/-! Cues (7.7) -/

/-- The actions of a cue (R244): address and value. -/
def cueActions (s : State) (cue : Nat) : List (Nat × Word) :=
  (List.range (s.entF tTDMQ cue 0 8 7)).map fun k =>
    let a := s.entF tTDMQ cue 1 0 16 + k
    (s.entF tTDMA a 0 0 24, s.entW tTDMA a 1)

/-- Write in order as requester 5 up to the first write that is not done: the state, and whether all were. -/
def cueWrites : State → List (Nat × Word) → State × Bool
  | s, [] => (s, true)
  | s, w :: ws =>
    let r := issue s 5 w.1 w.2
    if r.2 = 0 then cueWrites r.1 ws else (r.1, false)

/-- Insert a page in ascending order, once. -/
def insertPage (p : Nat) : List Nat → List Nat
  | [] => [p]
  | q :: qs => if p < q then p :: q :: qs else if p = q then q :: qs else q :: insertPage p qs

/-- A cue with LOCK = 1 (R247). -/
def cueLocked (s : State) (ws : List (Nat × Word)) : State × Bool :=
  let pages := ws.foldl (fun ps w => insertPage (pageOf w.1) ps) []
  let lock (p : Nat) : Nat × Word := (R.PG_LOCK p, 1#32)
  -- release the pages held, if any
  let free (t : State) : State := match pages.find? fun p => holds t 5 p with
    | none => t
    | some p => (issue t 5 (R.PG_LOCK p) 2#32).1
  if pages = [] then (s, true)
  else if 4 < pages.length then (s, false)
  else
    let q := cueWrites s (pages.map lock)
    if !q.2 then (free q.1, false)
    else
      let r := cueWrites q.1 ws
      let rel := issue r.1 5 (R.PG_LOCK (pages.headD 0)) 2#32
      if r.2 && rel.2 == 0 then (rel.1, true)
      else
        let back := if r.2 then rel.1 else r.1
        (free (cueWrites back (pages.map fun p => (R.PG_COMMIT p, 2#32))).1, false)

/-- CUE_RUN (R246-R248): a rejected write ends the cue with error status. It waits for the reply to a cut-off access (R81). -/
def cueRun (s : State) : State :=
  match (if s.arb.waiting.testBit 5 then none else svcOf s .cue) with
  | none => s
  | some v =>
    let cue := v.item.f 6 0 12
    if s.entF tTDMQ cue 0 0 1 = 0 then cueChain (completeItem s v) v.item
    else
      let ws := cueActions s cue
      let r := if s.entF tTDMQ cue 0 1 1 = 1 then cueLocked s ws else cueWrites s ws
      if r.2 then cueChain (completeItem r.1 v) v.item else failItem r.1 v 2

/-! Self-test items (18.5) -/

/-- TEST_COMPLETE (R552): an engine to be isolated is taken out of HTK_ENG by requester 7, which first waits for the reply to a
cut-off access (R81). -/
def testEnd (s : State) (eng crc : Nat) : State :=
  let r := testComplete s eng crc
  if s.arb.waiting.testBit 7 then s
  else if !r.2 then r.1
  else
    let v := (r.1.reg R.HTK_ENG).toNat
    let w := issue r.1 7 R.HTK_ENG (w32 (v - (v &&& 2 ^ eng)))
    if w.2 = 0 then raise w.1 0x4D 1 else w.1

/-! Completion in general -/

/-- A DRAM without errors. -/
def noUe : Ue := ⟨[], [], [], [], [], 0⟩

/-- ITEM_COMPLETE: the executor of an item in service reports its status (R103, R131): error status fails the item; with
status done the item's own completion follows, with no DRAM error, a matching vector and `result` for a calibration run. -/
def itemComplete (s : State) (x : Exec) (error : Bool) (result : Int) : State :=
  match svcOf s x with
  | none => s
  | some v =>
    if error then failItem s v 2
    else
      let k := v.item.kind
      match x with
      | .engine e =>
        if k = kRender then renderComplete s e noUe
        else if k = kCheck then checkComplete s e
        else if k = kIngest then ingestFixComplete s e
        else if k = kTest then testEnd s e (v.item.word 7).toNat
        else completeItem s v
      | .framer p => if p = 16 then lPushRead s else if k = kPoll then nodePoll s p else pushHandoff s p
      | .fold => foldComplete s
      | .lining => appendComplete s 0
      | .cal => calStepComplete s (some result)
      | .cue => cueRun s

/-- EXECUTOR_FAULT (R129): an engine's fault resets it. -/
def execFault (s : State) (x : Exec) : State :=
  match svcOf s x with
  | none => s
  | some v =>
    match x with
    | .engine e => engReset s e 1
    | _ => faultItem s v

/-- ITEM_WATCHDOG (R133): an item in service for HTK_WDOG.LIMIT µs resets its executor and counts as a fault. -/
def itemWatchdog (s : State) (x : Exec) : State :=
  match svcOf s x with
  | none => s
  | some v =>
    if !elapsed s v.start (s.regF R.HTK_WDOG 0 16 * 1000) then s
    else
      let s1 := raise s 0x04 6
      match x with
      | .engine e => engReset s1 e 2
      | _ => faultItem s1 v

end Sys2Proof.Machine
end

