-- ==== Sys2Proof/WellFormed.lean ====
section
/-! DEFINITION. Well-formed commands: operands lie in the ranges of their wire forms and name pages, ports and units that
the module has. An event whose operands do not is no event of this module. -/

namespace Sys2Proof

open Machine

/-- A requester (Table 3-1). -/
def okReq (r : Nat) : Bool := decide (r < 8)

/-- An address of the control bus (R39). -/
def okAddr (a : Nat) : Bool := decide (a < 2 ^ 24)

/-- A page of Table 2-19. -/
def okPage (p : Nat) : Bool := (findPage p).isSome

/-- An island (Table 1-1). -/
def okIsl (i : Nat) : Bool := decide (i < 14)

/-- A page with a MAC, with a bus, and with a cage (chapter 9). -/
def okMac (p : Nat) : Bool := (macCls p).isSome
def okBus (p : Nat) : Bool := decide (0x1A ≤ p) && decide (p ≤ 0x21)
def okCage (p : Nat) : Bool := (decide (0x10 ≤ p) && decide (p ≤ 0x19)) || (decide (0x22 ≤ p) && decide (p ≤ 0x24))

/-- A medium on which carrier returns only after it has dropped. -/
def okMedium (m : Medium) : Bool :=
  decide (m.sub < 8) && match m.rise with | some r => decide (m.drop ≤ r) | none => true

/-- A push port: 0–7 P0–P7, 8–15 B0–B7; one of two; one of four; one of 21 PTP ports. -/
def okPort (u : Nat) : Bool := decide (u < 16)
def okHb (p : Nat) : Bool := decide (p < 2)
def okDom (d : Nat) : Bool := decide (d < 4)
def okPtp (p : Nat) : Bool := decide (p < 21)

/-- A flow, an engine, an executor, a calibration quantity. -/
def okFlow (f : Nat) : Bool := decide (f < 256)
def okEng (e : Nat) : Bool := decide (e < 24)
def okExec : Exec → Bool
  | .engine n => okEng n
  | .framer p => decide (p ≤ 16)
  | .fold | .lining | .cal | .cue => true
def okQty (q : Nat) : Bool := decide (q < 0x36)

/-- A field of 32 bits, a serial number, a MAC address, a node address, a universe. -/
def okW32 (n : Nat) : Bool := decide (n < 2 ^ 32)
def okSerial (n : Nat) : Bool := decide (n < 2 ^ 64)
def okMacAddr (n : Nat) : Bool := decide (n < 2 ^ 48)
def okNode (n : Nat) : Bool := decide (n < 2 ^ 16)
def okUniverse (n : Nat) : Bool := decide (1 ≤ n) && decide (n ≤ 63999)

/-- Byte strings of a fixed length, and a datagram with the length of its frame. -/
def okBytes (n : Nat) (b : List Byte) : Bool := b.length == n
def okLen (len : Nat) (m : List Byte) : Bool := decide (m.length ≤ len) && decide (len < 2 ^ 16)

/-- A burst of 1 to `n` words. -/
def okBurst (n : Nat) (ws : List Word) : Bool := decide (1 ≤ ws.length) && decide (ws.length ≤ n)

/-- A cut-off leaves the word in progress to complete (R81). -/
def okCut (c : Option Nat) : Bool := c != some 0

/-- A command byte that Table 2-15 does not list. -/
def okHostUnknown (c : Byte) : Bool := c != 0x02#8 && c != 0x03#8 && c != 0x0B#8 && c != 0x0C#8

/-- The header of a Ryuward frame with a destination other than 0 (Table 13-1), and of a register access (Table 2-18). -/
def okRyu (dst src id : Nat) : Bool := decide (1 ≤ dst) && decide (dst < 256) && decide (src < 256) && decide (id < 2 ^ 16)
def okRemote (cmd count addr : Nat) : Bool := decide (cmd < 256) && decide (count < 16) && okAddr addr

/-- A claim time in ns (Table 13-2). -/
def okClaim (t : Nat) : Bool := decide (t < 2 ^ 48 * 1000000000)

/-- The path of a heartbeat. -/
def okPath : HbPath → Bool
  | .cuff id serial => okSerial id && okSerial serial
  | .ring port dst src id => okHb port && okRyu dst src id

/-- The results of a DIGEST. -/
def okDigests (ts : List (Nat × Nat × Bool × Nat)) : Bool :=
  ts.all fun t => decide (t.1 < 64) && decide (t.2.1 < 2 ^ 16) && okW32 t.2.2.2

/-- Sectors of a replay. -/
def okScan (x : Machine.ReplayScan) : Bool := x.bad.all (fun b => decide (b.1 < 1024)) && x.bare.all fun i => decide (i < 1024)

/-- Codes of a 24-bit and of a 16-bit converter (Table 11-1). -/
def okCode24 (c : Int) : Bool := decide (-2 ^ 23 ≤ c) && decide (c < 2 ^ 23)
def okCode16 (c : Int) : Bool := decide (-2 ^ 15 ≤ c) && decide (c < 2 ^ 15)

/-- Outputs of a metering quantum and of a drive epoch. -/
def okSample (x : MtrSample) : Bool :=
  x.v.length == 3 && x.i.length == 3 && x.rails.length == 4 && (x.v ++ x.i ++ [x.n]).all okCode24 &&
    (x.j1 :: x.rails).all (fun e => okCode16 e.1 && okCode16 e.2) && x.strs.all fun e => decide (e.1 < 64) && decide (e.2.2 ≤ 125000)
def okMeas (m : DrvMeas) : Bool := m.rails.length == 4

/-- The operands of a command lie in the ranges that its row has. -/
def Instr.wf : Instr → Bool
  | .registerWrite req addr _ => okReq req && okAddr addr
  | .islRst req _ => okReq req
  | .islandResetEnd isl => okIsl isl
  | .fenceTimeout isl _ => okIsl isl
  | .orphanReply isl => okIsl isl
  | .softReset req page _ _ => okReq req && okPage page
  | .commit req page => okReq req && okPage page
  | .discard req page => okReq req && okPage page
  | .persistSave req page => okReq req && okPage page
  | .persistForget req page => okReq req && okPage page
  | .windowRead req op => okReq req && okAddr op
  | .windowWrite req op => okReq req && okAddr op
  | .hostWr addr _ _ => okAddr addr
  | .hostWrb addr ws cut _ => okAddr addr && okBurst 64 ws && okCut cut
  | .hostRd addr _ => okAddr addr
  | .hostRdb addr count cut _ => okAddr addr && decide (count < 64) && okCut cut
  | .hostUnknownCommand cmd _ _ => okHostUnknown cmd
  | .hostFrameAbort addr ws => okAddr addr && decide (ws.length ≤ 64)
  | .remoteRead req port => okReq req && okHb port
  | .remoteWrite req port => okReq req && okHb port
  | .remoteRequest port dst src id cmd count addr ws cut => okHb port && okRyu dst src id && okRemote cmd count addr && decide (ws.length ≤ 16) && okCut cut
  | .remoteReply port dst src id cmd count addr status ws => okHb port && okRyu dst src id && okRemote cmd count addr && decide (status < 256) && decide (ws.length ≤ 16)
  | .remoteTimeout req port => okReq req && okHb port
  | .busGrant contest addr => decide (contest < 256) && okAddr addr
  | .backoffExpiry req => okReq req
  | .tenureCutoff req addr w => okReq req && okAddr addr && (w != .burst || (decide (1 ≤ req) && decide (req ≤ 3)))
  | .lockAcquire req page => okReq req && okPage page
  | .lockRelease req page => okReq req && okPage page
  | .lockHoldExpiry req => okReq req
  | .cbClr req _ => okReq req
  | .enqueue req => okReq req
  | .flagSet req _ => okReq req
  | .flagClear req _ => okReq req
  | .flush req flow => okReq req && okFlow flow
  | .restartRetry req flow => okReq req && okFlow flow
  | .restartDiscard req flow => okReq req && okFlow flow
  | .tickRelease => true
  | .dispatch => true
  | .reservationExpire => true
  | .itemExpire flow => okFlow flow
  | .itemComplete x _ _ => okExec x
  | .executorFault x => okExec x
  | .itemWatchdog x => okExec x
  | .renderComplete eng _ => okEng eng
  | .pushHandoff port => okPort port
  | .checkComplete eng => okEng eng
  | .ingestFixComplete eng => okEng eng
  | .meterFoldComplete => true
  | .calStepComplete _ => true
  | .nodePoll port => okPort port
  | .cueRun => true
  | .testComplete eng crc => okEng eng && okW32 crc
  | .perferInRegion u len m => okHb u && okLen len m
  | .perferInCommit u len m => okHb u && okLen len m
  | .st2110Packet n _ ssrc seq ts _ _ => okDom n && okW32 ssrc && okW32 seq && okW32 ts
  | .e131Data u _ univ _ _ seq _ _ _ slots => okHb u && okUniverse univ && decide (seq < 256) && decide (slots.length ≤ 512)
  | .e131Sync u pkt => okHb u && decide (pkt.len < 2 ^ 16) && okUniverse pkt.addr
  | .ingestItemClose u layer => okHb u && decide (layer < 192)
  | .streamLoss n => okDom n
  | .e131SourceTimeout e => decide (e < 8192)
  | .e131SyncTimeout addr => okUniverse addr
  | .e131Scatter dom => okDom dom
  | .mapRunWrite req => okReq req
  | .mapRunClear req => okReq req
  | .engRst req _ => okReq req
  | .engClr req => okReq req
  | .latchPoint dom => okDom dom
  | .cueArm req => okReq req
  | .expectedPush req => okReq req
  | .expectedFlush req => okReq req
  | .echoRep port node _ _ _ _ fep => okPort port && okNode node && okW32 fep
  | .echoTimeout rect => decide (rect < 64)
  | .frameTxStart x => okMac x.page && okMedium x.med
  | .frameTxEnd page => okMac page
  | .pollRep port node seq hd fenceHeld lastSeq serial mac fep => okPort port && okNode node && okW32 seq && decide (hd.kind < 256) && decide (hd.nflags < 65536) && okW32 fenceHeld && okW32 lastSeq && decide (serial < 2 ^ 64) && okW32 fep && okMacAddr mac
  | .enumRep port _ addr mac fep => okPort port && okNode addr && okW32 fep && okMacAddr mac
  | .assignAck port _ addr fep => okPort port && okNode addr && okW32 fep
  | .assignTimeout port => okPort port
  | .pollTimeout port => okPort port
  | .enumDone port => okPort port
  | .ppClrCnt req port => okReq req && okPort port
  | .ppClrCredmin req port => okReq req && okPort port
  | .frameReceive page _ => okMac page
  | .pauseReceive page quanta => okMac page && decide (quanta < 65536)
  | .pauseHoldEnd page => okMac page
  | .pauseLong page => okMac page
  | .pauseRepeat page => okMac page
  | .busCollision page => okBus page
  | .lateCollision page => okBus page
  | .busBackoffEnd x => okBus x.page && okMedium x.med
  | .linkUp page => okMac page
  | .linkDown page => okMac page
  | .sfpInsert page a0 a2 => okCage page && okBytes 256 a0 && okBytes 256 a2
  | .sfpRemove page => okCage page
  | .sfpDiagRefresh page a2 => okCage page && okBytes 256 a2
  | .txFault page _ _ => okCage page
  | .macClrCnt req page => okReq req && okMac page
  | .macClrRingmin req page => okReq req && okMac page
  | .sakRekey port _ => decide (port < 5)
  | .lPushRead => true
  | .imageApply => true
  | .drivePresentation m => okMeas m
  | .stringMeasurement n _ _ _ _ => decide (n < 64)
  | .stringFault n _ => decide (n < 64)
  | .railFault r => okDom r
  | .drvFclrRail req mask => okReq req && decide (mask < 16)
  | .drvFclrMxsup req => okReq req
  | .strFclr req half _ => okReq req && okHb half
  | .drvClr req => okReq req
  | .mxFrameLatch x => okHb x
  | .mxFrameCut x => okHb x
  | .mxColumnFault x c _ => okHb x && decide (c < 192)
  | .mxLineShort x l => okHb x && decide (l < 32)
  | .mxSupplyFault => true
  | .mxFclrCol req x => okReq req && okHb x
  | .mxFclrLine req x => okReq req && okHb x
  | .meterQuantum x => okSample x
  | .meterFoldEnqueue => true
  | .lineCycle => true
  | .energySave => true
  | .pulseEmit k => okHb k
  | .sealClose req => okReq req
  | .snapshotTake req _ => okReq req
  | .clockStepAbs req => okReq req
  | .clockStepRel req => okReq req
  | .clockSlew req _ => okReq req
  | .slewEnd => true
  | .clockInc req _ => okReq req
  | .clockMode req _ => okReq req
  | .setvalid req v => okReq req && v.toNat.testBit 3
  | .clockRead req => okReq req
  | .servoMeasurement _ => true
  | .sourceChange => true
  | .sourceLoss => true
  | .holdExpired => true
  | .secondsCounterSync => true
  | .ptpMessageReceive port dom _ => okPtp port && decide (dom < 256)
  | .ptpSyncSend port => okPtp port
  | .ptpAnnounceSend port => okPtp port
  | .ptpDelayReqSend port => okPtp port
  | .announceTimeout port => okPtp port
  | .ppsOut => true
  | .ppsInEdge _ _ => true
  | .ppsLost => true
  | .ltcFrame _ h m sec f => decide (h < 24) && decide (m < 60) && decide (sec < 60) && decide (f < 30)
  | .ltcFrameMissing => true
  | .wclkEdge _ => true
  | .wclkMissing => true
  | .helloSend port => okHb port
  | .hello port sender src serial _ => okHb port && okHb sender && decide (src < 256) && okSerial serial
  | .helloLoss port => okHb port
  | .breakFrame port dst src id lost nbr => okHb port && okRyu dst src id && okHb lost && decide (nbr < 256)
  | .announceSend => true
  | .announce port dst src id serial claim _ _ fep => okHb port && okRyu dst src id && okSerial serial && decide (1 ≤ src) && okClaim claim && okW32 fep
  | .joinSend => true
  | .join port dst src id serial want _ => okHb port && okRyu dst src id && okSerial serial && decide (want < 255)
  | .assign port dst src id serial addr _ => okHb port && okRyu dst src id && okSerial serial && decide (addr < 255)
  | .selfAssign => true
  | .presentExpire addr => decide (1 ≤ addr) && decide (addr < 255)
  | .leave req => okReq req
  | .leaveReceive port dst src id serial => okHb port && okRyu dst src id && okSerial serial && decide (1 ≤ src) && decide (src < 255)
  | .hbForget req page => okReq req && okHb page
  | .forget port dst src id addr => okHb port && okRyu dst src id && decide (1 ≤ addr) && decide (addr < 255)
  | .eventSend => true
  | .event port dst src id group bits ns sec => okHb port && okRyu dst src id && decide (group < 8) && okW32 bits && decide (ns < 1000000000) && decide (sec < 2 ^ 48)
  | .hbEvpop req page => okReq req && okHb page
  | .hbClr req page => okReq req && okHb page
  | .updSeg port img chunk seg data => okHb port && okW32 img && okW32 chunk && decide (seg < 64) && okBytes 1024 data
  | .updAck port img chunk status => okHb port && okW32 img && okW32 chunk && decide (status < 3)
  | .updAckTimeout port img chunk => okHb port && okW32 img && okW32 chunk
  | .pairBind req _ => okReq req
  | .heartbeatSend => true
  | .heartbeat path role health fep => okPath path && decide (role < 3) && okW32 health && okW32 fep
  | .partnerLoss => true
  | .seekTimeout => true
  | .mirror fep seq _ => okW32 fep && okW32 seq
  | .mirrorAck fep seq => okW32 fep && okW32 seq
  | .mirrorAckTimeout => true
  | .epoch fep seq dom _ _ => okW32 fep && okW32 seq && okDom dom
  | .epochWaitTimeout dom => okDom dom
  | .yield req => okReq req
  | .yieldReceive fep _ _ cause => okW32 fep && decide (1 ≤ cause) && decide (cause < 4)
  | .yieldAck fep status => okW32 fep && decide (status < 4)
  | .yieldTimeout => true
  | .yieldRetry => true
  | .handover => true
  | .digest fep _ ts => okW32 fep && okDigests ts
  | .resync req => okReq req
  | .resyncReq fep sq => okW32 fep && okW32 sq
  | .resyncEnd fep seq status => okW32 fep && okW32 seq && decide (status < 2)
  | .reclaim => true
  | .diagCheckFail n => decide (n < 7)
  | .diagCheckPass n => decide (n < 7)
  | .mirClr req => okReq req
  | .liningAppendEnqueue => true
  | .liningAppendComplete fails => decide (fails < 8)
  | .checkpointStart => true
  | .linCkpt req => okReq req
  | .checkpointComplete _ => true
  | .sectorErase n fails => decide (n < 1024) && decide (fails < 4)
  | .liningReplay scan _ => okScan scan
  | .linAck req _ => okReq req
  | .liningRead req => okReq req
  | .sensorSample conds => decide (conds < 64)
  | .glitchTrip n _ => decide (6 ≤ n) && decide (n < 9)
  | .policyWrite req n _ => okReq req && decide (n < 9)
  | .commandGo req => okReq req
  | .commandFail => true
  | .setPolicy => true
  | .setLevel => true
  | .unsealMeter => true
  | .disarm => true
  | .setPubkey => true
  | .provision => true
  | .keyRead req => okReq req
  | .keyWrite req => okReq req
  | .keyErase req => okReq req
  | .cellLow => true
  | .updSubmit req => okReq req
  | .apply req => okReq req
  | .applyComplete outcome => decide (outcome < 3)
  | .activate req => okReq req
  | .cancel req => okReq req
  | .activationStart => true
  | .activated => true
  | .activationRevert => true
  | .calDue q _ => okQty q
  | .sclAll req => okReq req
  | .sclOne req q => okReq req && decide (q < 256)
  | .post fails engs => decide (fails < 32) && decide (engs < 2 ^ 24)
  | .testVectorEnqueue eng => okEng eng
  | .scrubError word _ => decide (word < 2 ^ 28)
  | .passDone => true
  | .fstClrPort req u => okReq req && okHb u
  | .fstClrEcc req => okReq req
  | .alertRelease => true
  | .evtSwset req _ => okReq req
  | .evtSwclr req _ => okReq req
  | .powerOn _ _ _ _ => true
  | .islandStart => true
  | .started => true
  | .supplyBand _ _ _ => true
  | .powerFailWarning _ _ => true
  | .overvoltageCut _ _ => true
  | .thermalTrip => true
  | .powerOffEnd => true
  | .thermalRestartCheck _ => true
  | .rstNLow _ => true
  | .rstNHigh _ => true
  | .devReset req _ => okReq req
  | .firmwareWatchdog => true
  | .cageOvercurrent c _ => decide (c < 13)
  | .cagePowerOn req mask => okReq req && decide (mask < 2 ^ 13)
  | .holdupMeasure _ _ => true
  | .thmClr req => okReq req
  | .thermalWarn _ => true
  | .healthHoldExpiry => true
  | .baseplateSensorFail _ _ => true
  | .cellFailure => true
  | .logicPowerLoss => true

end Sys2Proof
end

