-- ==== Sys2Proof/Machine/Operands.lean ====
section
/-! DEFINITION. The forms that the commands' meanings share: the check of the operands, an access of a requester over the
control bus, and where an event can reach the module at all. -/

namespace Sys2Proof.Machine

/-- A command with well-formed operands takes the module from `s` to `t`; one whose operands no wire form carries is no
event of this module and changes nothing (log 5). The queue of waiting commands and what the factory fixed are no part of
any command's effect. -/
def guarded (i : Instr) (s t : State) : Host.Outcome State Fault Refusal :=
  .next (if i.wf then { t with pending := s.pending, hw := s.hw } else s)

/-- What happens only while every island of a list runs. -/
def whenUp (s : State) (is : List Nat) (t : State) : State := if is.all s.islUp then t else s

/-- What happens only while the island of a page runs. -/
def onIsl (s : State) (pg : Nat) (t : State) : State :=
  match findPage pg with
  | some d => whenUp s [d.isl] t
  | none => s

/-- What happens only while the link of a page is up. -/
def onLink (s : State) (pg : Nat) (t : State) : State := if linkUp s pg then t else s

/-- What the local drive does: only where it is fitted, and while its island runs (R2, R354). -/
def onDrive (s : State) (t : State) : State := if s.hw.drive && s.islUp 11 then t else s

/-- What an enabled Hatband port with its link up does. -/
def onHb (s : State) (p : Nat) (t : State) : State :=
  if s.islUp 7 && s.en (hbPg p) && linkUp s (hbPg p) then t else s

/-- The requester runs: its island is not in reset (Table 3-1). A request of the control-bus interface's own island ends
with RESET_ABORT instead. -/
def requesterUp (s : State) (req : Nat) : Bool := reqIsland req == 12 || s.islUp (reqIsland req)

/-- The reply to a requester ends its access: one that waited at a fence, and the tenure that covered it (R81). -/
def answered (s : State) (req : Nat) : State :=
  let a := s.arb
  let t : State :=
    { s with isl := { s.isl with outs := s.isl.outs.filter fun o => o.req != req || o.orphan },
             arb := { a with owner := if a.owner = some req then none else a.owner,
                             waiting := maskOff a.waiting req, cut := maskOff a.cut req } }
  -- what the firmware had to write meanwhile follows
  if req = 0 then mgmtWrites { t with ctl := { t.ctl with later := [] } } t.ctl.later else t

/-- A requester that waits for the reply to a cut-off access issues no other (R81): the access under way alone ends. -/
def awaited (s : State) (req a : Nat) (v : Option Word) : Bool :=
  !s.arb.waiting.testBit req || s.isl.outs.any fun o => o.req == req && o.addr == a && o.val == v && !o.orphan

/-- A requester that runs issues an access. -/
def mayIssue (s : State) (req a : Nat) (v : Option Word) : Bool := requesterUp s req && awaited s req a v

/-- A requester's burst may run: it waits for no reply, or the burst is what was cut off (R81). -/
def mayBurst (s : State) (req : Nat) : Bool := !s.arb.waiting.testBit req || s.arb.cut.testBit req

/-- A register write by a requester, its reply, and what follows from it. -/
def viaBus (s : State) (req a : Nat) (v : Word) : State :=
  if mayIssue s req a (some v) then settle (answered (busWriteR s req a v) req) else s

/-- A register read by a requester, and its reply. -/
def viaBusRead (s : State) (req a : Nat) : State :=
  if mayIssue s req a none then settle (answered (busReadR s req a) req) else s

/-- How many words a burst may transfer: its tenure was cut off after `cut` of them (R81). -/
def cutOf (s : State) (req : Nat) (cut : Option Nat) : Option Nat := if s.arb.cut.testBit req then cut else none

/-- The first word that a cut-off leaves over is rejected with BUSY, which ends the burst (R64, R81). -/
def cutReject (s : State) (req a : Nat) : State :=
  if addrOk a && (findPage (pageOf a)).isSome then rejectRecord s req (pageOf a) (offOf a) .busy else s

/-- The writes of a burst in order (R64): the first that is not done ends it, and so does the cut-off of the tenure after
`cut` words (R81). The status is that of the whole. -/
def burstWrite : State → Nat → Nat → List Word → Option Nat → State × Nat
  | s, _, _, [], _ => (s, 0)
  | s, req, a, v :: vs, cut =>
    if cut = some 0 then (cutReject s req a, Err.busy.code)
    else
      let r := busWrite s req a v
      let t := noteReply r.1 a
      if r.2 = 0 then burstWrite t req (a + 4) vs (cut.map (· - 1)) else (t, r.2)

/-- The reads of a burst (R64): the state, the status and the words, of which those from the one that ended the burst on are
zero. -/
def burstRead : Nat → State → Nat → Nat → Option Nat → State × Nat × List Word
  | 0, s, _, _, _ => (s, 0, [])
  | n + 1, s, req, a, cut =>
    if cut = some 0 then (cutReject s req a, Err.busy.code, List.replicate (n + 1) 0#32)
    else
      let r := busRead s req a
      let t := noteReply r.1 a
      if r.2.1 = 0 then
        let q := burstRead n t req (a + 4) (cut.map (· - 1))
        (q.1, q.2.1, r.2.2 :: q.2.2)
      else (t, r.2.1, List.replicate (n + 1) 0#32)

end Sys2Proof.Machine
end

