-- ==== Sys2Proof/Machine/CmdBus.lean ====
section
/-! DEFINITION. Commands of the control bus and of the islands: register accesses by each path, remote accesses,
arbitration and page locks (chapters 1 to 3). -/

namespace Sys2Proof.Machine

/-! The QSPI host port (2.5) -/

/-- CRC-16/CCITT of R60, one byte at a time. -/
def crc16Step (c : Nat) (b : Byte) : Nat :=
  (List.range 8).foldl (fun x _ => if x.testBit 15 then (x * 2 % 65536) ^^^ 0x1021 else x * 2 % 65536) (c ^^^ (b.toNat * 256))

/-- CRC-16 of the host port over a byte list. -/
def crc16 (bs : List Byte) : Nat := bs.foldl crc16Step 0xFFFF

/-- Bytes of words, each least significant first (R59). -/
def wordBytes (ws : List Word) : List Byte := (ws.map fun w => leBytes 4 w.toNat).flatten

/-- What the host port drives after the turnaround, wait bytes left out. -/
def hostDrive (s : State) (bs : List Byte) : State := { s with ctl := { s.ctl with hostOut := bs } }

/-- The end of a write frame: status and complement (R61). -/
def hostStatus (s : State) (status : Nat) : State := hostDrive s (beBytes 1 status ++ beBytes 1 (255 - status))

/-- The end of a read frame: status, data, CRC-16 (R61). -/
def hostData (s : State) (status : Nat) (ws : List Word) : State :=
  let b := beBytes 1 status ++ wordBytes ws
  hostDrive s (b ++ beBytes 2 (crc16 b))

/-- Command byte and address of a frame (R59). -/
def hostHead (cmd addr : Nat) : List Byte := beBytes 1 cmd ++ beBytes 3 addr

/-- HOST_WR (R59, R61, R62). -/
def hostWr (s : State) (addr : Nat) (v : Word) (crc : Nat) : State :=
  if crc ≠ crc16 (hostHead 0x02 addr ++ wordBytes [v]) then hostStatus s 0x41
  else if !awaited s 1 addr (some v) then s
  else
    let r := burstWrite s 1 addr [v] none
    hostStatus (answered (reply r.1 1 r.2 []) 1) r.2

/-- HOST_WRB (R59, R62, R64). -/
def hostWrb (s : State) (addr : Nat) (ws : List Word) (cut : Option Nat) (crc : Nat) : State :=
  if crc ≠ crc16 (hostHead 0x03 addr ++ beBytes 1 (ws.length - 1) ++ wordBytes ws) then hostStatus s 0x41
  else if !mayBurst s 1 then s
  else
    let r := burstWrite s 1 addr ws (cutOf s 1 cut)
    hostStatus (answered (reply r.1 1 r.2 []) 1) r.2

/-- HOST_RD (R61, R62). -/
def hostRd (s : State) (addr crc : Nat) : State :=
  if crc ≠ crc16 (hostHead 0x0B addr) then hostData s 0x41 [0#32]
  else if !awaited s 1 addr none then s
  else
    let r := burstRead 1 s 1 addr none
    hostData (answered (reply r.1 1 r.2.1 r.2.2) 1) r.2.1 r.2.2

/-- HOST_RDB (R61, R62, R64). -/
def hostRdb (s : State) (addr count : Nat) (cut : Option Nat) (crc : Nat) : State :=
  if crc ≠ crc16 (hostHead 0x0C addr ++ beBytes 1 count) then hostData s 0x41 (List.replicate (count + 1) 0#32)
  else if !mayBurst s 1 then s
  else
    let r := burstRead (count + 1) s 1 addr (cutOf s 1 cut)
    hostData (answered (reply r.1 1 r.2.1 r.2.2) 1) r.2.1 r.2.2

/-- A frame with an unknown command byte (R62, Table 2-15): nothing is done. -/
def hostUnknown (s : State) (cmd : Byte) (body : List Byte) (crc : Nat) : State :=
  hostStatus s (if crc ≠ crc16 (cmd :: body) then 0x41 else 0x42)

/-- HOST_CS_N rises early (R62, R63): words whose access has started complete, and their status is lost; where none has,
there was no access. -/
def hostAbort (s : State) (addr : Nat) (ws : List Word) : State :=
  if !ws.isEmpty && mayBurst s 1 then hostDrive (answered (burstWrite s 1 addr ws none).1 1) [] else hostDrive s []

/-! Remote accesses (2.6) -/

/-- A Ryuward frame with a destination other than 0 arrives (R423); where it is delivered, the module acts on it. -/
def ringFrame (s : State) (p : Nat) (f : Ryu) (act : State → State) : State :=
  onHb s p (let r := ryuArrive s p f
            if r.2 then act r.1 else r.1)

/-- Payload of a register-access frame (Table 2-18). -/
def remotePayload (cmd count addr status : Nat) (ws : List Word) : List Byte :=
  beBytes 1 cmd ++ beBytes 1 count ++ beBytes 3 addr ++ beBytes 1 status ++ (ws.map fun w => beBytes 4 w.toNat).flatten

/-- A request at its target (R68, R69): issued as RING0 or RING1, and answered unless it was a broadcast. -/
def remoteServe (s : State) (p dst src id cmd count addr : Nat) (ws : List Word) (cut : Option Nat) : State :=
  let req := 2 + p
  if !mayBurst s req && !awaited s req addr (if cmd = 0x02 then ws.head? else none) then s else
  let r : State × Nat × List Word :=
    if cmd = 0x02 ∨ cmd = 0x03 then let w := burstWrite s req addr ws (cutOf s req cut); (w.1, w.2, [])
    else if cmd = 0x0B ∨ cmd = 0x0C then burstRead (count + 1) s req addr (cutOf s req cut)
    else (s, 0x42, [])
  let t := answered (reply r.1 req r.2.1 r.2.2) req
  if dst = 255 then t else ryuOriginate t p ⟨0x21, src, dst, id, remotePayload cmd count addr r.2.1 r.2.2⟩

/-- REMOTE_REQUEST. -/
def remoteRequest (s : State) (p dst src id cmd count addr : Nat) (ws : List Word) (cut : Option Nat) : State :=
  ringFrame s p ⟨0x20, dst, src, id, remotePayload cmd count addr 0 ws⟩ fun t =>
    remoteServe t p dst src id cmd count addr ws cut

/-- REMOTE_REPLY (R436). -/
def remoteReply (s : State) (p dst src id cmd count addr status : Nat) (ws : List Word) : State :=
  ringFrame s p ⟨0x21, dst, src, id, remotePayload cmd count addr status ws⟩ fun t => raReply t p id status ws

/-! Arbitration (3.2 to 3.4) -/

/-- Requesters that contest: those of a mask that neither back off nor wait for a cut-off access (R76, R81). -/
def contestants (s : State) (mask : Nat) : List Nat :=
  (bitsOf 8 (mask ||| s.arb.contest)).filter fun r => (sget s.arb.backoff r).isNone && !s.arb.waiting.testBit r

/-- Rank of a requester (Table 3-4). -/
def rankReq (s : State) (r : Nat) : Nat := s.regF (R.CB_PRI r) 0 4

/-- The winner of a contest (R74): the highest rank, and among equals the next in ascending order after the one granted
last at that rank. -/
def winner (s : State) (cs : List Nat) : Option Nat :=
  let top := cs.foldl (fun m r => max m (rankReq s r)) 0
  let eq := cs.filter fun r => rankReq s r == top
  match sget s.arb.lastOf top with
  | some l => match eq.find? fun r => decide (l < r) with
    | some r => some r
    | none => eq.head?
  | none => eq.head?

/-- A requester loses (R76, R79, R80): it backs off, and its counts rise. -/
def loses (s : State) (r : Nat) : State :=
  let n := s.regF (R.CB_LOSS r) 0 16
  let m := satAdd 16 n 1
  let cycles := s.regF R.CB_BACKOFF 0 4 * 2 ^ min n (s.regF R.CB_BACKOFF 4 4)
  let s1 := s.setReg (R.CB_LOSS r) (w32 (m + max m (s.regF (R.CB_LOSS r) 16 16) * 65536))
  let s2 := { s1 with arb := { s1.arb with backoff := sset s1.arb.backoff r (s.up + 5 * (cycles + 1)) } }
  let limit := s.regF R.CB_LOSSLIM 0 16
  if limit ≠ 0 ∧ m = limit ∧ n ≠ m then raise s2 0x02 2 else s2

/-- BUS_GRANT (R74, R77): the winner's tenure begins with the access at `addr`. -/
def busGrant (s : State) (mask addr : Nat) : State :=
  let cs := contestants s mask
  match winner s cs with
  | none => s
  | some w =>
    let s1 := (cs.filter (· != w)).foldl loses s
    let s2 := s1.setRegF (R.CB_LOSS w) 0 16 0
    { s2 with arb := { s2.arb with
        contest := 0, owner := some w, tenureStart := s.up, word := addr, lastOf := sset s2.arb.lastOf (rankReq s w) w } }

/-- BACKOFF_EXPIRY (R76). -/
def backoffExpiry (s : State) (r : Nat) : State :=
  match sget s.arb.backoff r with
  | some t =>
    if s.up < t then s
    else { s with arb := { s.arb with backoff := sdel s.arb.backoff r, contest := s.arb.contest ||| 2 ^ r } }
  | none => s

/-- An access that its tenure no longer covers waits at its target's fence (R81). -/
def waitAtFence (s : State) (req addr : Nat) (v : Option Word) : State :=
  match findPage (pageOf addr) with
  | some d => { s with isl := { s.isl with outs := s.isl.outs ++ [⟨d.isl, req, addr, v, s.up, false⟩] },
                       arb := { s.arb with waiting := s.arb.waiting ||| 2 ^ req } }
  | none => s

/-- ORPHAN_REPLY (R564): a request that a block of a resetting island had issued takes effect at its target, and its reply is
discarded and counted. -/
def orphanCmd (s : State) (i : Nat) : State :=
  match s.isl.outs.find? fun o => o.orphan && reqIsland o.req == i with
  | some o =>
    let t := { s with isl := { s.isl with outs := s.isl.outs.erase o } }
    let t1 := match o.val with
      | some v => (busWrite t o.req o.addr v).1
      | none => (busRead t o.req o.addr).1
    (noteReply t1 o.addr).count R.ISL_FTO 26 6 1
  | none => orphanReply s i

/-- TENURE_CUTOFF (R81, R82). -/
def tenureCutoff (s : State) (req addr : Nat) (w : CutWord) : State :=
  if s.arb.owner ≠ some req ∨ !elapsed s s.arb.tenureStart (5 * s.regF R.CB_HOLD 0 16) then s
  else
    let n := satAdd 16 (s.regF R.CB_CUT 16 16) 1
    let s1 := s.setReg R.CB_CUT (w32 (req + pageOf addr % 256 * 256 + n * 65536))
    let s2 := raise { s1 with arb := { s1.arb with owner := none } } 0x02 1
    match w with
    | .burst => { s2 with arb := { s2.arb with waiting := s2.arb.waiting ||| 2 ^ req, cut := s2.arb.cut ||| 2 ^ req } }
    | .write v => answered (busWriteR s2 req addr v) req
    | .read => answered (busReadR s2 req addr) req
    | .waits v => waitAtFence s2 req addr v

/-! The meanings -/

/-- REGISTER_WRITE (R50): A write to a register that has no row of its own is checked and then takes effect directly
or is staged. -/
def execRegisterWrite (req addr : Nat) (v : Word) (s : State) : Host.Outcome State Fault Refusal :=
  guarded (.registerWrite req addr v) s (viaBus s req addr v)

/-- ISL_RST (R23): A write of ISL_RST starts the reset of the selected islands, except 9, 12 and 13. -/
def execIslRst (req : Nat) (v : Word) (s : State) : Host.Outcome State Fault Refusal :=
  guarded (.islRst req v) s (viaBus s req R.ISL_RST v)

/-- ISLAND_RESET_END (R22): 64 cycles after the last outstanding request is answered, the fence reopens, ISL_STAT.UP
is set and RST_DONE is posted. -/
def execIslandResetEnd (isl : Nat) (s : State) : Host.Outcome State Fault Refusal :=
  guarded (.islandResetEnd isl) s (settle (islandResetEnd s isl))

/-- FENCE_TIMEOUT (R563): A fence whose outstanding request has waited ISL_FTO.US resets its island and counts the
timeout. -/
def execFenceTimeout (isl : Nat) (age : FenceAge) (s : State) : Host.Outcome State Fault Refusal :=
  guarded (.fenceTimeout isl age) s (settle (fenceTimeout s isl age))

/-- ORPHAN_REPLY (R564): A reply that reaches a resetting island's fence is discarded and counted in ISL_FTO.ORPHAN.
-/
def execOrphanReply (isl : Nat) (s : State) : Host.Outcome State Fault Refusal :=
  guarded (.orphanReply isl) s (settle (orphanCmd s isl))

/-- SOFT_RESET (R49): PG_CTL.SRST restores the block registers to their reset values, applies the persisted copy and
discards staged and pending writes. -/
def execSoftReset (req page : Nat) (en frz : Bool) (s : State) : Host.Outcome State Fault Refusal :=
  guarded (.softReset req page en frz) s (viaBus s req (R.PG_CTL page) (w32 (b2n en + 2 + 4 * b2n frz)))

/-- COMMIT (R50): PG_COMMIT.COMMIT checks the joint rules and applies the staging area at once, or moves it into the
pending set of a LATCH page. -/
def execCommit (req page : Nat) (s : State) : Host.Outcome State Fault Refusal :=
  guarded (.commit req page) s (viaBus s req (R.PG_COMMIT page) 1#32)

/-- DISCARD (R53): PG_COMMIT.DISCARD empties the staging area, or inside a sequence removes the sequence's writes to
the page. -/
def execDiscard (req page : Nat) (s : State) : Host.Outcome State Fault Refusal :=
  guarded (.discard req page) s (viaBus s req (R.PG_COMMIT page) 2#32)

/-- PERSIST_SAVE (R48): PG_PERSIST.SAVE submits the applied values of the page's persisted fields to the Lining. -/
def execPersistSave (req page : Nat) (s : State) : Host.Outcome State Fault Refusal :=
  guarded (.persistSave req page) s (viaBus s req (R.PG_PERSIST page) 1#32)

/-- PERSIST_FORGET (R48): PG_PERSIST.FORGET submits a PAGE_FORGET record that removes the page's persisted copy. -/
def execPersistForget (req page : Nat) (s : State) : Host.Outcome State Fault Refusal :=
  guarded (.persistForget req page) s (viaBus s req (R.PG_PERSIST page) 2#32)

/-- WINDOW_READ (R54): A window READ loads entry INDEX into the requester's buffer and advances INDEX under AINC. -/
def execWindowRead (req op : Nat) (s : State) : Host.Outcome State Fault Refusal :=
  guarded (.windowRead req op) s (viaBus s req op 1#32)

/-- WINDOW_WRITE (R55): A window WRITE checks the whole entry and then writes it to entry INDEX, or rejects it whole.
-/
def execWindowWrite (req op : Nat) (s : State) : Host.Outcome State Fault Refusal :=
  guarded (.windowWrite req op) s (viaBus s req op 2#32)

/-- HOST_WR (R59): A host-port WR frame with a valid CRC performs one register write and returns status and
complement. -/
def execHostWr (addr : Nat) (v : Word) (crc : Nat) (s : State) : Host.Outcome State Fault Refusal :=
  guarded (.hostWr addr v crc) s (settle (hostWr s addr v crc))

/-- HOST_WRB (R64): A host-port WRB frame performs up to 64 writes at ascending addresses and stops at the first
rejected word. -/
def execHostWrb (addr : Nat) (ws : List Word) (cut : Option Nat) (crc : Nat) (s : State) :
    Host.Outcome State Fault Refusal :=
  guarded (.hostWrb addr ws cut crc) s (settle (hostWrb s addr ws cut crc))

/-- HOST_RD (R61): A host-port RD frame performs one register read and returns status, data and CRC. -/
def execHostRd (addr crc : Nat) (s : State) : Host.Outcome State Fault Refusal :=
  guarded (.hostRd addr crc) s (settle (hostRd s addr crc))

/-- HOST_RDB (R64): A host-port RDB frame performs up to 64 reads at ascending addresses and stops at the first
rejected word. -/
def execHostRdb (addr count : Nat) (cut : Option Nat) (crc : Nat) (s : State) : Host.Outcome State Fault Refusal :=
  guarded (.hostRdb addr count cut crc) s (settle (hostRdb s addr count cut crc))

/-- HOST_UNKNOWN_COMMAND (R62): A host-port frame with an unknown command byte does nothing and returns status 0x42.
-/
def execHostUnknownCommand (cmd : Byte) (body : List Byte) (crc : Nat) (s : State) : Host.Outcome State Fault Refusal :=
  guarded (.hostUnknownCommand cmd body crc) s (hostUnknown s cmd body crc)

/-- HOST_FRAME_ABORT (R63): HOST_CS_N rising early ends the frame without effect, or loses the status of a write that
has started. -/
def execHostFrameAbort (addr : Nat) (ws : List Word) (s : State) : Host.Outcome State Fault Refusal :=
  guarded (.hostFrameAbort addr ws) s (settle (hostAbort s addr ws))

/-- REMOTE_READ (R66): RA_OP.READ sends a Ryuward read request from the requester's bank to DST. -/
def execRemoteRead (req port : Nat) (s : State) : Host.Outcome State Fault Refusal :=
  guarded (.remoteRead req port) s (viaBus s req (R.HB_RA_OP port) 1#32)

/-- REMOTE_WRITE (R69): RA_OP.WRITE sends a Ryuward write request, or a broadcast write that expects no reply. -/
def execRemoteWrite (req port : Nat) (s : State) : Host.Outcome State Fault Refusal :=
  guarded (.remoteWrite req port) s (viaBus s req (R.HB_RA_OP port) 2#32)

/-- REMOTE_REQUEST (R68): A register-access request arriving on H0 or H1 is issued at the target as RING0 or RING1 and
answered. -/
def execRemoteRequest (port dst src id cmd count addr : Nat) (ws : List Word) (cut : Option Nat) (s : State) :
    Host.Outcome State Fault Refusal :=
  guarded (.remoteRequest port dst src id cmd count addr ws cut) s
    (settle (remoteRequest s port dst src id cmd count addr ws cut))

/-- REMOTE_REPLY (R436): A register-access reply completes the matching bank request, or is discarded as late and
counted. -/
def execRemoteReply (port dst src id cmd count addr status : Nat) (ws : List Word) (s : State) :
    Host.Outcome State Fault Refusal :=
  guarded (.remoteReply port dst src id cmd count addr status ws) s
    (settle (remoteReply s port dst src id cmd count addr status ws))

/-- REMOTE_TIMEOUT (R67): when no reply arrives within 2 ms, RA_STAT.STATUS becomes 0x43 and BUSY clears. -/
def execRemoteTimeout (req port : Nat) (s : State) : Host.Outcome State Fault Refusal :=
  guarded (.remoteTimeout req port) s (raTimeout s req port)

/-- BUS_GRANT (R74): the arbiter grants the control bus to the contesting requester of highest rank, round robin among
equal ranks. -/
def execBusGrant (contest addr : Nat) (s : State) : Host.Outcome State Fault Refusal :=
  guarded (.busGrant contest addr) s (busGrant s contest addr)

/-- BACKOFF_EXPIRY (R76): at the end of its backoff a losing requester contests again. -/
def execBackoffExpiry (req : Nat) (s : State) : Host.Outcome State Fault Refusal :=
  guarded (.backoffExpiry req) s (backoffExpiry s req)

/-- TENURE_CUTOFF (R81): A tenure that reaches HOLD_MAX cycles is cut off and its remaining burst words are rejected
with BUSY. -/
def execTenureCutoff (req addr : Nat) (w : CutWord) (s : State) : Host.Outcome State Fault Refusal :=
  guarded (.tenureCutoff req addr w) s (settle (tenureCutoff s req addr w))

/-- LOCK_ACQUIRE (R83): PG_LOCK.ACQ acquires the page for the writer, or is refused with LOCKED, ORDER or STATE. -/
def execLockAcquire (req page : Nat) (s : State) : Host.Outcome State Fault Refusal :=
  guarded (.lockAcquire req page) s (viaBus s req (R.PG_LOCK page) 1#32)

/-- LOCK_RELEASE (R87): PG_LOCK.REL checks the sequence and then applies every staged write in one cycle and releases
all the owner's locks. -/
def execLockRelease (req page : Nat) (s : State) : Host.Outcome State Fault Refusal :=
  guarded (.lockRelease req page) s (viaBus s req (R.PG_LOCK page) 2#32)

/-- LOCK_HOLD_EXPIRY (R91): A sequence still open LOCK_US after acquisition is aborted and its owner is barred. -/
def execLockHoldExpiry (req : Nat) (s : State) : Host.Outcome State Fault Refusal :=
  guarded (.lockHoldExpiry req) s (lockHoldExpiry s req)

/-- CB_CLR (R79): CB_CLR sets CB_LOSSn.MAX to 0 for the selected requesters. -/
def execCbClr (req : Nat) (v : Word) (s : State) : Host.Outcome State Fault Refusal :=
  guarded (.cbClr req v) s (viaBus s req R.CB_CLR v)

end Sys2Proof.Machine
end

