-- ==== Sys2Proof/Machine/CmdHatrack.lean ====
section
/-! DEFINITION. Commands of the Hatrack and completions of its items (chapter 4). -/

namespace Sys2Proof.Machine

/-- Address of HTK_ENQ_OP (4.11). -/
abbrev tHtkEnqOp : Nat := 0x0400C0

/-- ITEM_EXPIRE (R123): the head of a flow that waits, is READY or has an engine reserved has EXPIRE and has passed its
deadline, whatever PG_CTL.EN holds. -/
def itemExpire (s : State) (f : Nat) : State :=
  let st := (s.flow f).state
  match (s.flow f).queue.head? with
  | some h =>
    if s.islUp 2 ∧ headExpired s h ∧ (st = .waiting ∨ st = .ready ∨ st = .reserved) then expireHead (unreserve s f) f
    else s
  | none => s

/-! The meanings -/

/-- ENQUEUE (R108): HTK_ENQ_OP.ENQ checks the descriptor and queues it directly or on a delay list, or refuses it. -/
def execEnqueue (req : Nat) (s : State) : Host.Outcome State Fault Refusal :=
  guarded (.enqueue req) s (viaBus s req (tHtkEnqOp) 1#32)

/-- FLAG_SET (R101): HTK_FLAGSET sets flags of the target flow and may make its wait hold. -/
def execFlagSet (req : Nat) (v : Word) (s : State) : Host.Outcome State Fault Refusal :=
  guarded (.flagSet req v) s (viaBus s req R.HTK_FLAGSET v)

/-- FLAG_CLEAR (R101): HTK_FLAGCLR clears flags of the target flow. -/
def execFlagClear (req : Nat) (v : Word) (s : State) : Host.Outcome State Fault Refusal :=
  guarded (.flagClear req v) s (viaBus s req R.HTK_FLAGCLR v)

/-- FLUSH (R135): HTK_FLOWCMD FLUSH discards every queued and delayed item of the flow. -/
def execFlush (req flow : Nat) (s : State) : Host.Outcome State Fault Refusal :=
  guarded (.flush req flow) s (viaBus s req R.HTK_FLOWCMD (w32 (flow + 256)))

/-- RESTART_RETRY (R132): HTK_FLOWCMD RESTART_RETRY starts a STOPPED flow's head again with ATTEMPT 0. -/
def execRestartRetry (req flow : Nat) (s : State) : Host.Outcome State Fault Refusal :=
  guarded (.restartRetry req flow) s (viaBus s req R.HTK_FLOWCMD (w32 (flow + 512)))

/-- RESTART_DISCARD (R132): HTK_FLOWCMD RESTART_DISCARD discards a STOPPED flow's head and counts it. -/
def execRestartDiscard (req flow : Nat) (s : State) : Host.Outcome State Fault Refusal :=
  guarded (.restartDiscard req flow) s (viaBus s req R.HTK_FLOWCMD (w32 (flow + 768)))

/-- TICK_RELEASE (R116): at each 1 µs tick, up to 64 items that are due are released from the delay lists into their
flows. -/
def execTickRelease (s : State) : Host.Outcome State Fault Refusal :=
  guarded .tickRelease s (settle (tickRelease s))

/-- DISPATCH (R121): in a dispatch slot, the best ranked startable flow starts its head item on an executor. -/
def execDispatch (s : State) : Host.Outcome State Fault Refusal :=
  guarded .dispatch s (settle (dispatchSlot s))

/-- RESERVATION_EXPIRE (R126): A reservation whose engine is not idle before AFF_WIN ends is cancelled and the flow
returns to READY. -/
def execReservationExpire (s : State) : Host.Outcome State Fault Refusal :=
  guarded .reservationExpire s (whenUp s [2] (expireResv s))

/-- ITEM_EXPIRE (R123): A head item with EXPIRE that has not started by its deadline is discarded, counted and its
posts made. -/
def execItemExpire (flow : Nat) (s : State) : Host.Outcome State Fault Refusal :=
  guarded (.itemExpire flow) s (settle (itemExpire s flow))

/-- ITEM_COMPLETE (R103): an item completion makes the selected posts and moves its flow on. -/
def execItemComplete (x : Exec) (error : Bool) (result : Int) (s : State) : Host.Outcome State Fault Refusal :=
  guarded (.itemComplete x error result) s (settle (itemComplete s x error result))

/-- EXECUTOR_FAULT (R129): an executor fault returns the item in service to the head of its flow with ATTEMPT
increased. -/
def execExecutorFault (x : Exec) (s : State) : Host.Outcome State Fault Refusal :=
  guarded (.executorFault x) s (settle (execFault s x))

/-- ITEM_WATCHDOG (R133): an item in service for HTK_WDOG.LIMIT resets its executor and counts as a fault. -/
def execItemWatchdog (x : Exec) (s : State) : Host.Outcome State Fault Refusal :=
  guarded (.itemWatchdog x) s (settle (itemWatchdog s x))

/-- RENDER_COMPLETE (R214): A RENDER item finishes writing its endpoint words and compares and stores its tile digest.
-/
def execRenderComplete (eng : Nat) (ue : Ue) (s : State) : Host.Outcome State Fault Refusal :=
  guarded (.renderComplete eng ue) s (settle (renderComplete s eng ue))

/-- PUSH_HANDOFF (R112): A PUSH item hands its NFRAME DATA frames to the port and completes. -/
def execPushHandoff (port : Nat) (s : State) : Host.Outcome State Fault Refusal :=
  guarded (.pushHandoff port) s (settle (pushHandoff s port))

/-- CHECK_COMPLETE (R252): A CHECK item computes the rectangle CRC and records MATCH, MISMATCH, NOEXP or SKIPPED. -/
def execCheckComplete (eng : Nat) (s : State) : Host.Outcome State Fault Refusal :=
  guarded (.checkComplete eng) s (settle (checkComplete s eng))

/-- INGEST_FIX_COMPLETE (R145): an INGEST_FIX item writes its frames into the layer buffer and releases their pool
buffers. -/
def execIngestFixComplete (eng : Nat) (s : State) : Host.Outcome State Fault Refusal :=
  guarded (.ingestFixComplete eng) s (settle (ingestFixComplete s eng))

/-- METER_FOLD_COMPLETE (R369): A METER_FOLD item applies its quanta to the accumulators in one step. -/
def execMeterFoldComplete (s : State) : Host.Outcome State Fault Refusal :=
  guarded .meterFoldComplete s (settle (foldComplete s))

/-- CAL_STEP_COMPLETE (R543): A CAL_STEP item reports a run result or moves a quantity by one tap. -/
def execCalStepComplete (result : Option Int) (s : State) : Host.Outcome State Fault Refusal :=
  guarded (.calStepComplete result) s (settle (calStepComplete s result))

/-- NODE_POLL (R280): A NODE_POLL item sends a POLL or ENUM to its node and completes at hand-off. -/
def execNodePoll (port : Nat) (s : State) : Host.Outcome State Fault Refusal :=
  guarded (.nodePoll port) s (settle (nodePoll s port))

/-- CUE_RUN (R246): A CUE item performs the cue's actions in order, under a lock if LOCK is 1. -/
def execCueRun (s : State) : Host.Outcome State Fault Refusal :=
  guarded .cueRun s (settle (cueRun s))

/-- TEST_COMPLETE (R552): A TEST item compares its vector CRC with W7 and fails on a mismatch. -/
def execTestComplete (eng crc : Nat) (s : State) : Host.Outcome State Fault Refusal :=
  guarded (.testComplete eng crc) s (settle (testEnd s eng crc))

end Sys2Proof.Machine
end

