-- ==== Sys2Proof/Machine/CmdIngest.lean ====
section
/-! DEFINITION. Commands of content ingest, of the endpoint map and of the engines (chapters 5 and 6). -/

namespace Sys2Proof.Machine

/-! The meanings -/

/-- PERFER_IN_REGION (R159): A Perfer-IN REGION message is checked and its rectangle is queued for writing into the
slot. -/
def execPerferInRegion (u len : Nat) (m : List Byte) (s : State) : Host.Outcome State Fault Refusal :=
  guarded (.perferInRegion u len m) s (settle (perferRegion s u len m))

/-- PERFER_IN_COMMIT (R161): A Perfer-IN COMMIT closes the item and commits the slot in band behind its regions. -/
def execPerferInCommit (u len : Nat) (m : List Byte) (s : State) : Host.Outcome State Fault Refusal :=
  guarded (.perferInCommit u len m) s (settle (perferCommit s u len m))

/-- ST2110_PACKET (R166): an ST 2110 packet is written into the layer frame of its RTP timestamp, opening or closing
frames. -/
def execSt2110Packet (n len ssrc seq ts : Nat) (marker : Bool) (rs : List Srd) (s : State) :
    Host.Outcome State Fault Refusal :=
  guarded (.st2110Packet n len ssrc seq ts marker rs) s (settle (st2110Packet s n len ssrc seq ts marker rs))

/-- E131_DATA (R172): an E1.31 data packet is checked and its slots are written to the universe or hold store. -/
def execE131Data (u : Nat) (pkt : E131Packet) (univ cid prio seq : Nat) (preview term : Bool) (start : Nat) (slots : List Byte) (s : State) :
    Host.Outcome State Fault Refusal :=
  guarded (.e131Data u pkt univ cid prio seq preview term start slots) s
    (settle (e131Data s u pkt.len pkt.dest univ cid prio seq preview term start slots))

/-- E131_SYNC (R175): an E1.31 sync packet moves the held universes of its address into the universe store. -/
def execE131Sync (u : Nat) (pkt : E131Sync) (s : State) : Host.Outcome State Fault Refusal :=
  guarded (.e131Sync u pkt) s (settle (e131Sync s u pkt.len pkt.addr))

/-- INGEST_ITEM_CLOSE (R144): an open INGEST_FIX item is closed and enqueued 20 µs after its first frame arrived. -/
def execIngestItemClose (u layer : Nat) (s : State) : Host.Outcome State Fault Refusal :=
  guarded (.ingestItemClose u layer) s (settle (ingestItemClose s u layer))

/-- STREAM_LOSS (R170): A stream with no packet for three frame periods is lost and its SSRC lock released. -/
def execStreamLoss (n : Nat) (s : State) : Host.Outcome State Fault Refusal :=
  guarded (.streamLoss n) s (settle (streamLoss s n))

/-- E131_SOURCE_TIMEOUT (R173): A universe source silent for 2.5 s is lost and the universe keeps its last slots. -/
def execE131SourceTimeout (e : Nat) (s : State) : Host.Outcome State Fault Refusal :=
  guarded (.e131SourceTimeout e) s (e131SourceTimeout s e)

/-- E131_SYNC_TIMEOUT (R175): A sync address without a sync packet for 2.5 s has its universes treated as
unsynchronised. -/
def execE131SyncTimeout (addr : Nat) (s : State) : Host.Outcome State Fault Refusal :=
  guarded (.e131SyncTimeout addr) s (e131SyncTimeout s addr)

/-- E131_SCATTER (R176): at s_k, changed E1.31 layers take a FREE slot and enqueue their scatter items on flow 247. -/
def execE131Scatter (dom : Nat) (s : State) : Host.Outcome State Fault Refusal :=
  guarded (.e131Scatter dom) s (settle (e131Scatter s dom))

/-- MAP_RUN_WRITE (R190): A run WRITE checks the run against index range, profile and occupancy and replaces the
entry. -/
def execMapRunWrite (req : Nat) (s : State) : Host.Outcome State Fault Refusal :=
  guarded (.mapRunWrite req) s (viaBus s req 0x0B0054 2#32)

/-- MAP_RUN_CLEAR (R191): MAP_OP.CLEAR writes an empty run and releases its endpoints. -/
def execMapRunClear (req : Nat) (s : State) : Host.Outcome State Fault Refusal :=
  guarded (.mapRunClear req) s (viaBus s req 0x0B0054 4#32)

/-- ENG_RST (R129): ENG_RST resets the selected engines, returning any item in service to its flow. -/
def execEngRst (req : Nat) (v : Word) (s : State) : Host.Outcome State Fault Refusal :=
  guarded (.engRst req v) s (viaBus s req R.ENG_RST v)

/-- ENG_CLR (R196): ENG_CLR clears the render counters and ENG_FAULT.COUNT. -/
def execEngClr (req : Nat) (s : State) : Host.Outcome State Fault Refusal :=
  guarded (.engClr req) s (viaBus s req R.ENG_CLR 1#32)

end Sys2Proof.Machine
end

