-- ==== Sys2Proof/Machine/CmdPresent.lean ====
section
/-! DEFINITION. Commands of presentation timing, cues and picture checks (chapter 7). -/

namespace Sys2Proof.Machine

/-- A reply of a node arrives on a push port (R271, R293): one of an older fencing epoch has been dropped by check 8, one
of a newer epoch fences this member. -/
def nodeReply (s : State) (port epoch : Nat) (act : State → State) : State :=
  if !(linkUp s (ppPage port) && s.en (ppPage port)) || decide (epoch < fence s) then s
  else act (replyFence s port epoch)

/-! The meanings -/

/-- LATCH_POINT (R227): at L_k a domain applies its pending sets, advances its epoch, updates its surfaces and
enqueues renders and checks. -/
def execLatchPoint (dom : Nat) (s : State) : Host.Outcome State Fault Refusal :=
  guarded (.latchPoint dom) s (settle (latchPoint (handover s) dom))

/-- CUE_ARM (R245): TDM_QARMOP.GO enqueues a CUE item for the chosen epoch or time. -/
def execCueArm (req : Nat) (s : State) : Host.Outcome State Fault Refusal :=
  guarded (.cueArm req) s (viaBus s req R.TDM_QARMOP 1#32)

/-- EXPECTED_PUSH (R251): CHK_XOP.PUSH appends an expected value to a rectangle's queue. -/
def execExpectedPush (req : Nat) (s : State) : Host.Outcome State Fault Refusal :=
  guarded (.expectedPush req) s (viaBus s req R.CHK_XOP 1#32)

/-- EXPECTED_FLUSH (R251): CHK_XOP.FLUSH empties a rectangle's expected-value queue. -/
def execExpectedFlush (req : Nat) (s : State) : Host.Outcome State Fault Refusal :=
  guarded (.expectedFlush req) s (viaBus s req R.CHK_XOP 2#32)

/-- ECHO_REP (R254): an ECHO_REP from a node is compared with the computed CRC and recorded. -/
def execEchoRep (port node first count p crc fep : Nat) (s : State) : Host.Outcome State Fault Refusal :=
  guarded (.echoRep port node first count p crc fep) s
    (settle (nodeReply s port fep fun t => echoRep t port node first count p crc))

/-- ECHO_TIMEOUT (R254): with no echo reply by P_e + CHK_ECHOTO, ECHO_TIMEOUT is recorded. -/
def execEchoTimeout (rect : Nat) (s : State) : Host.Outcome State Fault Refusal :=
  guarded (.echoTimeout rect) s (settle (echoTimeout s rect))

end Sys2Proof.Machine
end

