-- ==== Sys2Proof/Machine/CmdPush.lean ====
section
/-! DEFINITION. Commands of the push ports and the frame MACs (chapters 8 and 9). -/

namespace Sys2Proof.Machine

/-- LINK_UP (R313, R314). -/
def linkUpCmd (s : State) (pg : Nat) : State := onIsl s pg (ptpTouch (linkComesUp s pg))

/-- LINK_DOWN (R314, R315), with what follows for self-diagnosis and PTP. -/
def linkDownCmd (s : State) (pg : Nat) : State :=
  let t := linkGoesDown s pg
  ptpTouch (if (s.mac pg).link && (pg == 0x10 || pg == 0x11) then uplinkDown t else t)

/-! The meanings -/

/-- FRAME_TX_START (R277): at the start of transmission a Perfer-OUT frame is order-checked, served, restamped or
dropped, and numbered. -/
def execFrameTxStart (x : MacTurn) (s : State) : Host.Outcome State Fault Refusal :=
  guarded (.frameTxStart x) s (settle (txStart s x.page x.med))

/-- FRAME_TX_END (R127): A frame leaving the MAC returns its credit to the port pool. -/
def execFrameTxEnd (page : Nat) (s : State) : Host.Outcome State Fault Refusal :=
  guarded (.frameTxEnd page) s (settle (txEnd s page))

/-- POLL_REP (R280): A POLL_REP matching an outstanding poll marks the node PRESENT and stores its status. -/
def execPollRep (port node seq : Nat) (hd : PollHead) (fenceHeld lastSeq serial mac fep : Nat) (s : State) :
    Host.Outcome State Fault Refusal :=
  guarded (.pollRep port node seq hd fenceHeld lastSeq serial mac fep) s
    (settle (nodeReply s port fep fun t => pollRep t port node seq hd.kind hd.nflags fenceHeld lastSeq serial mac))

/-- ENUM_REP (R265): an ENUM_REP is handled by Table 8-6, assigning or demoting the node. -/
def execEnumRep (port serial addr mac fep : Nat) (s : State) : Host.Outcome State Fault Refusal :=
  guarded (.enumRep port serial addr mac fep) s (settle (nodeReply s port fep fun t => enumRep t port serial addr mac))

/-- ASSIGN_ACK (R266): an ASSIGN_ACK from a node confirms its address. -/
def execAssignAck (port serial addr fep : Nat) (s : State) : Host.Outcome State Fault Refusal :=
  guarded (.assignAck port serial addr fep) s (settle (nodeReply s port fep fun t => assignAck t port serial addr))

/-- ASSIGN_TIMEOUT (R266): with no ASSIGN_ACK 10 ms after an ASSIGN, NOREPLY increases. -/
def execAssignTimeout (port : Nat) (s : State) : Host.Outcome State Fault Refusal :=
  guarded (.assignTimeout port) s (assignTimeout s port)

/-- POLL_TIMEOUT (R280): A poll without a reply within W7 µs counts a miss, and a third miss sets the node ABSENT. -/
def execPollTimeout (port : Nat) (s : State) : Host.Outcome State Fault Refusal :=
  guarded (.pollTimeout port) s (settle (pollTimeout s port))

/-- ENUM_DONE (R267): ENUM_DONE is set WINDOW + 10 ms after the ENUM left. -/
def execEnumDone (port : Nat) (s : State) : Host.Outcome State Fault Refusal :=
  guarded (.enumDone port) s (settle (enumDone s port))

/-- PP_CLR_CNT (R287): PPn_CLR.CNT clears the port counters. -/
def execPpClrCnt (req port : Nat) (s : State) : Host.Outcome State Fault Refusal :=
  guarded (.ppClrCnt req port) s (viaBus s req (R.PP_CLR port) 1#32)

/-- PP_CLR_CREDMIN (R275): PPn_CLR.CREDMIN sets CREDSTAT.MIN to FREE. -/
def execPpClrCredmin (req port : Nat) (s : State) : Host.Outcome State Fault Refusal :=
  guarded (.ppClrCredmin req port) s (viaBus s req (R.PP_CLR port) 2#32)

/-- FRAME_RECEIVE (R291): A received frame passes the checks of Table 9-2 in order and is handed to its client or
dropped and counted. -/
def execFrameReceive (page : Nat) (f : RxFrame) (s : State) : Host.Outcome State Fault Refusal :=
  guarded (.frameReceive page f) s (settle (frameReceive s page f))

/-- PAUSE_RECEIVE (R297): A received PAUSE starts, replaces or ends the transmit hold of the port. -/
def execPauseReceive (page quanta : Nat) (s : State) : Host.Outcome State Fault Refusal :=
  guarded (.pauseReceive page quanta) s (onLink s page (pauseReceive s page quanta))

/-- PAUSE_HOLD_END (R297): the hold ends when pause_time × 512 bit times have elapsed. -/
def execPauseHoldEnd (page : Nat) (s : State) : Host.Outcome State Fault Refusal :=
  guarded (.pauseHoldEnd page) s (pauseHoldEnd s page)

/-- PAUSE_LONG (R298): A continuous hold reaching MAC_PAUSE.LONG sets PAUSE_LONG once. -/
def execPauseLong (page : Nat) (s : State) : Host.Outcome State Fault Refusal :=
  guarded (.pauseLong page) s (settle (pauseLong s page))

/-- PAUSE_REPEAT (R300): every 0.5 ms while FREE stays below 2X, the PAUSE is repeated. -/
def execPauseRepeat (page : Nat) (s : State) : Host.Outcome State Fault Refusal :=
  guarded (.pauseRepeat page) s (settle (pauseRepeat s page))

/-- BUS_COLLISION (R309): A collision on a B bus jams, counts and starts a backoff, discarding the frame after 16
attempts. -/
def execBusCollision (page : Nat) (s : State) : Host.Outcome State Fault Refusal :=
  guarded (.busCollision page) s (settle (busCollision s page))

/-- LATE_COLLISION (R310): A collision after 512 bit times abandons the frame without retry. -/
def execLateCollision (page : Nat) (s : State) : Host.Outcome State Fault Refusal :=
  guarded (.lateCollision page) s (settle (lateCollision s page))

/-- BUS_BACKOFF_END (R309): at the end of the backoff the B MAC defers and retries, reapplying Table 8-7. -/
def execBusBackoffEnd (x : MacTurn) (s : State) : Host.Outcome State Fault Refusal :=
  guarded (.busBackoffEnd x) s (settle (busBackoffEnd s x.page x.med))

/-- LINK_UP (R314): A link with block lock and no fault for 50 ms comes up. -/
def execLinkUp (page : Nat) (s : State) : Host.Outcome State Fault Refusal :=
  guarded (.linkUp page) s (settle (linkUpCmd s page))

/-- LINK_DOWN (R314): A link that loses lock or fault-free state for 1 ms goes down and its queues are dropped. -/
def execLinkDown (page : Nat) (s : State) : Host.Outcome State Fault Refusal :=
  guarded (.linkDown page) s (settle (linkDownCmd s page))

/-- SFP_INSERT (R317): MOD_ABS low for 300 ms marks a module inserted and its A0h page is cached and checked. -/
def execSfpInsert (page : Nat) (a0 a2 : List Byte) (s : State) : Host.Outcome State Fault Refusal :=
  guarded (.sfpInsert page a0 a2) s (settle (onIsl s page (sfpInsert s page a0 a2)))

/-- SFP_REMOVE (R317): removal of an SFP module clears its cache and sets SFP_CHANGE. -/
def execSfpRemove (page : Nat) (s : State) : Host.Outcome State Fault Refusal :=
  guarded (.sfpRemove page) s (settle (onIsl s page (sfpRemove s page)))

/-- SFP_DIAG_REFRESH (R317): every 100 ms the A2h diagnostics of an inserted module are refreshed. -/
def execSfpDiagRefresh (page : Nat) (a2 : List Byte) (s : State) : Host.Outcome State Fault Refusal :=
  guarded (.sfpDiagRefresh page a2) s (onIsl s page (sfpDiag s page a2))

/-- TX_FAULT (R318): TX_FAULT rising on a cage sets MAC_EVRAW.TX_FAULT. -/
def execTxFault (page : Nat) (level rxLos : Bool) (s : State) : Host.Outcome State Fault Refusal :=
  guarded (.txFault page level rxLos) s (settle (onIsl s page (txFault s page level rxLos)))

/-- MAC_CLR_CNT (R291): MAC_CLR.CNT clears the MAC counters. -/
def execMacClrCnt (req page : Nat) (s : State) : Host.Outcome State Fault Refusal :=
  guarded (.macClrCnt req page) s (viaBus s req (R.MAC_CLR page) 1#32)

/-- MAC_CLR_RINGMIN (R295): MAC_CLR.RINGMIN sets MAC_RING.MIN to the free count. -/
def execMacClrRingmin (req page : Nat) (s : State) : Host.Outcome State Fault Refusal :=
  guarded (.macClrRingmin req page) s (viaBus s req (R.MAC_CLR page) 2#32)

/-- SAK_REKEY (R514): the key server starts a new SAK at the packet-number limit or after REKEY seconds. -/
def execSakRekey (port peer : Nat) (s : State) : Host.Outcome State Fault Refusal :=
  guarded (.sakRekey port peer) s (settle (whenUp s [12] (sakRekey s port peer)))

end Sys2Proof.Machine
end

