-- ==== Sys2Proof/Machine/CmdDrive.lean ====
section
/-! DEFINITION. Commands of the local drive (chapter 10). -/

namespace Sys2Proof.Machine

/-! The meanings -/

/-- L_PUSH_READ (R327): the L reader reads a PORT 16 push and writes its kept words into a pending image. -/
def execLPushRead (s : State) : Host.Outcome State Fault Refusal :=
  guarded .lPushRead s (settle (lPushRead s))

/-- IMAGE_APPLY (R329): at P the pending image's words replace those of the current image. -/
def execImageApply (s : State) : Host.Outcome State Fault Refusal :=
  guarded .imageApply s (settle (onDrive s (imageApply s (now32 s))))

/-- DRIVE_PRESENTATION (R330): at P_k the outputs present the current image, restart sub-periods and scan frames and
apply the new derating factor. -/
def execDrivePresentation (m : DrvMeas) (s : State) : Host.Outcome State Fault Refusal :=
  guarded (.drivePresentation m) s (settle (onDrive s (drivePresentation s m)))

/-- STRING_MEASUREMENT (R336): at the end of an on-interval a string's forward voltage is measured and the rail
setpoint recomputed. -/
def execStringMeasurement (n vrail vsink imeas ticks : Nat) (s : State) : Host.Outcome State Fault Refusal :=
  guarded (.stringMeasurement n vrail vsink imeas ticks) s
    (settle (onDrive s (stringMeasurement s n vrail vsink imeas ticks)))

/-- STRING_FAULT (R341): an OPEN or SHORT fault turns the string off and latches the fault. -/
def execStringFault (n : Nat) (short : Bool) (s : State) : Host.Outcome State Fault Refusal :=
  guarded (.stringFault n short) s (settle (onDrive s (stringFault s n short)))

/-- RAIL_FAULT (R340): A rail over voltage or over current is disabled and its fault latched. -/
def execRailFault (r : Nat) (s : State) : Host.Outcome State Fault Refusal :=
  guarded (.railFault r) s (settle (onDrive s (railFault s r)))

/-- DRV_FCLR_RAIL (R340): DRV_FCLR.RAIL clears a rail fault, which restarts from the next P_k. -/
def execDrvFclrRail (req mask : Nat) (s : State) : Host.Outcome State Fault Refusal :=
  guarded (.drvFclrRail req mask) s (viaBus s req R.DRV_FCLR (w32 mask))

/-- DRV_FCLR_MXSUP (R351): DRV_FCLR.MXSUP clears the matrix supply fault. -/
def execDrvFclrMxsup (req : Nat) (s : State) : Host.Outcome State Fault Refusal :=
  guarded (.drvFclrMxsup req) s (viaBus s req R.DRV_FCLR 16#32)

/-- STR_FCLR (R341): STR_FCLR0 or STR_FCLR1 clears string fault latches. -/
def execStrFclr (req half : Nat) (v : Word) (s : State) : Host.Outcome State Fault Refusal :=
  guarded (.strFclr req half v) s (viaBus s req (R.STR_FCLR half) v)

/-- DRV_CLR (R327): DRV_CLR.CNT clears the port L counters. -/
def execDrvClr (req : Nat) (s : State) : Host.Outcome State Fault Refusal :=
  guarded (.drvClr req) s (viaBus s req R.DRV_CLR 1#32)

/-- MX_FRAME_LATCH (R349): at the end of the last line of pass 31, committed MX sets become due for the next scan
frame. -/
def execMxFrameLatch (x : Nat) (s : State) : Host.Outcome State Fault Refusal :=
  guarded (.mxFrameLatch x) s (settle (onDrive s (mxFrameLatch s x)))

/-- MX_FRAME_CUT (R350): A clamped scan frame still running at P_{k+1} is stopped and counted. -/
def execMxFrameCut (x : Nat) (s : State) : Host.Outcome State Fault Refusal :=
  guarded (.mxFrameCut x) s (settle (onDrive s (mxFrameCut s x)))

/-- MX_COLUMN_FAULT (R351): A column open or short seen in 3 consecutive frames is recorded while driving continues.
-/
def execMxColumnFault (x c : Nat) (short : Bool) (s : State) : Host.Outcome State Fault Refusal :=
  guarded (.mxColumnFault x c short) s (settle (onDrive s (mxColumnFault s x c short)))

/-- MX_LINE_SHORT (R351): A line short stops the port's scanning and opens its lines. -/
def execMxLineShort (x l : Nat) (s : State) : Host.Outcome State Fault Refusal :=
  guarded (.mxLineShort x l) s (settle (onDrive s (mxLineShort s x l)))

/-- MX_SUPPLY_FAULT (R351): A matrix supply fault stops both ports. -/
def execMxSupplyFault (s : State) : Host.Outcome State Fault Refusal :=
  guarded .mxSupplyFault s (settle (onDrive s (mxSupplyFault s)))

/-- MX_FCLR_COL (R351): MXn_FCLR.COL clears the open and short column records. -/
def execMxFclrCol (req x : Nat) (s : State) : Host.Outcome State Fault Refusal :=
  guarded (.mxFclrCol req x) s (viaBus s req (R.MX_FCLR x) 1#32)

/-- MX_FCLR_LINE (R351): MXn_FCLR.LINE clears LSHORT so scanning resumes at the next P_k. -/
def execMxFclrLine (req x : Nat) (s : State) : Host.Outcome State Fault Refusal :=
  guarded (.mxFclrLine req x) s (viaBus s req (R.MX_FCLR x) 2#32)

end Sys2Proof.Machine
end

