-- ==== Sys2Proof/Machine/CmdMeter.lean ====
section
/-! DEFINITION. Commands of energy metering (chapter 11). -/

namespace Sys2Proof.Machine

/-! The meanings -/

/-- METER_QUANTUM (R356): every 125 µs each channel yields a sample and the quantum's energies are computed and
buffered for folding. -/
def execMeterQuantum (x : MtrSample) (s : State) : Host.Outcome State Fault Refusal :=
  guarded (.meterQuantum x) s (settle (whenUp s [10] (meterQuantum s x)))

/-- METER_FOLD_ENQUEUE (R371): whenever flow 240 has room, the metering island enqueues items covering its oldest
uncovered quanta. -/
def execMeterFoldEnqueue (s : State) : Host.Outcome State Fault Refusal :=
  guarded .meterFoldEnqueue s (settle (whenUp s [10] (foldEnqueue s)))

/-- LINE_CYCLE (R359): at each positive zero crossing of the reference voltage, fundamental quantities of the cycle
are computed. -/
def execLineCycle (s : State) : Host.Outcome State Fault Refusal :=
  guarded .lineCycle s (settle (whenUp s [10] (lineCycle s)))

/-- ENERGY_SAVE (R380): at each save time an ENERGY record is submitted. -/
def execEnergySave (s : State) : Host.Outcome State Fault Refusal :=
  guarded .energySave s (settle (whenUp s [10] (energySave s)))

/-- PULSE_EMIT (R374): A pulse output closes for WIDTH ms for its next queued spill once the previous pulse and gap
have ended. -/
def execPulseEmit (k : Nat) (s : State) : Host.Outcome State Fault Refusal :=
  guarded (.pulseEmit k) s (whenUp s [10] (pulseEmit s k))

/-- SEAL_CLOSE (R387): MTR_SEAL.CLOSE seals calibration and appends a METER_CAL record. -/
def execSealClose (req : Nat) (s : State) : Host.Outcome State Fault Refusal :=
  guarded (.sealClose req) s (viaBus s req R.MTR_SEAL 2#32)

/-- SNAPSHOT_TAKE (R369): ACC_SNAP.TAKE copies every accumulator between two folds for the requester. -/
def execSnapshotTake (req : Nat) (use : Bool) (s : State) : Host.Outcome State Fault Refusal :=
  guarded (.snapshotTake req use) s (viaBus s req R.ACC_SNAP (w32 (1 + 2 * b2n use)))

end Sys2Proof.Machine
end

