-- ==== Sys2Proof/Machine/CmdTime.lean ====
section
/-! DEFINITION. Commands of the local clock, PTP and the timing inputs (chapter 12). -/

namespace Sys2Proof.Machine

/-! The meanings -/

/-- CLOCK_STEP_ABS (R396): CLK_STEPOP.ABS sets the local clock at the next tick and ends earlier slews. -/
def execClockStepAbs (req : Nat) (s : State) : Host.Outcome State Fault Refusal :=
  guarded (.clockStepAbs req) s (viaBus s req R.CLK_STEPOP 1#32)

/-- CLOCK_STEP_REL (R396): CLK_STEPOP.REL adds the step value to the local clock at the next tick. -/
def execClockStepRel (req : Nat) (s : State) : Host.Outcome State Fault Refusal :=
  guarded (.clockStepRel req) s (viaBus s req R.CLK_STEPOP 2#32)

/-- CLOCK_SLEW (R395): A write of CLK_SLEW starts a slew at the next tick, discarding any earlier one. -/
def execClockSlew (req : Nat) (v : Word) (s : State) : Host.Outcome State Fault Refusal :=
  guarded (.clockSlew req v) s (viaBus s req R.CLK_SLEW v)

/-- SLEW_END (R395): on the last tick of a slew only the remainder is applied and the slew ends. -/
def execSlewEnd (s : State) : Host.Outcome State Fault Refusal :=
  guarded .slewEnd s (settle (whenUp s [9] (slewEnd s)))

/-- CLOCK_INC (R394): A write of CLK_INC changes the rate from the next tick. -/
def execClockInc (req : Nat) (v : Word) (s : State) : Host.Outcome State Fault Refusal :=
  guarded (.clockInc req v) s (viaBus s req R.CLK_INC v)

/-- CLOCK_MODE (R393): A write of CLK_CTL.MODE changes RAW or NORMAL mode, ending any slew on RAW. -/
def execClockMode (req : Nat) (v : Word) (s : State) : Host.Outcome State Fault Refusal :=
  guarded (.clockMode req v) s (viaBus s req R.CLK_CTL v)

/-- SETVALID (R398): CLK_CTL.SETVALID sets the local clock valid. -/
def execSetvalid (req : Nat) (v : Word) (s : State) : Host.Outcome State Fault Refusal :=
  guarded (.setvalid req v) s (viaBus s req R.CLK_CTL v)

/-- CLOCK_READ (R397): A read of CLK_NOWNS latches the seconds of the same instant for the requester. -/
def execClockRead (req : Nat) (s : State) : Host.Outcome State Fault Refusal :=
  guarded (.clockRead req) s (viaBusRead s req R.CLK_NOWNS)

/-- SERVO_MEASUREMENT (R402): each offset measurement drives the servo state and its step, slew or frequency
correction. -/
def execServoMeasurement (inc : Option Nat) (s : State) : Host.Outcome State Fault Refusal :=
  guarded (.servoMeasurement inc) s (settle (whenUp s [9] (firmwareActs (servoMeasurement s inc))))

/-- SOURCE_CHANGE (R401): the servo changes to a more preferred source once it has been available for REVERT seconds.
-/
def execSourceChange (s : State) : Host.Outcome State Fault Refusal :=
  guarded .sourceChange s (settle (whenUp s [9] (sourceChange s)))

/-- SOURCE_LOSS (R402): loss of every selected source sends the servo to HOLDOVER or FREE. -/
def execSourceLoss (s : State) : Host.Outcome State Fault Refusal :=
  guarded .sourceLoss s (settle (whenUp s [9] (firmwareActs (sourceLoss s))))

/-- HOLD_EXPIRED (R402): after HOLDSPEC seconds of holdover INSPEC becomes 0. -/
def execHoldExpired (s : State) : Host.Outcome State Fault Refusal :=
  guarded .holdExpired s (settle (whenUp s [9] (holdExpired s)))

/-- SECONDS_COUNTER_SYNC (R399): at every whole second while VALID, the local clock's seconds are written to the
Gauntlet counter. -/
def execSecondsCounterSync (s : State) : Host.Outcome State Fault Refusal :=
  guarded .secondsCounterSync s (whenUp s [9] (secondsSync s))

/-- PTP_MESSAGE_RECEIVE (R406): A received PTP message is processed by its instance's state machine. -/
def execPtpMessageReceive (port dom : Nat) (m : PtpMsg) (s : State) : Host.Outcome State Fault Refusal :=
  guarded (.ptpMessageReceive port dom m) s (settle (whenUp s [9] (ptpReceive s port dom m)))

/-- PTP_SYNC_SEND (R407): instance H or N sends a Sync and its Follow_Up at its configured interval. -/
def execPtpSyncSend (port : Nat) (s : State) : Host.Outcome State Fault Refusal :=
  guarded (.ptpSyncSend port) s (settle (whenUp s [9] (ptpSyncSend s port)))

/-- PTP_ANNOUNCE_SEND (R407): instance H or N sends an Announce with its current data set. -/
def execPtpAnnounceSend (port : Nat) (s : State) : Host.Outcome State Fault Refusal :=
  guarded (.ptpAnnounceSend port) s (settle (whenUp s [9] (ptpAnnounceSend s port)))

/-- PTP_DELAY_REQ_SEND (R406): instance U sends a Delay_Req at the granted rate. -/
def execPtpDelayReqSend (port : Nat) (s : State) : Host.Outcome State Fault Refusal :=
  guarded (.ptpDelayReqSend port) s (settle (whenUp s [9] (ptpDelayReqSend s port)))

/-- ANNOUNCE_TIMEOUT (R407): announceReceiptTimeout on a U, H or M port changes its PTP state. -/
def execAnnounceTimeout (port : Nat) (s : State) : Host.Outcome State Fault Refusal :=
  guarded (.announceTimeout port) s (settle (whenUp s [9] (announceTimeout s port)))

/-- PPS_OUT (R411): PPS out rises at each whole second plus OFS and falls after WIDTH ms. -/
def execPpsOut (s : State) : Host.Outcome State Fault Refusal :=
  guarded .ppsOut s (whenUp s [9] (ppsOut s))

/-- PPS_IN_EDGE (R412): A PPS input edge is timestamped and its error from the nearest second reported. -/
def execPpsInEdge (t : Nat) (falling : Bool) (s : State) : Host.Outcome State Fault Refusal :=
  guarded (.ppsInEdge t falling) s (settle (whenUp s [9] (ppsInEdge s t falling)))

/-- PPS_LOST (R412): no PPS edge within 1.1 s clears PPSOK and sets PPS_LOST. -/
def execPpsLost (s : State) : Host.Outcome State Fault Refusal :=
  guarded .ppsLost s (settle (whenUp s [9] (ppsLost s)))

/-- LTC_FRAME (R413): A decoded LTC frame is timestamped and feeds the lock state and fit. -/
def execLtcFrame (t h m sec f : Nat) (s : State) : Host.Outcome State Fault Refusal :=
  guarded (.ltcFrame t h m sec f) s (settle (whenUp s [9] (ltcFrame s t h m sec f)))

/-- LTC_FRAME_MISSING (R414): four consecutive missing LTC frames unlock the LTC input. -/
def execLtcFrameMissing (s : State) : Host.Outcome State Fault Refusal :=
  guarded .ltcFrameMissing s (settle (whenUp s [9] (ltcMissing s)))

/-- WCLK_EDGE (R415): A word-clock rising edge is timestamped and feeds the fit and lock state. -/
def execWclkEdge (t : Nat) (s : State) : Host.Outcome State Fault Refusal :=
  guarded (.wclkEdge t) s (settle (whenUp s [9] (wclkEdge s t)))

/-- WCLK_MISSING (R414): no word-clock edge for 4 periods unlocks the input. -/
def execWclkMissing (s : State) : Host.Outcome State Fault Refusal :=
  guarded .wclkMissing s (settle (whenUp s [9] (wclkMissing s)))

end Sys2Proof.Machine
end

