-- ==== Sys2Proof/Machine/CmdHatband.lean ====
section
/-! DEFINITION. Commands of the Hatband (chapter 13). -/

namespace Sys2Proof.Machine

/-- Payload of an ANNOUNCE (Table 13-2). -/
def announcePayload (serial claim : Nat) (svc reg : Bool) (epoch : Nat) : List Byte :=
  beBytes 8 serial ++ beBytes 4 (nsOf claim) ++ beBytes 6 (secOf claim) ++ beBytes 1 (b2n svc + 2 * b2n reg) ++ beBytes 1 0 ++
    beBytes 4 (if svc then epoch else 0)

/-- ANNOUNCE (R427, R431, R432, R434, R435, R466). One of the own service address with an older fencing epoch has been
dropped by check 8. -/
def announceCmd (s : State) (port dst src id serial claim : Nat) (svc reg : Bool) (epoch : Nat) : State :=
  if svc && src == svcAddr s && decide (epoch < fence s) then s
  else
    let f : Ryu := ⟨0x02, dst, src, id, announcePayload serial claim svc reg epoch⟩
    let s1 := onHb s port (lapRx s port f)
    ringFrame s1 port f fun t =>
      if svc then
        let u := annSvcRx t src serial claim epoch
        -- for the pair's service address, under the pair's name or another's (R466)
        if (src = svcAddr t ∨ (serial = pairId t ∧ pairId t ≠ 0)) ∧ fence t < epoch then fencedOut u else u
      else annRx t src serial claim

/-! The meanings -/

/-- HELLO_SEND (R425): each enabled H port with link up sends a HELLO every 1 ms. -/
def execHelloSend (port : Nat) (s : State) : Host.Outcome State Fault Refusal :=
  guarded (.helloSend port) s (settle (onHb s port (helloSend s port)))

/-- HELLO (R425): A received HELLO updates the neighbour and may make the port UP. -/
def execHello (port sender src serial : Nat) (rxok : Bool) (s : State) : Host.Outcome State Fault Refusal :=
  guarded (.hello port sender src serial rxok) s (settle (onHb s port (helloRx s port sender src serial rxok)))

/-- HELLO_LOSS (R426): no HELLO with RXOK for 5 ms takes the port out of UP and sends a BREAK. -/
def execHelloLoss (port : Nat) (s : State) : Host.Outcome State Fault Refusal :=
  guarded (.helloLoss port) s (settle (whenUp s [7] (helloLoss s port)))

/-- BREAK (R427): A received BREAK moves the ring state from RING to CHAIN. -/
def execBreakFrame (port dst src id lost nbr : Nat) (s : State) : Host.Outcome State Fault Refusal :=
  guarded (.breakFrame port dst src id lost nbr) s
    (settle (ringFrame s port ⟨0x05, dst, src, id, beBytes 1 lost ++ beBytes 1 nbr⟩ fun t => breakRx t src lost))

/-- ANNOUNCE_SEND (R431): an assigned module sends an ANNOUNCE every 100 ms and on change. -/
def execAnnounceSend (s : State) : Host.Outcome State Fault Refusal :=
  guarded .announceSend s (settle (whenUp s [7] (announceSend s)))

/-- ANNOUNCE (R432): A received ANNOUNCE updates the ring table, resolves duplicates and may close the ring. -/
def execAnnounce (port dst src id serial claim : Nat) (svc reg : Bool) (fep : Nat) (s : State) :
    Host.Outcome State Fault Refusal :=
  guarded (.announce port dst src id serial claim svc reg fep) s
    (settle (announceCmd s port dst src id serial claim svc reg fep))

/-- JOIN_SEND (R428): A JOINING module sends a JOIN every 20 ms, or 1 s after NOROOM. -/
def execJoinSend (s : State) : Host.Outcome State Fault Refusal :=
  guarded .joinSend s (settle (whenUp s [7] (joinSend s)))

/-- JOIN (R429): the registrar answers a received JOIN with an ASSIGN per Table 13-4. -/
def execJoin (port dst src id serial want : Nat) (svc : Bool) (s : State) : Host.Outcome State Fault Refusal :=
  guarded (.join port dst src id serial want svc) s
    (settle (ringFrame s port ⟨0x03, dst, src, id, beBytes 8 serial ++ beBytes 1 want ++ beBytes 1 (b2n svc)⟩ fun t => joinRx t serial want svc))

/-- ASSIGN (R428): A received ASSIGN naming the module's serial gives it its address. -/
def execAssign (port dst src id serial addr : Nat) (svc : Bool) (s : State) : Host.Outcome State Fault Refusal :=
  guarded (.assign port dst src id serial addr svc) s
    (settle (ringFrame s port ⟨0x04, dst, src, id, beBytes 8 serial ++ beBytes 1 addr ++ beBytes 1 (b2n svc)⟩ fun t => assignRx t serial addr svc))

/-- SELF_ASSIGN (R430): A JOINING module unanswered after 3 JOINs and 300 ms assigns itself and becomes registrar. -/
def execSelfAssign (s : State) : Host.Outcome State Fault Refusal :=
  guarded .selfAssign s (settle (whenUp s [7] (selfAssign s)))

/-- PRESENT_EXPIRE (R429): an entry not announced for 300 ms leaves PRESENT. -/
def execPresentExpire (addr : Nat) (s : State) : Host.Outcome State Fault Refusal :=
  guarded (.presentExpire addr) s (settle (whenUp s [7] (presentExpire s addr)))

/-- LEAVE (R433): writing HB_CTL.JOIN = 0 sends a LEAVE and sets the address to 0. -/
def execLeave (req : Nat) (s : State) : Host.Outcome State Fault Refusal :=
  guarded (.leave req) s (viaBus s req (R.HB_CTL 0) (setBit (s.reg (R.HB_CTL 0)) 0 false))

/-- LEAVE_RECEIVE (R433): A received LEAVE marks the sender's entry RESERVED. -/
def execLeaveReceive (port dst src id serial : Nat) (s : State) : Host.Outcome State Fault Refusal :=
  guarded (.leaveReceive port dst src id serial) s
    (settle (ringFrame s port ⟨0x06, dst, src, id, beBytes 8 serial⟩ fun t => leaveRx t src serial))

/-- HB_FORGET (R433): HB_TOP.FORGET sends a FORGET frame for a non-PRESENT entry. -/
def execHbForget (req page : Nat) (s : State) : Host.Outcome State Fault Refusal :=
  guarded (.hbForget req page) s (viaBus s req (0x220150 + 0x10000 * page) 4#32)

/-- FORGET (R433): A received FORGET sets the named entry FREE. -/
def execForget (port dst src id addr : Nat) (s : State) : Host.Outcome State Fault Refusal :=
  guarded (.forget port dst src id addr) s
    (settle (ringFrame s port ⟨0x07, dst, src, id, beBytes 1 addr ++ beBytes 1 0⟩ fun t => forgetEntry t addr))

/-- EVENT_SEND (R438): A rise of a relayed group's pending bits sends an EVENT frame. -/
def execEventSend (s : State) : Host.Outcome State Fault Refusal :=
  guarded .eventSend s (settle (whenUp s [7] (eventSend s)))

/-- EVENT (R438): A received EVENT is queued, or discarded when the queue is full. -/
def execEvent (port dst src id group bits ns sec : Nat) (s : State) : Host.Outcome State Fault Refusal :=
  guarded (.event port dst src id group bits ns sec) s
    (settle (ringFrame s port ⟨0x10, dst, src, id, beBytes 1 group ++ beBytes 1 0 ++ beBytes 4 bits ++ beBytes 4 ns ++ beBytes 6 sec⟩ fun t => eventRx t ⟨src, group, bits, ns, sec⟩))

/-- HB_EVPOP (R438): HB_EVPOP removes the head entry of the event queue. -/
def execHbEvpop (req page : Nat) (s : State) : Host.Outcome State Fault Refusal :=
  guarded (.hbEvpop req page) s (viaBus s req (R.HB_EVPOP page) 1#32)

/-- HB_CLR (R423): HB_CLR.CNT clears the port's Hatband counters. -/
def execHbClr (req page : Nat) (s : State) : Host.Outcome State Fault Refusal :=
  guarded (.hbClr req page) s (viaBus s req (R.HB_CLR page) 1#32)

/-- UPD_SEG (R439): A received UPD_SEG is stored, and a complete chunk is handed to the update block. -/
def execUpdSeg (port img chunk seg : Nat) (data : List Byte) (s : State) : Host.Outcome State Fault Refusal :=
  guarded (.updSeg port img chunk seg data) s (settle (onHb s port (updSeg s port img chunk seg data)))

/-- UPD_ACK (R439): A received UPD_ACK ends the retry of its chunk. -/
def execUpdAck (port img chunk status : Nat) (s : State) : Host.Outcome State Fault Refusal :=
  guarded (.updAck port img chunk status) s (onHb s port (updAckRx s port img chunk))

/-- UPD_ACK_TIMEOUT (R439): with no UPD_ACK 20 ms after the last segment, the chunk is resent, failing after 3 sends.
-/
def execUpdAckTimeout (port img chunk : Nat) (s : State) : Host.Outcome State Fault Refusal :=
  guarded (.updAckTimeout port img chunk) s (settle (whenUp s [7] (updAckTimeout s port img chunk)))

end Sys2Proof.Machine
end

