-- ==== Sys2Proof/Machine/CmdPair.lean ====
section
/-! DEFINITION. Commands of the active and standby pair (chapter 14). -/

namespace Sys2Proof.Machine

/-- What a Cuff frame does: it reaches a bound member whose Cuff is up, and its fencing epoch is not an older one (check 8,
R449). -/
def cuffIn (s : State) (epoch : Nat) (act : State → State) : State :=
  if s.islUp 8 && linkUp s 0x24 && bound s && decide (fence s ≤ epoch) then act s else s

/-- HEARTBEAT (R445, R448, R450): the path, the sender and whether it is the partner. -/
def heartbeatCmd (s : State) (path : HbPath) (role health epoch : Nat) : State :=
  match path with
  | .cuff id serial =>
    cuffIn s epoch fun t =>
      if id = pairId t ∧ serial = peerSerial t then heartbeatRx t false epoch role health else heartbeatForeign t
  | .ring port dst src id =>
    if epoch < fence s then s
    else
      let pl := beBytes 4 epoch ++ beBytes 1 role ++ beBytes 1 0 ++ beBytes 4 health
      ringFrame s port ⟨0x08, dst, src, id, pl⟩ fun t =>
        if !bound t then t
        else if ringSerial t src = peerSerial t ∧ !ringSvc t src then heartbeatRx t true epoch role health
        else heartbeatForeign t

/-- One entry of a MIRROR message of sequence `seq` (R453, R494, Table 14-4). -/
def mirrorEntry (s : State) (seq : Nat) (e : MirEntry) : State :=
  match e with
  | .write a v time =>
    let r := issue { s with pair := { s.pair with mirTime := some time } } 4 a v
    let t := { r.1 with pair := { r.1.pair with mirTime := none } }
    if r.2 = 0 then t else mirrorReject t
  | .record r => mirrorRecord s seq r
  | .acc ws => mirrorAcc s ws

/-- MIRROR (R452, R453, R457). -/
def mirrorCmd (s : State) (epoch seq : Nat) (es : List MirEntry) : State :=
  cuffIn s epoch fun t =>
    let r := if t.arb.waiting.testBit 4 then (t, false) else streamIn t seq
    if r.2 then ackSend (es.foldl (fun u e => mirrorEntry u seq e) r.1) else r.1

/-- EPOCH (R454, R455). -/
def epochCmd (s : State) (epoch seq d k : Nat) (lays : List EpLayer) : State :=
  cuffIn s epoch fun t =>
    let r := streamIn t seq
    if r.2 then ackSend (epochRx r.1 d k lays) else r.1

/-- RESYNC_END (R458). -/
def resyncEndCmd (s : State) (epoch seq status : Nat) : State :=
  cuffIn s epoch fun t =>
    let r := streamIn t seq
    if r.2 then ackSend (resyncEnd r.1 status) else r.1

/-! The meanings -/

/-- PAIR_BIND (R448): MIR_CFG.BIND moves the member between UNBOUND and SEEKING. -/
def execPairBind (req : Nat) (v : Word) (s : State) : Host.Outcome State Fault Refusal :=
  guarded (.pairBind req v) s (viaBus s req R.MIR_CFG v)

/-- HEARTBEAT_SEND (R450): A bound member sends a HEARTBEAT every 500 µs on the Cuff and on the Hatband. -/
def execHeartbeatSend (s : State) : Host.Outcome State Fault Refusal :=
  guarded .heartbeatSend s (settle (whenUp s [12] (heartbeatSend s)))

/-- HEARTBEAT (R448): an accepted partner heartbeat drives the role changes of Table 14-1. -/
def execHeartbeat (path : HbPath) (role health fep : Nat) (s : State) : Host.Outcome State Fault Refusal :=
  guarded (.heartbeat path role health fep) s (settle (heartbeatCmd s path role health fep))

/-- PARTNER_LOSS (R469): no partner heartbeat for 3 ms promotes a synced standby or sets PARTNER_LOST. -/
def execPartnerLoss (s : State) : Host.Outcome State Fault Refusal :=
  guarded .partnerLoss s (settle (whenUp s [12] (partnerLoss s)))

/-- SEEK_TIMEOUT (R448): A SEEKING member without heartbeat for SEEK ms takes an epoch and becomes ACTIVE. -/
def execSeekTimeout (s : State) : Host.Outcome State Fault Refusal :=
  guarded .seekTimeout s (settle (whenUp s [12] (seekTimeout s)))

/-- MIRROR (R453): the standby applies a MIRROR message's entries in stream order. -/
def execMirror (fep seq : Nat) (es : List MirEntry) (s : State) : Host.Outcome State Fault Refusal :=
  guarded (.mirror fep seq es) s (settle (mirrorCmd s fep seq es))

/-- MIRROR_ACK (R456): an ACK releases mirrored messages and completes SYNC appends. -/
def execMirrorAck (fep seq : Nat) (s : State) : Host.Outcome State Fault Refusal :=
  guarded (.mirrorAck fep seq) s (settle (cuffIn s fep fun t => ackRx t seq))

/-- MIRROR_ACK_TIMEOUT (R456): A message unacknowledged for ACKTO puts mirroring into ASYNC. -/
def execMirrorAckTimeout (s : State) : Host.Outcome State Fault Refusal :=
  guarded .mirrorAckTimeout s (settle (whenUp s [12] (ackTimeout s)))

/-- EPOCH (R454): an EPOCH message lets the standby process the named latch point and layer frames. -/
def execEpoch (fep seq dom k : Nat) (lays : List EpLayer) (s : State) : Host.Outcome State Fault Refusal :=
  guarded (.epoch fep seq dom k lays) s (settle (epochCmd s fep seq dom k lays))

/-- EPOCH_WAIT_TIMEOUT (R454): with no EPOCH message by L_k + ACKTO, the standby applies sets by commit time and
clears SYNCED. -/
def execEpochWaitTimeout (dom : Nat) (s : State) : Host.Outcome State Fault Refusal :=
  guarded (.epochWaitTimeout dom) s (settle (whenUp s [12] (epochTimeout s dom)))

/-- YIELD (R463): MIR_CMD.YIELD makes the active choose H and send a YIELD. -/
def execYield (req : Nat) (s : State) : Host.Outcome State Fault Refusal :=
  guarded (.yield req) s (viaBus s req R.MIR_CMD 1#32)

/-- YIELD_RECEIVE (R464): A standby answers a YIELD with YIELD_ACK according to its health, sync and reservation. -/
def execYieldReceive (fep h k cause : Nat) (s : State) : Host.Outcome State Fault Refusal :=
  guarded (.yieldReceive fep h k cause) s (settle (cuffIn s fep fun t => yieldRx t h k cause))

/-- YIELD_ACK (R464): A YIELD_ACK accepts or refuses the pending yield. -/
def execYieldAck (fep status : Nat) (s : State) : Host.Outcome State Fault Refusal :=
  guarded (.yieldAck fep status) s (settle (cuffIn s fep fun t => yieldAck t status))

/-- YIELD_TIMEOUT (R464): with no acceptance within 1 ms the yield is abandoned and YIELD_BLOCKED set. -/
def execYieldTimeout (s : State) : Host.Outcome State Fault Refusal :=
  guarded .yieldTimeout s (settle (whenUp s [12] (yieldTimeout s)))

/-- YIELD_RETRY (R464): 100 ms after a blocked yield the active tries again while the cause persists. -/
def execYieldRetry (s : State) : Host.Outcome State Fault Refusal :=
  guarded .yieldRetry s (settle (whenUp s [12] (yieldRetry s)))

/-- HANDOVER (R465): at H the roles swap, the new active takes its epoch and marks digests and GAPs. -/
def execHandover (s : State) : Host.Outcome State Fault Refusal :=
  guarded .handover s (settle (whenUp s [12] (handover s)))

/-- DIGEST (R460): A DIGEST from the active is compared with the standby's shadow render of the sample tile. -/
def execDigest (fep k : Nat) (ts : List (Nat × Nat × Bool × Nat)) (s : State) : Host.Outcome State Fault Refusal :=
  guarded (.digest fep k ts) s (settle (cuffIn s fep fun t => digestRx t k ts))

/-- RESYNC (R457): MIR_CMD.RESYNC makes the standby send RESYNC_REQ. -/
def execResync (req : Nat) (s : State) : Host.Outcome State Fault Refusal :=
  guarded (.resync req) s (viaBus s req R.MIR_CMD 2#32)

/-- RESYNC_REQ (R458): on RESYNC_REQ the active sends its registers, records, EPOCH messages and RESYNC_END. -/
def execResyncReq (fep sq : Nat) (s : State) : Host.Outcome State Fault Refusal :=
  guarded (.resyncReq fep sq) s (settle (cuffIn s fep fun t => resyncRx t sq))

/-- RESYNC_END (R458): A RESYNC_END with status 0 after no rejection sets SYNCED. -/
def execResyncEnd (fep seq status : Nat) (s : State) : Host.Outcome State Fault Refusal :=
  guarded (.resyncEnd fep seq status) s (settle (resyncEndCmd s fep seq status))

/-- RECLAIM (R468): A standby with PREF 1 healthy and synced for REVERT_HOLD sends a YIELD with cause 2. -/
def execReclaim (s : State) : Host.Outcome State Fault Refusal :=
  guarded .reclaim s (settle (whenUp s [12] (reclaim s)))

/-- DIAG_CHECK_FAIL (R462): A failing self-diagnosis check sets DIAG_FAIL and puts the drive into dark-safe. -/
def execDiagCheckFail (n : Nat) (s : State) : Host.Outcome State Fault Refusal :=
  guarded (.diagCheckFail n) s (settle (whenUp s [12] (diagFail s n)))

/-- DIAG_CHECK_PASS (R462): A check passes again once its condition has been absent for 10 s. -/
def execDiagCheckPass (n : Nat) (s : State) : Host.Outcome State Fault Refusal :=
  guarded (.diagCheckPass n) s (settle (whenUp s [12] (diagPass s n)))

/-- MIR_CLR (R460): MIR_CLR.CNT clears the pair counters and MIR_LAG.MAX. -/
def execMirClr (req : Nat) (s : State) : Host.Outcome State Fault Refusal :=
  guarded (.mirClr req) s (viaBus s req R.MIR_CLR 1#32)

end Sys2Proof.Machine
end

