-- ==== Sys2Proof/Machine/CmdLining.lean ====
section
/-! DEFINITION. Commands of the Lining (chapter 15). -/

namespace Sys2Proof.Machine

/-- The fencing epoch and the reservation as an EPOCH record holds them (R474). -/
def epochRestore (s : State) : State :=
  match stateRec s false 0x40 0 with
  | none => s
  | some r => (s.setReg R.MIR_EPOCH (w32 (leNat (r.payload.take 4)))).setReg R.MIR_RESV (w32 (leNat ((r.payload.drop 4).take 4)))

/-- LINING_REPLAY (R492, R493), once the self-test has ended (R588), and what the blocks take from the records: quantities
(R548), accumulators (R384), epoch and ring table (R442, R474), metering calibration (R387), alarms (R506). -/
def replayCmd (s : State) (scan : ReplayScan) (torn : Bool) : State :=
  if !s.regB R.BST_POST 0 || s.lin.state != 0 then s
  else
    let s1 := calRestore (linReplay s scan torn)
    let s2 := match stateRec s1 false 0x30 0 with | some r => energyRestore s1 r (meteredAfter s1 r) | none => s1
    alarmResend (meterCalRestore (ringRestore (epochRestore s2)))

/-! The meanings -/

/-- LINING_APPEND_ENQUEUE (R484): when the append places allow, the Lining numbers the oldest submitted record and
enqueues it on flow 241. -/
def execLiningAppendEnqueue (s : State) : Host.Outcome State Fault Refusal :=
  guarded .liningAppendEnqueue s (settle (whenUp s [2, 12] (appendEnqueue s)))

/-- LINING_APPEND_COMPLETE (R486): A LINING_APPEND item programs the record and its commit mark and completes once
verified. -/
def execLiningAppendComplete (fails : Nat) (s : State) : Host.Outcome State Fault Refusal :=
  guarded (.liningAppendComplete fails) s (settle (appendComplete s fails))

/-- CHECKPOINT_START (R488): A checkpoint starts on CKMIN, CKMIB or a shortage of ERASED sectors. -/
def execCheckpointStart (s : State) : Host.Outcome State Fault Refusal :=
  guarded .checkpointStart s (settle (whenUp s [12] (ckptStart s)))

/-- LIN_CKPT (R488): LIN_CMD.CKPT starts a checkpoint. -/
def execLinCkpt (req : Nat) (s : State) : Host.Outcome State Fault Refusal :=
  guarded (.linCkpt req) s (viaBus s req R.LIN_CMD 1#32)

/-- CHECKPOINT_COMPLETE (R488): A checkpoint becomes valid when its trailer verifies, or is abandoned. -/
def execCheckpointComplete (ok : Bool) (s : State) : Host.Outcome State Fault Refusal :=
  guarded (.checkpointComplete ok) s (settle (whenUp s [12] (ckptComplete s ok)))

/-- SECTOR_ERASE (R481): A background erase of a reclaimable sector completes or fails verification. -/
def execSectorErase (n fails : Nat) (s : State) : Host.Outcome State Fault Refusal :=
  guarded (.sectorErase n fails) s (settle (whenUp s [12] (sectorErase s n fails)))

/-- LINING_REPLAY (R492): after device reset the Lining loads the latest checkpoint and replays durable journal
records. -/
def execLiningReplay (scan : ReplayScan) (torn : Bool) (s : State) : Host.Outcome State Fault Refusal :=
  guarded (.liningReplay scan torn) s (settle (whenUp s [12] (replayCmd s scan torn)))

/-- LIN_ACK (R490): A write of LIN_ACKHI acknowledges LOG records up to the given sequence. -/
def execLinAck (req : Nat) (v : Word) (s : State) : Host.Outcome State Fault Refusal :=
  guarded (.linAck req v) s (viaBus s req R.LIN_ACKHI v)

/-- LINING_READ (R490): LIN_ROP.READ loads a 64-byte chunk of a durable record into the read window. -/
def execLiningRead (req : Nat) (s : State) : Host.Outcome State Fault Refusal :=
  guarded (.liningRead req) s (viaBus s req R.LIN_ROP 1#32)

end Sys2Proof.Machine
end

