-- ==== Sys2Proof/Machine/CmdGauntlet.lean ====
section
/-! DEFINITION. Commands of the Gauntlet and the key vault (chapter 16). -/

namespace Sys2Proof.Machine

/-! The meanings -/

/-- SENSOR_SAMPLE (R497): at 1,024 Hz sensors 0–5 are sampled and trip after DEB + 1 consecutive samples. -/
def execSensorSample (conds : Nat) (s : State) : Host.Outcome State Fault Refusal :=
  guarded (.sensorSample conds) s (settle (sensorSample s conds))

/-- GLITCH_TRIP (R497): an asynchronous voltage, clock or temperature glitch detector trips at once. -/
def execGlitchTrip (n : Nat) (present : Bool) (s : State) : Host.Outcome State Fault Refusal :=
  guarded (.glitchTrip n present) s (settle (glitchTrip s n present))

/-- POLICY_WRITE (R500): A write of GNT_POLn is accepted only if it does not lower the action or raise the debounce.
-/
def execPolicyWrite (req n : Nat) (v : Word) (s : State) : Host.Outcome State Fault Refusal :=
  guarded (.policyWrite req n v) s (viaBus s req (R.GNT_POL n) v)

/-- COMMAND_GO (R508): GNT_CMDOP.GO starts the check of the owner-signed command block. -/
def execCommandGo (req : Nat) (s : State) : Host.Outcome State Fault Refusal :=
  guarded (.commandGo req) s (viaBus s req R.GNT_CMDOP 1#32)

/-- COMMAND_FAIL (R508): A command block that fails a check ends with its status, a log entry and a new nonce. -/
def execCommandFail (s : State) : Host.Outcome State Fault Refusal :=
  guarded .commandFail s (settle (cmdFail s))

/-- SET_POLICY (R500): A verified SET_POLICY command replaces the sensor policy. -/
def execSetPolicy (s : State) : Host.Outcome State Fault Refusal :=
  guarded .setPolicy s (settle (setPolicy s))

/-- SET_LEVEL (R499): A verified SET_LEVEL command lowers the alarm level. -/
def execSetLevel (s : State) : Host.Outcome State Fault Refusal :=
  guarded .setLevel s (settle (setLevel s))

/-- UNSEAL_METER (R387): A verified UNSEAL_METER command clears MTR_SEAL.SEALED. -/
def execUnsealMeter (s : State) : Host.Outcome State Fault Refusal :=
  guarded .unsealMeter s (settle (unsealMeter s))

/-- DISARM (R503): A verified DISARM command clears transport mode. -/
def execDisarm (s : State) : Host.Outcome State Fault Refusal :=
  guarded .disarm s (settle (disarm s))

/-- SET_PUBKEY (R507): A verified SET_PUBKEY command writes or empties key slot 1 or 3. -/
def execSetPubkey (s : State) : Host.Outcome State Fault Refusal :=
  guarded .setPubkey s (settle (setPubkey s))

/-- PROVISION (R510): PROVISION on an unbound module writes the owner key, sets level NONE and arms transport mode. -/
def execProvision (s : State) : Host.Outcome State Fault Refusal :=
  guarded .provision s (settle (provision s))

/-- KEY_READ (R511): KEY_OP.READ loads a slot with every secret byte read as zero. -/
def execKeyRead (req : Nat) (s : State) : Host.Outcome State Fault Refusal :=
  guarded (.keyRead req) s (viaBus s req 0x4500A4 1#32)

/-- KEY_WRITE (R512): KEY_OP.WRITE writes a slot that the requester may write. -/
def execKeyWrite (req : Nat) (s : State) : Host.Outcome State Fault Refusal :=
  guarded (.keyWrite req) s (viaBus s req 0x4500A4 2#32)

/-- KEY_ERASE (R512): KEY_OP.ERASE zeroes a slot that the requester may write. -/
def execKeyErase (req : Nat) (s : State) : Host.Outcome State Fault Refusal :=
  guarded (.keyErase req) s (viaBus s req 0x4500A4 4#32)

/-- CELL_LOW (R505): the Gauntlet cell below 2.5 V sets CELL_LOW. -/
def execCellLow (s : State) : Host.Outcome State Fault Refusal :=
  guarded .cellLow s (settle (cellLow s))

end Sys2Proof.Machine
end

