-- ==== Sys2Proof/Machine/CmdUpdate.lean ====
section
/-! DEFINITION. Commands of firmware update (chapter 17). -/

namespace Sys2Proof.Machine

/-- ACTIVATED (R531, R535): in RECOVERY the activation ends in a device reset, which a power-off sequence under way forestalls
(R590). -/
def activatedCmd (s : State) : State :=
  let t := activated s
  if s.regB R.GNT_BOOT 2 && s.upd.pauseAt.isSome && t.upd.pauseAt.isNone then (if s.pwr.pfw.isSome then s else restart s 6) else t

/-! The meanings -/

/-- UPD_SUBMIT (R524): UPD_BOP.SUBMIT hands a window chunk to the checks and originates its relay. -/
def execUpdSubmit (req : Nat) (s : State) : Host.Outcome State Fault Refusal :=
  guarded (.updSubmit req) s (viaBus s req 0x480084 4#32)

/-- APPLY (R528): UPD_CMD.APPLY starts building and writing the new image into the inactive slot, or is refused. -/
def execApply (req : Nat) (s : State) : Host.Outcome State Fault Refusal :=
  guarded (.apply req) s (viaBus s req R.UPD_CMD 1#32)

/-- APPLY_COMPLETE (R529): apply ends with a verified image, or with FLASH, VERIFY or FORMAT error. -/
def execApplyComplete (outcome : Nat) (s : State) : Host.Outcome State Fault Refusal :=
  guarded (.applyComplete outcome) s (settle (whenUp s [12] (applyComplete s outcome)))

/-- ACTIVATE (R530): UPD_CMD.ACTIVATE records the activation time. -/
def execActivate (req : Nat) (s : State) : Host.Outcome State Fault Refusal :=
  guarded (.activate req) s (viaBus s req R.UPD_CMD 2#32)

/-- CANCEL (R527): UPD_CMD.CANCEL clears the staging area and returns to IDLE. -/
def execCancel (req : Nat) (s : State) : Host.Outcome State Fault Refusal :=
  guarded (.cancel req) s (viaBus s req R.UPD_CMD 4#32)

/-- ACTIVATION_START (R531): at the first tick at or after the activation time, the refusals are checked and the
activation pause begins. -/
def execActivationStart (s : State) : Host.Outcome State Fault Refusal :=
  guarded .activationStart s (settle (whenUp s [12] (activationStart s)))

/-- ACTIVATED (R531): the new image runs, GNT_SVN is raised and the pause ends. -/
def execActivated (s : State) : Host.Outcome State Fault Refusal :=
  guarded .activated s (settle (whenUp s [12] (activatedCmd s)))

/-- ACTIVATION_REVERT (R532): A new image not started 140 ms into the pause is replaced by the preloaded old image. -/
def execActivationRevert (s : State) : Host.Outcome State Fault Refusal :=
  guarded .activationRevert s (settle (whenUp s [12] (activationRevert s)))

end Sys2Proof.Machine
end

