-- ==== Sys2Proof/Machine/CmdSelf.lean ====
section
/-! DEFINITION. Commands of self-calibration, self-test and the event block (chapters 18 and 19). -/

namespace Sys2Proof.Machine

/-! The meanings -/

/-- CAL_DUE (R547): A calibration of a quantity falls due by period, temperature change or after POST, and run A is
enqueued. -/
def execCalDue (q : Nat) (off : Bool) (s : State) : Host.Outcome State Fault Refusal :=
  guarded (.calDue q off) s (settle (whenUp s [12] (calDue s q off)))

/-- SCL_ALL (R547): SCL_CMD.ALL makes every enabled quantity due. -/
def execSclAll (req : Nat) (s : State) : Host.Outcome State Fault Refusal :=
  guarded (.sclAll req) s (viaBus s req R.SCL_CMD 1#32)

/-- SCL_ONE (R547): SCL_CMD.ONE makes quantity QTY due. -/
def execSclOne (req q : Nat) (s : State) : Host.Outcome State Fault Refusal :=
  guarded (.sclOne req q) s (viaBus s req R.SCL_CMD (w32 (2 + 256 * q)))

/-- POST (R549): after device reset the power-on self-test runs and records its results in BST_POST. -/
def execPost (fails engs : Nat) (s : State) : Host.Outcome State Fault Refusal :=
  guarded (.post fails engs) s (settle (whenUp s [12] (post s fails engs)))

/-- TEST_VECTOR_ENQUEUE (R551): every PACT or PSB seconds a TEST item is enqueued for each enabled engine. -/
def execTestVectorEnqueue (eng : Nat) (s : State) : Host.Outcome State Fault Refusal :=
  guarded (.testVectorEnqueue eng) s (settle (whenUp s [2, 12] (testEnqueue s eng)))

/-- SCRUB_ERROR (R553): the scrubber corrects a word or counts an uncorrectable one. -/
def execScrubError (word : Nat) (ue : Bool) (s : State) : Host.Outcome State Fault Refusal :=
  guarded (.scrubError word ue) s (settle (whenUp s [3] (scrubError s word ue)))

/-- PASS_DONE (R553): the scrubber completes a pass over the frame store. -/
def execPassDone (s : State) : Host.Outcome State Fault Refusal :=
  guarded .passDone s (settle (whenUp s [3] (passDone s)))

/-- FST_CLR_PORT (R143): FST_CLR.PORTn clears the Un ingest counters and resets the pool minimum. -/
def execFstClrPort (req u : Nat) (s : State) : Host.Outcome State Fault Refusal :=
  guarded (.fstClrPort req u) s (viaBus s req R.FST_CLR (w32 (2 ^ u)))

/-- FST_CLR_ECC (R565): FST_CLR.ECC clears FST_ECC. -/
def execFstClrEcc (req : Nat) (s : State) : Host.Outcome State Fault Refusal :=
  guarded (.fstClrEcc req) s (viaBus s req R.FST_CLR 4#32)

/-- ALERT_RELEASE (R558): ALERT_N is released within 1 µs after the last alerting source becomes inactive. -/
def execAlertRelease (s : State) : Host.Outcome State Fault Refusal :=
  guarded .alertRelease s (whenUp s [12] (alertRelease s))

/-- EVT_SWSET (R556): EVT_SWSET activates software event sources. -/
def execEvtSwset (req : Nat) (v : Word) (s : State) : Host.Outcome State Fault Refusal :=
  guarded (.evtSwset req v) s (viaBus s req R.EVT_SWSET v)

/-- EVT_SWCLR (R556): EVT_SWCLR deactivates software event sources. -/
def execEvtSwclr (req : Nat) (v : Word) (s : State) : Host.Outcome State Fault Refusal :=
  guarded (.evtSwclr req v) s (viaBus s req R.EVT_SWCLR v)

end Sys2Proof.Machine
end

