-- ==== Sys2Proof/Machine/CmdPower.lean ====
section
/-! DEFINITION. Commands of supply, temperature, start-up and reset (chapter 20). -/

namespace Sys2Proof.Machine

/-- Start-up is complete but for the persisted copies (R588): every island runs, the self-test and the replay have ended,
and the management firmware runs. -/
def startReady (s : State) : Bool :=
  s.pwr.phase == 2 && !s.pwr.ready && s.pwr.started == (startOrder s).length && s.regB R.BST_POST 0 && s.lin.state != 0 &&
    !s.regB R.GNT_BOOT 2

/-- Where no persisted copy enables page HTK, the management firmware sets its PG_CTL.EN (R138), but after a fatal power-on
self-test (R550). The flow table it loads first is its own (log 110). -/
def firmwareHtk (s : State) : State :=
  if s.en 0x04 || fatal s then s else mgmtWrites s [(R.PG_CTL 0x04, s.reg (R.PG_CTL 0x04) ||| 1#32)]

/-- STARTED (R588, R589). -/
def startedCmd (s : State) : State :=
  if !startReady s then s
  else
    let s1 := calFirst ((allPages.map (·.num)).foldl (fun t p => persistApply t p true) s)
    let s2 := firmwareHtk (raise { s1 with pwr := { s1.pwr with ready := true } } 0x00 0)
    if s2.pwr.thermalOff then raise { s2 with pwr := { s2.pwr with thermalOff := false } } 0x51 1 else s2

/-- CAGE_OVERCURRENT (R581): the link of the cage goes down with it. -/
def cageOvercurrentCmd (s : State) (c mw held : Nat) : State :=
  let pg := cagePage c
  let t := cageOvercurrent s c mw held
  ptpTouch (if (s.mac pg).link && !(t.mac pg).link && (pg == 0x10 || pg == 0x11) then uplinkDown t else t)

/-! The meanings -/

/-- POWER_ON (R583): J1 held at 35.5 V for 10 ms starts the supplies and releases device reset. -/
def execPowerOn (v held : Nat) (off : Bool) (base : Int) (s : State) : Host.Outcome State Fault Refusal :=
  guarded (.powerOn v held off base) s (settle (powerOn s v held off base))

/-- ISLAND_START (R587): each island leaves reset once the fence of the island before it has opened. -/
def execIslandStart (s : State) : Host.Outcome State Fault Refusal :=
  guarded .islandStart s (settle (islandStart s))

/-- STARTED (R588): after boot, POST, replay and persisted copies, STARTED becomes 1. -/
def execStarted (s : State) : Host.Outcome State Fault Refusal :=
  guarded .started s (settle (startedCmd s))

/-- SUPPLY_BAND (R582): the J1 voltage crossing a band threshold sets or clears LOW36, LOW40 or OVERV. -/
def execSupplyBand (v n held : Nat) (s : State) : Host.Outcome State Fault Refusal :=
  guarded (.supplyBand v n held) s (settle (supplyBand s v n held))

/-- POWER_FAIL_WARNING (R586): J1 below 34 V for 200 µs, an over-voltage cut or a thermal trip raises the warning and
starts the power-off sequence. -/
def execPowerFailWarning (v held : Nat) (s : State) : Host.Outcome State Fault Refusal :=
  guarded (.powerFailWarning v held) s (settle (powerFailWarning s v held))

/-- OVERVOLTAGE_CUT (R582): J1 above 82 V for 10 µs opens the input switch. -/
def execOvervoltageCut (v held : Nat) (s : State) : Host.Outcome State Fault Refusal :=
  guarded (.overvoltageCut v held) s (settle (overvoltageCut s v held))

/-- THERMAL_TRIP (R574): the baseplate at or above TRIP for 1 s raises the power-fail warning with cause THERMAL. -/
def execThermalTrip (s : State) : Host.Outcome State Fault Refusal :=
  guarded .thermalTrip s (settle (thermalTrip s))

/-- POWER_OFF_END (R591): at the later of HOLDMS and the FINAL mark, device reset is asserted and the logic is
switched off. -/
def execPowerOffEnd (s : State) : Host.Outcome State Fault Refusal :=
  guarded .powerOffEnd s (powerOffEnd s)

/-- THERMAL_RESTART_CHECK (R589): after a thermal power-off, every 10 s the baseplate is checked before device reset
is released. -/
def execThermalRestartCheck (base : Int) (s : State) : Host.Outcome State Fault Refusal :=
  guarded (.thermalRestartCheck base) s (thermalRestartCheck s base)

/-- RST_N_LOW (R593): RST_N low for 1 µs holds device reset and makes the drive dark-safe. -/
def execRstNLow (held : Nat) (s : State) : Host.Outcome State Fault Refusal :=
  guarded (.rstNLow held) s (rstLow s held)

/-- RST_N_HIGH (R593): RST_N rising continues start-up. -/
def execRstNHigh (base : Int) (s : State) : Host.Outcome State Fault Refusal :=
  guarded (.rstNHigh base) s (rstHigh s base)

/-- DEV_RESET (R594): DEV_RESET.GO with the key resets the device at once, or after the FINAL record with ORDERLY. -/
def execDevReset (req : Nat) (orderly : Bool) (s : State) : Host.Outcome State Fault Refusal :=
  guarded (.devReset req orderly) s (viaBus s req R.DEV_RESET (w32 (0x44560001 + 2 * b2n orderly)))

/-- FIRMWARE_WATCHDOG (R595): A watchdog expiry begins an orderly reset, and a second one resets at once. -/
def execFirmwareWatchdog (s : State) : Host.Outcome State Fault Refusal :=
  guarded .firmwareWatchdog s (settle (firmwareWatchdog s))

/-- CAGE_OVERCURRENT (R581): A cage over its limit plus 20 % for 1 ms has its 3.3 V switched off. -/
def execCageOvercurrent (c : Nat) (draw : CageDraw) (s : State) : Host.Outcome State Fault Refusal :=
  guarded (.cageOvercurrent c draw) s (settle (cageOvercurrentCmd s c draw.mw draw.held))

/-- CAGE_POWER_ON (R581): writing 1 to a PWR_CAGE.OFF bit powers the cage again. -/
def execCagePowerOn (req mask : Nat) (s : State) : Host.Outcome State Fault Refusal :=
  guarded (.cagePowerOn req mask) s (viaBus s req R.PWR_CAGE (w32 mask))

/-- HOLDUP_MEASURE (R585): the hold-up capacity is measured at each charge from empty and every 24 h. -/
def execHoldupMeasure (v cap : Nat) (s : State) : Host.Outcome State Fault Refusal :=
  guarded (.holdupMeasure v cap) s (settle (holdupMeasure s v cap))

/-- THM_CLR (R574): THM_CLR.MAX sets both MAX fields to their present TEMP. -/
def execThmClr (req : Nat) (s : State) : Host.Outcome State Fault Refusal :=
  guarded (.thmClr req) s (viaBus s req R.THM_CLR 1#32)

/-- THERMAL_WARN (R574): the baseplate reaching THM_LIMIT.WARN sets WARN. -/
def execThermalWarn (t : Temps) (s : State) : Host.Outcome State Fault Refusal :=
  guarded (.thermalWarn t) s (settle (whenUp s [12] (thermSample s t)))

/-- HEALTH_HOLD_EXPIRY (R461): the HEALTH bits TEST and SCRUB clear 60 s after the last vector failure or
uncorrectable scrub error, which can make the member healthy again. -/
def execHealthHoldExpiry (s : State) : Host.Outcome State Fault Refusal :=
  guarded .healthHoldExpiry s (settle (whenUp s [12] (healthExpiry s)))

/-- BASEPLATE_SENSOR_FAIL (R574): when the two baseplate sensors differ by more than 5 °C for 10 s or one fails, THM
PG_EVRAW.SENSOR is set and the higher or working sensor is used. -/
def execBaseplateSensorFail (t : Temps) (held : Nat) (s : State) : Host.Outcome State Fault Refusal :=
  guarded (.baseplateSensorFail t held) s (settle (whenUp s [12] (sensorFail s t held)))

/-- CELL_FAILURE (R505): if the Gauntlet cell fails while main power is absent, every secret and the alarm log are
lost and the seconds counter stops. -/
def execCellFailure (s : State) : Host.Outcome State Fault Refusal :=
  guarded .cellFailure s (cellFail s)

/-- LOGIC_POWER_LOSS (R598): when the hold-up bank cannot carry the logic to the end of the power-off sequence, the
logic stops early, leaving a torn Lining tail and possibly no FINAL record. -/
def execLogicPowerLoss (s : State) : Host.Outcome State Fault Refusal :=
  guarded .logicPowerLoss s (logicPowerLoss s)

end Sys2Proof.Machine
end

