-- ==== Sys2Proof/Machine/Dispatch.lean ====
section
/-! DEFINITION. The dispatch: one arm for each command. -/

namespace Sys2Proof.Machine

/-- The effect of a command on everything but the queue. -/
def exec (i : Instr) (s : State) : Host.Outcome State Fault Refusal :=
  match i with
  | .registerWrite req addr v => Sys2Proof.Machine.execRegisterWrite req addr v s
  | .islRst req v => Sys2Proof.Machine.execIslRst req v s
  | .islandResetEnd isl => Sys2Proof.Machine.execIslandResetEnd isl s
  | .fenceTimeout isl age => Sys2Proof.Machine.execFenceTimeout isl age s
  | .orphanReply isl => Sys2Proof.Machine.execOrphanReply isl s
  | .softReset req page en frz => Sys2Proof.Machine.execSoftReset req page en frz s
  | .commit req page => Sys2Proof.Machine.execCommit req page s
  | .discard req page => Sys2Proof.Machine.execDiscard req page s
  | .persistSave req page => Sys2Proof.Machine.execPersistSave req page s
  | .persistForget req page => Sys2Proof.Machine.execPersistForget req page s
  | .windowRead req op => Sys2Proof.Machine.execWindowRead req op s
  | .windowWrite req op => Sys2Proof.Machine.execWindowWrite req op s
  | .hostWr addr v crc => Sys2Proof.Machine.execHostWr addr v crc s
  | .hostWrb addr ws cut crc => Sys2Proof.Machine.execHostWrb addr ws cut crc s
  | .hostRd addr crc => Sys2Proof.Machine.execHostRd addr crc s
  | .hostRdb addr count cut crc => Sys2Proof.Machine.execHostRdb addr count cut crc s
  | .hostUnknownCommand cmd body crc => Sys2Proof.Machine.execHostUnknownCommand cmd body crc s
  | .hostFrameAbort addr ws => Sys2Proof.Machine.execHostFrameAbort addr ws s
  | .remoteRead req port => Sys2Proof.Machine.execRemoteRead req port s
  | .remoteWrite req port => Sys2Proof.Machine.execRemoteWrite req port s
  | .remoteRequest port dst src id cmd count addr ws cut => Sys2Proof.Machine.execRemoteRequest port dst src id cmd count addr ws cut s
  | .remoteReply port dst src id cmd count addr status ws => Sys2Proof.Machine.execRemoteReply port dst src id cmd count addr status ws s
  | .remoteTimeout req port => Sys2Proof.Machine.execRemoteTimeout req port s
  | .busGrant contest addr => Sys2Proof.Machine.execBusGrant contest addr s
  | .backoffExpiry req => Sys2Proof.Machine.execBackoffExpiry req s
  | .tenureCutoff req addr w => Sys2Proof.Machine.execTenureCutoff req addr w s
  | .lockAcquire req page => Sys2Proof.Machine.execLockAcquire req page s
  | .lockRelease req page => Sys2Proof.Machine.execLockRelease req page s
  | .lockHoldExpiry req => Sys2Proof.Machine.execLockHoldExpiry req s
  | .cbClr req v => Sys2Proof.Machine.execCbClr req v s
  | .enqueue req => Sys2Proof.Machine.execEnqueue req s
  | .flagSet req v => Sys2Proof.Machine.execFlagSet req v s
  | .flagClear req v => Sys2Proof.Machine.execFlagClear req v s
  | .flush req flow => Sys2Proof.Machine.execFlush req flow s
  | .restartRetry req flow => Sys2Proof.Machine.execRestartRetry req flow s
  | .restartDiscard req flow => Sys2Proof.Machine.execRestartDiscard req flow s
  | .tickRelease => Sys2Proof.Machine.execTickRelease s
  | .dispatch => Sys2Proof.Machine.execDispatch s
  | .reservationExpire => Sys2Proof.Machine.execReservationExpire s
  | .itemExpire flow => Sys2Proof.Machine.execItemExpire flow s
  | .itemComplete x error result => Sys2Proof.Machine.execItemComplete x error result s
  | .executorFault x => Sys2Proof.Machine.execExecutorFault x s
  | .itemWatchdog x => Sys2Proof.Machine.execItemWatchdog x s
  | .renderComplete eng ue => Sys2Proof.Machine.execRenderComplete eng ue s
  | .pushHandoff port => Sys2Proof.Machine.execPushHandoff port s
  | .checkComplete eng => Sys2Proof.Machine.execCheckComplete eng s
  | .ingestFixComplete eng => Sys2Proof.Machine.execIngestFixComplete eng s
  | .meterFoldComplete => Sys2Proof.Machine.execMeterFoldComplete s
  | .calStepComplete result => Sys2Proof.Machine.execCalStepComplete result s
  | .nodePoll port => Sys2Proof.Machine.execNodePoll port s
  | .cueRun => Sys2Proof.Machine.execCueRun s
  | .testComplete eng crc => Sys2Proof.Machine.execTestComplete eng crc s
  | .perferInRegion u len m => Sys2Proof.Machine.execPerferInRegion u len m s
  | .perferInCommit u len m => Sys2Proof.Machine.execPerferInCommit u len m s
  | .st2110Packet n len ssrc seq ts marker rs => Sys2Proof.Machine.execSt2110Packet n len ssrc seq ts marker rs s
  | .e131Data u pkt univ cid prio seq preview term start slots => Sys2Proof.Machine.execE131Data u pkt univ cid prio seq preview term start slots s
  | .e131Sync u pkt => Sys2Proof.Machine.execE131Sync u pkt s
  | .ingestItemClose u layer => Sys2Proof.Machine.execIngestItemClose u layer s
  | .streamLoss n => Sys2Proof.Machine.execStreamLoss n s
  | .e131SourceTimeout e => Sys2Proof.Machine.execE131SourceTimeout e s
  | .e131SyncTimeout addr => Sys2Proof.Machine.execE131SyncTimeout addr s
  | .e131Scatter dom => Sys2Proof.Machine.execE131Scatter dom s
  | .mapRunWrite req => Sys2Proof.Machine.execMapRunWrite req s
  | .mapRunClear req => Sys2Proof.Machine.execMapRunClear req s
  | .engRst req v => Sys2Proof.Machine.execEngRst req v s
  | .engClr req => Sys2Proof.Machine.execEngClr req s
  | .latchPoint dom => Sys2Proof.Machine.execLatchPoint dom s
  | .cueArm req => Sys2Proof.Machine.execCueArm req s
  | .expectedPush req => Sys2Proof.Machine.execExpectedPush req s
  | .expectedFlush req => Sys2Proof.Machine.execExpectedFlush req s
  | .echoRep port node first count p crc fep => Sys2Proof.Machine.execEchoRep port node first count p crc fep s
  | .echoTimeout rect => Sys2Proof.Machine.execEchoTimeout rect s
  | .frameTxStart x => Sys2Proof.Machine.execFrameTxStart x s
  | .frameTxEnd page => Sys2Proof.Machine.execFrameTxEnd page s
  | .pollRep port node seq hd fenceHeld lastSeq serial mac fep => Sys2Proof.Machine.execPollRep port node seq hd fenceHeld lastSeq serial mac fep s
  | .enumRep port serial addr mac fep => Sys2Proof.Machine.execEnumRep port serial addr mac fep s
  | .assignAck port serial addr fep => Sys2Proof.Machine.execAssignAck port serial addr fep s
  | .assignTimeout port => Sys2Proof.Machine.execAssignTimeout port s
  | .pollTimeout port => Sys2Proof.Machine.execPollTimeout port s
  | .enumDone port => Sys2Proof.Machine.execEnumDone port s
  | .ppClrCnt req port => Sys2Proof.Machine.execPpClrCnt req port s
  | .ppClrCredmin req port => Sys2Proof.Machine.execPpClrCredmin req port s
  | .frameReceive page f => Sys2Proof.Machine.execFrameReceive page f s
  | .pauseReceive page quanta => Sys2Proof.Machine.execPauseReceive page quanta s
  | .pauseHoldEnd page => Sys2Proof.Machine.execPauseHoldEnd page s
  | .pauseLong page => Sys2Proof.Machine.execPauseLong page s
  | .pauseRepeat page => Sys2Proof.Machine.execPauseRepeat page s
  | .busCollision page => Sys2Proof.Machine.execBusCollision page s
  | .lateCollision page => Sys2Proof.Machine.execLateCollision page s
  | .busBackoffEnd x => Sys2Proof.Machine.execBusBackoffEnd x s
  | .linkUp page => Sys2Proof.Machine.execLinkUp page s
  | .linkDown page => Sys2Proof.Machine.execLinkDown page s
  | .sfpInsert page a0 a2 => Sys2Proof.Machine.execSfpInsert page a0 a2 s
  | .sfpRemove page => Sys2Proof.Machine.execSfpRemove page s
  | .sfpDiagRefresh page a2 => Sys2Proof.Machine.execSfpDiagRefresh page a2 s
  | .txFault page level rxLos => Sys2Proof.Machine.execTxFault page level rxLos s
  | .macClrCnt req page => Sys2Proof.Machine.execMacClrCnt req page s
  | .macClrRingmin req page => Sys2Proof.Machine.execMacClrRingmin req page s
  | .sakRekey port peer => Sys2Proof.Machine.execSakRekey port peer s
  | .lPushRead => Sys2Proof.Machine.execLPushRead s
  | .imageApply => Sys2Proof.Machine.execImageApply s
  | .drivePresentation m => Sys2Proof.Machine.execDrivePresentation m s
  | .stringMeasurement n vrail vsink imeas ticks => Sys2Proof.Machine.execStringMeasurement n vrail vsink imeas ticks s
  | .stringFault n short => Sys2Proof.Machine.execStringFault n short s
  | .railFault r => Sys2Proof.Machine.execRailFault r s
  | .drvFclrRail req mask => Sys2Proof.Machine.execDrvFclrRail req mask s
  | .drvFclrMxsup req => Sys2Proof.Machine.execDrvFclrMxsup req s
  | .strFclr req half v => Sys2Proof.Machine.execStrFclr req half v s
  | .drvClr req => Sys2Proof.Machine.execDrvClr req s
  | .mxFrameLatch x => Sys2Proof.Machine.execMxFrameLatch x s
  | .mxFrameCut x => Sys2Proof.Machine.execMxFrameCut x s
  | .mxColumnFault x c short => Sys2Proof.Machine.execMxColumnFault x c short s
  | .mxLineShort x l => Sys2Proof.Machine.execMxLineShort x l s
  | .mxSupplyFault => Sys2Proof.Machine.execMxSupplyFault s
  | .mxFclrCol req x => Sys2Proof.Machine.execMxFclrCol req x s
  | .mxFclrLine req x => Sys2Proof.Machine.execMxFclrLine req x s
  | .meterQuantum x => Sys2Proof.Machine.execMeterQuantum x s
  | .meterFoldEnqueue => Sys2Proof.Machine.execMeterFoldEnqueue s
  | .lineCycle => Sys2Proof.Machine.execLineCycle s
  | .energySave => Sys2Proof.Machine.execEnergySave s
  | .pulseEmit k => Sys2Proof.Machine.execPulseEmit k s
  | .sealClose req => Sys2Proof.Machine.execSealClose req s
  | .snapshotTake req use => Sys2Proof.Machine.execSnapshotTake req use s
  | .clockStepAbs req => Sys2Proof.Machine.execClockStepAbs req s
  | .clockStepRel req => Sys2Proof.Machine.execClockStepRel req s
  | .clockSlew req v => Sys2Proof.Machine.execClockSlew req v s
  | .slewEnd => Sys2Proof.Machine.execSlewEnd s
  | .clockInc req v => Sys2Proof.Machine.execClockInc req v s
  | .clockMode req v => Sys2Proof.Machine.execClockMode req v s
  | .setvalid req v => Sys2Proof.Machine.execSetvalid req v s
  | .clockRead req => Sys2Proof.Machine.execClockRead req s
  | .servoMeasurement inc => Sys2Proof.Machine.execServoMeasurement inc s
  | .sourceChange => Sys2Proof.Machine.execSourceChange s
  | .sourceLoss => Sys2Proof.Machine.execSourceLoss s
  | .holdExpired => Sys2Proof.Machine.execHoldExpired s
  | .secondsCounterSync => Sys2Proof.Machine.execSecondsCounterSync s
  | .ptpMessageReceive port dom m => Sys2Proof.Machine.execPtpMessageReceive port dom m s
  | .ptpSyncSend port => Sys2Proof.Machine.execPtpSyncSend port s
  | .ptpAnnounceSend port => Sys2Proof.Machine.execPtpAnnounceSend port s
  | .ptpDelayReqSend port => Sys2Proof.Machine.execPtpDelayReqSend port s
  | .announceTimeout port => Sys2Proof.Machine.execAnnounceTimeout port s
  | .ppsOut => Sys2Proof.Machine.execPpsOut s
  | .ppsInEdge t falling => Sys2Proof.Machine.execPpsInEdge t falling s
  | .ppsLost => Sys2Proof.Machine.execPpsLost s
  | .ltcFrame t h m sec f => Sys2Proof.Machine.execLtcFrame t h m sec f s
  | .ltcFrameMissing => Sys2Proof.Machine.execLtcFrameMissing s
  | .wclkEdge t => Sys2Proof.Machine.execWclkEdge t s
  | .wclkMissing => Sys2Proof.Machine.execWclkMissing s
  | .helloSend port => Sys2Proof.Machine.execHelloSend port s
  | .hello port sender src serial rxok => Sys2Proof.Machine.execHello port sender src serial rxok s
  | .helloLoss port => Sys2Proof.Machine.execHelloLoss port s
  | .breakFrame port dst src id lost nbr => Sys2Proof.Machine.execBreakFrame port dst src id lost nbr s
  | .announceSend => Sys2Proof.Machine.execAnnounceSend s
  | .announce port dst src id serial claim svc reg fep => Sys2Proof.Machine.execAnnounce port dst src id serial claim svc reg fep s
  | .joinSend => Sys2Proof.Machine.execJoinSend s
  | .join port dst src id serial want svc => Sys2Proof.Machine.execJoin port dst src id serial want svc s
  | .assign port dst src id serial addr svc => Sys2Proof.Machine.execAssign port dst src id serial addr svc s
  | .selfAssign => Sys2Proof.Machine.execSelfAssign s
  | .presentExpire addr => Sys2Proof.Machine.execPresentExpire addr s
  | .leave req => Sys2Proof.Machine.execLeave req s
  | .leaveReceive port dst src id serial => Sys2Proof.Machine.execLeaveReceive port dst src id serial s
  | .hbForget req page => Sys2Proof.Machine.execHbForget req page s
  | .forget port dst src id addr => Sys2Proof.Machine.execForget port dst src id addr s
  | .eventSend => Sys2Proof.Machine.execEventSend s
  | .event port dst src id group bits ns sec => Sys2Proof.Machine.execEvent port dst src id group bits ns sec s
  | .hbEvpop req page => Sys2Proof.Machine.execHbEvpop req page s
  | .hbClr req page => Sys2Proof.Machine.execHbClr req page s
  | .updSeg port img chunk seg data => Sys2Proof.Machine.execUpdSeg port img chunk seg data s
  | .updAck port img chunk status => Sys2Proof.Machine.execUpdAck port img chunk status s
  | .updAckTimeout port img chunk => Sys2Proof.Machine.execUpdAckTimeout port img chunk s
  | .pairBind req v => Sys2Proof.Machine.execPairBind req v s
  | .heartbeatSend => Sys2Proof.Machine.execHeartbeatSend s
  | .heartbeat path role health fep => Sys2Proof.Machine.execHeartbeat path role health fep s
  | .partnerLoss => Sys2Proof.Machine.execPartnerLoss s
  | .seekTimeout => Sys2Proof.Machine.execSeekTimeout s
  | .mirror fep seq es => Sys2Proof.Machine.execMirror fep seq es s
  | .mirrorAck fep seq => Sys2Proof.Machine.execMirrorAck fep seq s
  | .mirrorAckTimeout => Sys2Proof.Machine.execMirrorAckTimeout s
  | .epoch fep seq dom k lays => Sys2Proof.Machine.execEpoch fep seq dom k lays s
  | .epochWaitTimeout dom => Sys2Proof.Machine.execEpochWaitTimeout dom s
  | .yield req => Sys2Proof.Machine.execYield req s
  | .yieldReceive fep h k cause => Sys2Proof.Machine.execYieldReceive fep h k cause s
  | .yieldAck fep status => Sys2Proof.Machine.execYieldAck fep status s
  | .yieldTimeout => Sys2Proof.Machine.execYieldTimeout s
  | .yieldRetry => Sys2Proof.Machine.execYieldRetry s
  | .handover => Sys2Proof.Machine.execHandover s
  | .digest fep k ts => Sys2Proof.Machine.execDigest fep k ts s
  | .resync req => Sys2Proof.Machine.execResync req s
  | .resyncReq fep sq => Sys2Proof.Machine.execResyncReq fep sq s
  | .resyncEnd fep seq status => Sys2Proof.Machine.execResyncEnd fep seq status s
  | .reclaim => Sys2Proof.Machine.execReclaim s
  | .diagCheckFail n => Sys2Proof.Machine.execDiagCheckFail n s
  | .diagCheckPass n => Sys2Proof.Machine.execDiagCheckPass n s
  | .mirClr req => Sys2Proof.Machine.execMirClr req s
  | .liningAppendEnqueue => Sys2Proof.Machine.execLiningAppendEnqueue s
  | .liningAppendComplete fails => Sys2Proof.Machine.execLiningAppendComplete fails s
  | .checkpointStart => Sys2Proof.Machine.execCheckpointStart s
  | .linCkpt req => Sys2Proof.Machine.execLinCkpt req s
  | .checkpointComplete ok => Sys2Proof.Machine.execCheckpointComplete ok s
  | .sectorErase n fails => Sys2Proof.Machine.execSectorErase n fails s
  | .liningReplay scan torn => Sys2Proof.Machine.execLiningReplay scan torn s
  | .linAck req v => Sys2Proof.Machine.execLinAck req v s
  | .liningRead req => Sys2Proof.Machine.execLiningRead req s
  | .sensorSample conds => Sys2Proof.Machine.execSensorSample conds s
  | .glitchTrip n present => Sys2Proof.Machine.execGlitchTrip n present s
  | .policyWrite req n v => Sys2Proof.Machine.execPolicyWrite req n v s
  | .commandGo req => Sys2Proof.Machine.execCommandGo req s
  | .commandFail => Sys2Proof.Machine.execCommandFail s
  | .setPolicy => Sys2Proof.Machine.execSetPolicy s
  | .setLevel => Sys2Proof.Machine.execSetLevel s
  | .unsealMeter => Sys2Proof.Machine.execUnsealMeter s
  | .disarm => Sys2Proof.Machine.execDisarm s
  | .setPubkey => Sys2Proof.Machine.execSetPubkey s
  | .provision => Sys2Proof.Machine.execProvision s
  | .keyRead req => Sys2Proof.Machine.execKeyRead req s
  | .keyWrite req => Sys2Proof.Machine.execKeyWrite req s
  | .keyErase req => Sys2Proof.Machine.execKeyErase req s
  | .cellLow => Sys2Proof.Machine.execCellLow s
  | .updSubmit req => Sys2Proof.Machine.execUpdSubmit req s
  | .apply req => Sys2Proof.Machine.execApply req s
  | .applyComplete outcome => Sys2Proof.Machine.execApplyComplete outcome s
  | .activate req => Sys2Proof.Machine.execActivate req s
  | .cancel req => Sys2Proof.Machine.execCancel req s
  | .activationStart => Sys2Proof.Machine.execActivationStart s
  | .activated => Sys2Proof.Machine.execActivated s
  | .activationRevert => Sys2Proof.Machine.execActivationRevert s
  | .calDue q off => Sys2Proof.Machine.execCalDue q off s
  | .sclAll req => Sys2Proof.Machine.execSclAll req s
  | .sclOne req q => Sys2Proof.Machine.execSclOne req q s
  | .post fails engs => Sys2Proof.Machine.execPost fails engs s
  | .testVectorEnqueue eng => Sys2Proof.Machine.execTestVectorEnqueue eng s
  | .scrubError word ue => Sys2Proof.Machine.execScrubError word ue s
  | .passDone => Sys2Proof.Machine.execPassDone s
  | .fstClrPort req u => Sys2Proof.Machine.execFstClrPort req u s
  | .fstClrEcc req => Sys2Proof.Machine.execFstClrEcc req s
  | .alertRelease => Sys2Proof.Machine.execAlertRelease s
  | .evtSwset req v => Sys2Proof.Machine.execEvtSwset req v s
  | .evtSwclr req v => Sys2Proof.Machine.execEvtSwclr req v s
  | .powerOn v held off base => Sys2Proof.Machine.execPowerOn v held off base s
  | .islandStart => Sys2Proof.Machine.execIslandStart s
  | .started => Sys2Proof.Machine.execStarted s
  | .supplyBand v n held => Sys2Proof.Machine.execSupplyBand v n held s
  | .powerFailWarning v held => Sys2Proof.Machine.execPowerFailWarning v held s
  | .overvoltageCut v held => Sys2Proof.Machine.execOvervoltageCut v held s
  | .thermalTrip => Sys2Proof.Machine.execThermalTrip s
  | .powerOffEnd => Sys2Proof.Machine.execPowerOffEnd s
  | .thermalRestartCheck base => Sys2Proof.Machine.execThermalRestartCheck base s
  | .rstNLow held => Sys2Proof.Machine.execRstNLow held s
  | .rstNHigh base => Sys2Proof.Machine.execRstNHigh base s
  | .devReset req orderly => Sys2Proof.Machine.execDevReset req orderly s
  | .firmwareWatchdog => Sys2Proof.Machine.execFirmwareWatchdog s
  | .cageOvercurrent c draw => Sys2Proof.Machine.execCageOvercurrent c draw s
  | .cagePowerOn req mask => Sys2Proof.Machine.execCagePowerOn req mask s
  | .holdupMeasure v cap => Sys2Proof.Machine.execHoldupMeasure v cap s
  | .thmClr req => Sys2Proof.Machine.execThmClr req s
  | .thermalWarn t => Sys2Proof.Machine.execThermalWarn t s
  | .healthHoldExpiry => Sys2Proof.Machine.execHealthHoldExpiry s
  | .baseplateSensorFail t held => Sys2Proof.Machine.execBaseplateSensorFail t held s
  | .cellFailure => Sys2Proof.Machine.execCellFailure s
  | .logicPowerLoss => Sys2Proof.Machine.execLogicPowerLoss s

end Sys2Proof.Machine
end

