-- ==== Sys2Proof/Machine/Idle.lean ====
section
/-! DEFINITION. What passes while no command waits: one cycle of the 125 MHz time clock (R391), with what follows from
the passing of time alone. -/

namespace Sys2Proof.Machine

/-- One cycle of 8 ns: the local clock ticks where island 9 runs, scan frames of the matrix ports start on time (R345), and
an alert that waited for its minimum pause is driven (R558). The scrubber reads on where island 3 runs (R553). -/
def idle (s : State) : State :=
  let stepped := s.islUp 9 && s.clkr.ops.any ClkOp.isStep
  let s1 := if s.islUp 9 then clockTick s else { s with up := s.up + 8 }
  let s2 := if stepped then { s1 with mtr := { s1.mtr with stepped := true } } else s1
  let s3 := whenUp s2 [3] (scrubTick s2)
  alertDrive (onDrive s3 (mxTick s3))

end Sys2Proof.Machine
end

