-- ==== Sys2Proof/Machine/Step.lean ====
section
/-! DEFINITION. The step of the module: the command at the front of the queue, or a clock cycle where none waits. -/

namespace Sys2Proof.Machine

/-- One step: the command that waits longest takes effect, with the rest of the queue; on an empty queue one cycle of the
time clock passes. -/
def step (s : State) : Host.Outcome State Fault Refusal :=
  match s.pending with
  | c :: rest => exec c { s with pending := rest }
  | [] => .next (idle s)

/-- The state with the command that a word spells at the front of its queue; unchanged where the word spells none. -/
def State.withFetchWord (s : State) (nbits w : Nat) : State :=
  match decodeTableWord nbits w with
  | some c => { s with pending := c :: s.pending }
  | none => s

end Sys2Proof.Machine
end

