-- ==== Sys2Proof/Safety.lean ====
section
/-! DEFINITION. What counts as a safe run: no step stops, and the stores keep their canonical forms. -/

namespace Sys2Proof

open Machine

/-- The next step answers a next state. -/
def Safe (s : State) : Prop := ∃ t, step s = .next t

/-- Every command that waits is well formed. -/
def QueueOk (s : State) : Prop := ∀ c ∈ s.pending, c.wf = true

/-- The sparse stores that hold registers, tables and frame-store bytes have their canonical forms. -/
def Canonical (s : State) : Prop :=
  s.regs.sparse resetWord ∧ s.bank.wf ∧ s.tabs.wf ∧ Memory.wf s.layMem ∧ Memory.wf s.egrMem

/-! The terms in which the statements say what a command leaves. -/

namespace Machine

/-- A command's effect alone: the queue and the factory's data stay. -/
def alone (s t : State) : State := { t with pending := s.pending, hw := s.hw }

/-- A command's effect, and then what follows from it in other blocks (`settle`). -/
def settled (s t : State) : State := alone s (settle t)

/-- A register write of a requester is accepted at once (R20, R56, R57, R85): the requester runs and waits for no other
access, the address names a register that is served and whose island runs, no check rejects the value, no table of the
frame store stands behind the fence of island 3 in reset, and the requester does not hold the page. Locked sequences whose hold limit has come are aborted first (R91). -/
def takesWrite (s : State) (req a : Nat) (v : Word) : Bool :=
  mayIssue s req a (some v) && match findTarget (locksDue s) req a with
    | .reg d r => !holds (locksDue s) req d.num &&
        (firstError (writeErrors (locksDue s) (locksDue s) req a d r v)).isNone && offOf a != 0x20 &&
        !dramDown (locksDue s) a v
    | .ends _ _ => false

/-- What an accepted write leaves: its effect (R48, R50), the reply OKAY to its requester (R17). -/
def written (s : State) (req a : Nat) (v : Word) : State :=
  settled s (answered (reply (noteReply (takeStaged (locksDue s) req (commitTime (locksDue s) req) (a, v)) a) req 0 []) req)

/-- A write of PG_LOCK is accepted (R83, R90). -/
def takesLock (s : State) (req p : Nat) (v : Word) : Bool :=
  mayIssue s req (R.PG_LOCK p) (some v) && match findTarget (locksDue s) req (R.PG_LOCK p) with
    | .reg d r =>
      let u := locksDue s
      (firstError (writeErrors u (if holds u req d.num then seqView u req else u) req (R.PG_LOCK p) d r v)).isNone
    | .ends _ _ => false

/-- A register read of a requester that does not hold the page is answered (R20, R56). -/
def takesRead (s : State) (req a : Nat) : Bool :=
  mayIssue s req a none && match findTarget (locksDue s) req a with
    | .reg d _ => !holds (locksDue s) req d.num
    | .ends _ _ => false

/-- What an accepted write of PG_LOCK leaves: the reply OKAY to its requester. -/
def lockDone (s t : State) (req p : Nat) : State :=
  settled s (answered (reply (noteReply t (R.PG_LOCK p)) req 0 []) req)

/-- An island whose reset is over, with its fence open again and the persisted copies of its pages applied (R22, R49). -/
def reopened (s : State) (i : Nat) : State :=
  (islandPages i).foldl (fun t p => persistApply t p false)
    { s with isl := { s.isl with up := s.isl.up ||| 2 ^ i, resetAt := sdel s.isl.resetAt i } }

/-- The instants at which the requests that island `i` has not answered came. -/
def waitsSince (s : State) (i : Nat) (age : FenceAge) : List Nat :=
  ((s.isl.outs.filter fun o => o.isl == i).map (·.since)) ++ (match age.oldest with | some a => [s.up - a] | none => [])

/-- The instant of the latest reply of island `i` to a request that is no bus access. -/
def repliedAt (s : State) (age : FenceAge) : Nat := match age.reply with | some a => s.up - a | none => 0

/-- The fence timer of island `i` has run out (R563): it is watched, the limit is not 0, the island runs or its reset began in
this cycle (Table 19-7), and its oldest request, its latest reply and the latest write of ISL_FTO are all at least the
limit ago. -/
def fenceDue (s : State) (i : Nat) (age : FenceAge) : Bool :=
  ((decide (i ≤ 8) || i == 10 || i == 11) && s.regF R.ISL_FTO 0 16 != 0 && (s.islUp i || sget s.isl.resetAt i == some s.up) &&
      !(waitsSince s i age).isEmpty) &&
    elapsed s (max ((waitsSince s i age).foldl min ((waitsSince s i age).headD 0))
      (max (repliedAt s age) (max (sgetD s.isl.lastReply i 0) s.isl.ftoWrite))) (s.regF R.ISL_FTO 0 16 * 1000)

/-- The reset that a fence timeout makes (R563): the fence has answered what it held. -/
def fenceFired (s : State) (i : Nat) : State :=
  let t := islandReset s i
  { t with isl := { t.isl with lastReply := sput t.isl.lastReply i t.up 0 } }

/-- A grant (R74, R77): requester `w` of rank `k` owns the bus from now on, for the word at `addr`. -/
def granted (s t : State) (w k addr : Nat) : State :=
  { t.setRegF (R.CB_LOSS w) 0 16 0 with arb := { (t.setRegF (R.CB_LOSS w) 0 16 0).arb with
      contest := 0, owner := some w, tenureStart := s.up, word := addr,
      lastOf := sset (t.setRegF (R.CB_LOSS w) 0 16 0).arb.lastOf k w } }

/-- The record of a tenure cut off (R81): CB_CUT, no owner, PG_EVRAW.CUT. -/
def cutRecorded (s : State) (req addr : Nat) : State :=
  raise { s.setReg R.CB_CUT (w32 (req + pageOf addr % 256 * 256 + satAdd 16 (s.regF R.CB_CUT 16 16) 1 * 65536)) with
    arb := { s.arb with owner := none } } 0x02 1

/-- A write frame of the host port whose CRC matches (R61, R64): the writes, the reply and the status bytes. -/
def hostWritten (s : State) (addr : Nat) (ws : List Word) (cut : Option Nat) : State :=
  let r := burstWrite s 1 addr ws (cutOf s 1 cut)
  hostStatus (answered (reply r.1 1 r.2 []) 1) r.2

/-- A read frame of the host port whose CRC matches (R61, R64). -/
def hostRead (s : State) (addr n : Nat) (cut : Option Nat) : State :=
  let r := burstRead n s 1 addr (cutOf s 1 cut)
  hostData (answered (reply r.1 1 r.2.1 r.2.2) 1) r.2.1 r.2.2

/-- A Hatband port takes frames (R425): its island runs, it is enabled and its link is up. -/
def hbIn (s : State) (p : Nat) : Bool := s.islUp 7 && s.en (hbPg p) && linkUp s (hbPg p)

/-- A tick of the Hatrack (R115, R116): the items that are due, at most 64, are released. -/
def tickReleased (s : State) : State :=
  let t := releaseDue 64 { s with htk := { s.htk with lastTick := some (tickNow s) } } (tickNow s)
  if (nextDue t (tickNow s)).isSome then raise (t.count R.HTK_CNT 0 16 1) 0x04 3 else t

/-- A dispatch slot (R120, R121, R125): reservations that have run out end, reserved heads past their deadline are
discarded, then at most one item starts. -/
def dispatched (s : State) : State :=
  let t := expireReserved (expireResv { s with htk := { s.htk with lastSlot := some (s.up / 20) } })
  match idleResv t with
  | some r => match takesEngine t r.flow r.eng with
    | some g => startHead (unreserve t r.flow) g (.engine r.eng)
    | none => startHead t r.flow (.engine r.eng)
  | none => tryFlows (rankedFlows t) t

/-- A packet of a source counts for universe entry `e`, and the packet's buffers are released (R142, R173). -/
def sourceTaken (s t : State) (u id e cid prio seq : Nat) : State :=
  setUnivSrcs (poolRelease t u id) e (acceptSource (univSrcs (poolRelease t u id) e) ⟨cid, prio, seq, s.up⟩)

/-- A data packet that its universe entry stores at once drops what the entry holds (R175, log 132). -/
def storedNow (s : State) (e : Nat) (slots : List Byte) : State :=
  univStore { s with ing := { s.ing with hold := sdel s.ing.hold e } } e slots

/-- A sync packet (R175): the universes of its address take the data they hold. -/
def syncTaken (s : State) (a : Nat) : State :=
  let es := (s.ing.hold.map Prod.fst).filter fun e => s.entF tLAYU e 3 0 16 == a
  let t := es.foldl (fun t e => univStore t e (sgetD t.ing.hold e [])) s
  { t with ing := { t.ing with hold := sdelIf t.ing.hold fun e => es.contains e, syncs := sset t.ing.syncs a ⟨s.up, false⟩ } }

/-- The epoch whose s_k comes next for E1.31 layer `n` of domain `d` (R176), below `kEnd`, the first whose s_k has not come. -/
def scatterNext (s : State) (n d kEnd : Nat) : Nat :=
  match (s.lay n).lastPrep.filter fun j => decide (j < kEnd) with
  | some j => max (s.dom d).next.k (j + 1)
  | none => (s.dom d).next.k

/-- A reply of a node reaches its push port (R262, R270): the port is enabled, its link is up, and the fencing epoch is not an
older one. -/
def nodeIn (s : State) (p epoch : Nat) : Bool := linkUp s (ppPage p) && s.en (ppPage p) && decide (fence s ≤ epoch)

/-- A collision (R309): counted, and the frame waits for a random number of slot times. -/
def collided (s : State) (pg : Nat) : State :=
  let t := s.count (R.MAC_COLL pg) 0 32 1
  let n := (t.mac pg).tries + 1
  let jam := max t.up ((t.mac pg).txAt + 6400) + 3200
  (t.setMac pg { t.mac pg with
    tries := n, backoff := some (jam + (Config.freeWord64 t.freeCtr).toNat % 2 ^ min n 10 * 51200) }).draw

/-- The drive is fitted and its island runs (R2, R354). -/
def driveUp (s : State) : Bool := s.hw.drive && s.islUp 11

/-- A Delay_Req leaves a port (R408). -/
def delayReqSent (s : State) (p : Nat) : State :=
  let x := s.pport p
  ptpSendEv (s.setPport p { x with lastReq := s.up, seq := (x.seq + 1) % 65536, req := none }) p
    (ptpHead s p 1 44 false 0 x.seq 1 127 ++ List.replicate 10 0#8) (some (1, x.seq))

/-- A Cuff frame reaches a bound member, and its fencing epoch is not an older one (R449). -/
def cuffTakes (s : State) (epoch : Nat) : Bool := s.islUp 8 && linkUp s 0x24 && bound s && decide (fence s ≤ epoch)

/-- The policy a SET_POLICY command carries is in force (R508). -/
def policySet (s : State) (b : List Byte) : State :=
  let t := (List.range 9).foldl (fun u n =>
    u.setReg (R.GNT_POL n) (w32 (beAt b (20 + n) 1 + beAt b (29 + 2 * n) 2 * 65536))) s
  { t with gnt := { t.gnt with counts := [] } }

/-- The slot that a port's next SAK takes while `an` is in use (R513): the other of its two. -/
def sakNext (s : State) (p an : Nat) : Nat :=
  if keyPresent s (9 + 2 * p) ∧ sakAn s (9 + 2 * p) = an then 9 + 2 * p + 1 else 9 + 2 * p

/-- What PROVISION changes (R510). -/
def provisioned (s : State) (b : List Byte) : State :=
  let t1 := putSlot s 1 (some ((b.drop 21).take 96))
  let t2 := if keyPresent t1 0 then t1 else putSlot t1.draw 0 (some ((List.range 96).map (Config.freeByte t1.freeCtr)))
  let t3 := lowerLevel t2 0
  { t3 with gnt := { t3.gnt with armed := true, provisioned := true } }

end Machine

end Sys2Proof
end

