-- ==== Sys2Proof/Certificates/Slice0/Obligations.lean ====
section
/-! DEFINITION. The statements for the provers. -/

open Sys2Proof Sys2Proof.Machine

/-- A step takes the command that waits longest and runs it with the rest of the queue. The queue is the model's
form of the outside world (log entry 2). -/
def Obligations.StepRunsFront : Prop :=
  ∀ (c : Instr) (q : List Instr) (s : State), step { s with pending := c :: q } = exec c { s with pending := q }

/-- Time passes when no command waits (the model's choice, log entry 1); the local clock advances once per cycle of
125 MHz by the increment in force (R391, R392). -/
def Obligations.EmptyQueueCycle : Prop :=
  ∀ s : State, s.pending = [] → ∃ t, step s = .next t ∧ t.up = s.up + 8 ∧ t.pending = [] ∧ t.hw = s.hw ∧
    (s.islUp 9 = true → s.clkr.ops = [] → s.clkr.slew = none →
      t.clk = s.clk + if clkNormal s then (s.reg R.CLK_INC).toNat else 0x08000000) ∧
    (s.islUp 9 = false → t.clk = s.clk)

/-- No command of the table stops; an event whose operands name nothing of this module is no event of it (log entry
5). -/
def Obligations.WellFormedCommandsComplete : Prop :=
  ∀ (c : Instr) (s : State), (∃ t, exec c s = .next t) ∧ (c.wf = false → exec c s = .next s)

/-- What the factory fixes about a module is changed by no command (0.2, R6, R621). -/
def Obligations.CommandsKeepQueueAndFactoryData : Prop :=
  ∀ (c : Instr) (s t : State), exec c s = .next t → t.pending = s.pending ∧ t.hw = s.hw

/-- The step never stops, and well-formed queues are kept. -/
def Obligations.NoStepStops : Prop :=
  ∀ s : State,
    ∃ t, step s = .next t ∧ (QueueOk s → QueueOk t) ∧ t.hw = s.hw ∧ t.pending = s.pending.tail

/-- The invariants hold right after reset. -/
def Obligations.ResetMeetsInvariants : Prop :=
  Canonical State.reset ∧ QueueOk State.reset ∧ State.reset.pending = []

/-- Equal contents are equal data, whatever commands ran. -/
def Obligations.CanonicalStoresKept : Prop :=
  ∀ s t : State, Canonical s → step s = .next t → Canonical t

/-- The state right after device reset is released for the first time (R587, R181, R320, R94, R571, R501). -/
def Obligations.ResetState : Prop :=
  (∀ i, State.reset.islUp i = decide (i = 13)) ∧
    (∀ a, a ≠ R.DEV_RSTCAUSE → a ≠ R.KEY_STAT → (∀ n, n < 9 → a ≠ R.GNT_POL n) → State.reset.reg a = resetWord a) ∧
    (∀ n, n < 9 → State.reset.reg (R.GNT_POL n) = w32 (1 + lget [2, 2, 10, 10, 20, 50, 0, 0, 0] n 0 * 65536)) ∧
    State.reset.reg R.DEV_RSTCAUSE = 0x00010001#32 ∧ State.reset.reg R.KEY_STAT = 5#32 ∧
    (∀ d ∈ allPages, State.reset.en d.num = d.core) ∧
    (∀ r a, State.reset.breg r a = resetWord a) ∧ (∀ t i, State.reset.ent t i = entryReset t i) ∧
    State.reset.ctl.seqs = [] ∧ State.reset.ctl.stage = [] ∧ State.reset.ctl.pend = [] ∧
    State.reset.arb.owner = none ∧ State.reset.htk.flows = [] ∧ State.reset.ports = [] ∧ State.reset.macs = [] ∧
    State.reset.ing.lays = [] ∧ State.reset.ing.streams = [] ∧ State.reset.ing.pools = [] ∧ State.reset.layMem = [] ∧ State.reset.egrMem = [] ∧
    State.reset.gnt.level = 0 ∧ State.reset.evt.alert = false

/-- R40, in the reporting order of R57: the register exists, so UNMAPPED does not come first. -/
def Obligations.MisalignedAccessRejected : Prop :=
  ∀ (s u : State) (req a : Nat) (v : Word) (d : PageD) (r : RegD), u = locksDue s →
    u.islUp 12 = true → locate u a = some (d, r) → a % 4 ≠ 0 →
    busWrite s req a v = (rejectRecord u req d.num (offOf a) .align, 5) ∧
      busRead s req a = (rejectRecord u req d.num (offOf a) .align, 5, 0#32)

/-- R41 and R43. -/
def Obligations.UnmappedAccessRejected : Prop :=
  ∀ (s u : State) (req a : Nat) (v : Word), u = locksDue s → u.islUp 12 = true →
    (findPage (pageOf a) = none ∨ 0x1000 ≤ a % 0x10000 ∨ findReg (a - a % 4) = none) →
    let t := if (findPage (pageOf a)).isSome = true ∧ a % 0x10000 < 0x1000
      then rejectRecord u req (pageOf a) (offOf a) .unmapped else unmapRecord u req a
    busWrite s req a v = (t, 8) ∧ busRead s req a = (t, 8, 0#32)

/-- R616: that BUSY is recorded nowhere. R20: a fence of an island in reset answers at once. -/
def Obligations.UnservedPagesAndResettingIslands : Prop :=
  ∀ (s u : State) (req a : Nat) (v : Word) (d : PageD) (r : RegD), u = locksDue s →
    u.islUp 12 = true → locate u a = some (d, r) → a % 4 = 0 →
    (servedPage u d.num = false → busWrite s req a v = (u, 7) ∧ busRead s req a = (u, 7, 0#32)) ∧
    (servedPage u d.num = true → u.fitted d.num = true → u.islUp d.isl = false → heldHeader (offOf a) = false →
      ∃ t, busWrite s req a v = (t, 0x40) ∧ busRead s req a = (t, 0x40, 0#32) ∧ t = { u with regs := t.regs } ∧
        (∀ x, x ≠ R.ISL_ABORT → t.reg x = u.reg x) ∧
        t.regF R.ISL_ABORT 0 16 = min (u.regF R.ISL_ABORT 0 16 + 1) 65535 ∧ t.regF R.ISL_ABORT 16 4 = d.isl % 16)

/-- R47 with the fields of Table 2-9. -/
def Obligations.RejectionRecord : Prop :=
  ∀ (s : State) (req p o : Nat) (e : Err), p < 256 → req < 8 → o < 0x1000 →
    (s.regB (R.PG_ERR p) 31 = false →
      let w := (rejectRecord s req p o e).reg (R.PG_ERR p)
      fld w 0 8 = e.code ∧ fld w 8 12 = o ∧ fld w 24 3 = req ∧ bit w 28 = false ∧ bit w 31 = true) ∧
    (s.regB (R.PG_ERR p) 31 = true →
      (rejectRecord s req p o e).reg (R.PG_ERR p) = s.reg (R.PG_ERR p) ||| 0x10000000#32) ∧
    (∀ (r : RegD) (v : Word),
      storeWord s req (R.PG_ERR p) r v = if bit v 31 then s.setReg (R.PG_ERR p) 0#32 else s)

/-- R56, with what PG_EVRAW.ERR sets in motion (R557-R562). -/
def Obligations.RejectedWriteChangesNothing : Prop :=
  ∀ (s s1 t : State) (req a st : Nat) (v : Word), s1 = locksDue s → busWrite s req a v = (t, st) → st ≠ 0 → st ≠ 0x40 →
    ∃ u : State, (t = u ∨
        a = 0x0400C0 ∧ t = if holds s1 req 0x04 then stageWrite u req a refusedEnq else refuseGroup u (bufItem s1 req)) ∧
      (∃ r e q, u = { s1 with regs := r, evt := e, lin := { s1.lin with subq := q } }) ∧
      ∀ x, u.reg x ≠ s1.reg x → (∃ p, x = R.PG_ERR p ∨ x = R.PG_EVRAW p) ∨ x = R.DEV_UNMAP ∨ x = R.EVT_FIRST ∨
        x = R.EVT_LOGCNT ∨ x = R.LIN_FAIL ∨ x = R.LIN_CNT0 ∨ x = R.LIN_CNT1

/-- R57. UNMAPPED and ALIGN are found before a register is asked (findTarget); all others together. -/
def Obligations.FirstCauseReported : Prop :=
  ([.unmapped, .align, .readonly, .locked, .protect, .busy, .reserved, .range, .state, .order, .cycle] : List Err).map
      Err.prio = List.range 11 ∧
    ∀ (s u : State) (req a : Nat) (v : Word) (d : PageD) (r : RegD), u = locksDue s → findTarget u req a = .reg d r →
      locate u a = some (d, r) ∧ a % 4 = 0 ∧
      let es := writeErrors u (if holds u req d.num then seqView u req else u) req a d r v
      (es ≠ [] → ∃ e ∈ es, (∀ x ∈ es, e.1.prio ≤ x.1.prio) ∧ (busWrite s req a v).2 = e.1.code)

/-- R12 (which also says the write changes nothing: the rejection frame states that) and R93. -/
def Obligations.ReservedBitsAndBarredRequesters : Prop :=
  ∀ (s u : State) (req a : Nat) (v : Word) (d : PageD) (r : RegD), u = locksDue s → findTarget u req a = .reg d r →
    (setsReserved r.fields v = true → (busWrite s req a v).2 ≠ 0) ∧
    (u.regB R.CB_BARRIER req = true → d.num ≠ 2 → (busWrite s req a v).2 ≠ 0 ∧
      ((∀ x ∈ writeErrors u (if holds u req d.num then seqView u req else u) req a d r v, x.1 = .state) →
        (busWrite s req a v).2 = 3))

/-- R91 to R93. -/
def Obligations.HoldLimitAbortsSequence : Prop :=
  ∀ (s : State) (r : Nat) (q : LockSeq), r < 8 → sget s.ctl.seqs r = some q → q.pages.headD 0 < 256 →
    elapsed s q.acq (q.lockUs * 1000) = true →
    ∃ t, exec (.lockHoldExpiry r) s = .next t ∧ t.ctl = { s.ctl with seqs := sdel s.ctl.seqs r } ∧
      t.regB R.CB_BARRIER r = true ∧
      t.reg R.CB_BROKEN = w32 (r + 2 * 16 + q.pages.headD 0 * 256 + min (s.regF R.CB_BROKEN 16 16 + 1) 65535 * 65536) ∧
      (∀ p, p < 256 → t.reg (R.PG_SEQ p) = s.reg (R.PG_SEQ p)) ∧ t.bank = s.bank ∧ t.tabs = s.tabs

/-- R74. Where none of a rank has been granted, the model takes the lowest ID (not stated here; log entry 13). -/
def Obligations.ArbiterGrants : Prop :=
  ∀ (s : State) (mask addr : Nat), (.busGrant mask addr : Instr).wf = true → contestants s mask ≠ [] →
    ∃ t w, exec (.busGrant mask addr) s = .next t ∧ t.arb.owner = some w ∧ w ∈ contestants s mask ∧
      (∀ r ∈ contestants s mask, s.regF (R.CB_PRI r) 0 4 ≤ s.regF (R.CB_PRI w) 0 4) ∧
      ∀ l, l < 8 → sget s.arb.lastOf (s.regF (R.CB_PRI w) 0 4) = some l → ∀ r ∈ contestants s mask,
        s.regF (R.CB_PRI r) 0 4 = s.regF (R.CB_PRI w) 0 4 → (w + 7 - l) % 8 ≤ (r + 7 - l) % 8

/-- R77 and R79. -/
def Obligations.ArbiterCountsLosses : Prop :=
  ∀ (s : State) (mask addr w : Nat), (.busGrant mask addr : Instr).wf = true → winner s (contestants s mask) = some w →
    ∃ t, exec (.busGrant mask addr) s = .next t ∧ t.regF (R.CB_LOSS w) 0 16 = 0 ∧
      t.regF (R.CB_LOSS w) 16 16 = s.regF (R.CB_LOSS w) 16 16 ∧
      (∀ r ∈ contestants s mask, r ≠ w →
        t.regF (R.CB_LOSS r) 0 16 = min (s.regF (R.CB_LOSS r) 0 16 + 1) 0xFFFF ∧
        t.regF (R.CB_LOSS r) 16 16 =
          max (s.regF (R.CB_LOSS r) 16 16) (min (s.regF (R.CB_LOSS r) 0 16 + 1) 0xFFFF)) ∧
      ∀ r, r < 8 → r ∉ contestants s mask → t.reg (R.CB_LOSS r) = s.reg (R.CB_LOSS r)

/-- R60; the reply form is R61. -/
def Obligations.HostPortCrc : Prop :=
  (∀ bs : List Byte, crc16 bs =
      (bs.flatMap fun b => (List.range 8).map fun i => b.toNat.testBit (7 - i)).foldl
        (fun r m => if r.testBit 15 != m then (r * 2 % 65536) ^^^ 0x1021 else r * 2 % 65536) 0xFFFF) ∧
    crc16 [0x31#8, 0x32#8, 0x33#8, 0x34#8, 0x35#8, 0x36#8, 0x37#8, 0x38#8, 0x39#8] = 0x29B1 ∧
    ∀ (s : State) (st : Nat) (ws : List Word),
      let b := beBytes 1 st ++ wordBytes ws
      (hostData s st ws).ctl.hostOut = b ++ [BitVec.ofNat 8 (crc16 b / 256), BitVec.ofNat 8 (crc16 b)]

/-- R62, R63; the zero words after a failed CRC are the model's choice (log entry 16). -/
def Obligations.BadHostFramesDoNothing : Prop :=
  ∀ (s : State) (addr n crc : Nat) (v : Word) (ws : List Word) (cut : Option Nat),
    ((.hostWr addr v crc : Instr).wf = true → crc ≠ crc16 (hostHead 0x02 addr ++ wordBytes [v]) →
      exec (.hostWr addr v crc) s = .next (settled s (hostDrive s [0x41#8, 0xBE#8]))) ∧
    ((.hostWrb addr ws cut crc : Instr).wf = true →
      crc ≠ crc16 (hostHead 0x03 addr ++ beBytes 1 (ws.length - 1) ++ wordBytes ws) →
      exec (.hostWrb addr ws cut crc) s = .next (settled s (hostDrive s [0x41#8, 0xBE#8]))) ∧
    ((.hostRd addr crc : Instr).wf = true → crc ≠ crc16 (hostHead 0x0B addr) →
      exec (.hostRd addr crc) s = .next (settled s (hostData s 0x41 [0#32]))) ∧
    ((.hostRdb addr n cut crc : Instr).wf = true → crc ≠ crc16 (hostHead 0x0C addr ++ beBytes 1 n) →
      exec (.hostRdb addr n cut crc) s = .next (settled s (hostData s 0x41 (List.replicate (n + 1) 0#32)))) ∧
    ((.hostFrameAbort addr [] : Instr).wf = true →
      exec (.hostFrameAbort addr []) s = .next (settled s (hostDrive s [])))

/-- R64. The cut-off of a tenure (R81) is a further end, stated for the tenure's command. -/
def Obligations.BurstStopsAtFirstRejectedWord : Prop :=
  ∀ (s t : State) (req a : Nat),
    (∀ (us vs : List Word) (v : Word), burstWrite s req a us none = (t, 0) →
      let r := busWrite t req (a + 4 * us.length) v
      (r.2 = 0 → burstWrite s req a (us ++ [v]) none = (noteReply r.1 (a + 4 * us.length), 0)) ∧
      (r.2 ≠ 0 → burstWrite s req a (us ++ v :: vs) none = (noteReply r.1 (a + 4 * us.length), r.2))) ∧
    ∀ (n m : Nat) (ws : List Word), burstRead n s req a none = (t, 0, ws) →
      let r := busRead t req (a + 4 * n)
      (r.2.1 = 0 → burstRead (n + 1) s req a none = (noteReply r.1 (a + 4 * n), 0, ws ++ [r.2.2])) ∧
      (r.2.1 ≠ 0 → burstRead (n + 1 + m) s req a none =
        (noteReply r.1 (a + 4 * n), r.2.1, ws ++ List.replicate (m + 1) 0#32))

/-- The register file as the model stores it; R54: a window's index and buffer exist once for each requester. -/
def Obligations.RegistersBanksAndTablesReadBack : Prop :=
  ∀ (s : State), (∀ (a b : Nat) (v : Word), (s.setReg a v).reg b = if b = a then v else s.reg b) ∧
    (∀ (q r a b : Nat) (v : Word), a < 2 ^ 24 → b < 2 ^ 24 →
      (s.setBreg q a v).breg r b = if r = q ∧ b = a then v else s.breg r b) ∧
    (∀ (t u i j : Nat) (ws : List Word), i < 2 ^ 32 → j < 2 ^ 32 →
      (s.setEnt t i ws).ent u j = if u = t ∧ j = i then ws else s.ent u j)

/-- The fields of register words, and R11: registers are little-endian, frame fields big-endian. -/
def Obligations.FieldsAndByteOrders : Prop :=
  (∀ (x : Word) (lo w v : Nat), lo + w ≤ 32 →
      fld (setFld x lo w v) lo w = v % 2 ^ w ∧
        ∀ i, i < 32 → (i < lo ∨ lo + w ≤ i) → (setFld x lo w v).getLsbD i = x.getLsbD i) ∧
    (∀ k n : Nat, leNat (leBytes k n) = n % 256 ^ k ∧ beNat (beBytes k n) = n % 256 ^ k ∧
      beBytes k n = (leBytes k n).reverse) ∧
    ∀ w : Word, w32 (leNat (leBytes 4 w.toNat)) = w

/-- The layer and egress-buffer regions of the frame store. -/
def Obligations.FrameStoreReadsBack : Prop :=
  ∀ (s : State) (o : Nat),
    (∀ (bs : List Byte) (a : Nat), sgetD (layWrite s o bs).layMem a 0#8 =
      if o ≤ a ∧ a < o + bs.length then lget bs (a - o) 0#8 else sgetD s.layMem a 0#8) ∧
    (∀ bs : List Byte, layRead (layWrite s o bs) o bs.length = leNat bs) ∧
    (∀ v a : Nat, sgetD (egrWrite s o v).egrMem a 0#8 =
      if a = o then BitVec.ofNat 8 v else if a = o + 1 then BitVec.ofNat 8 (v / 256) else sgetD s.egrMem a 0#8)

/-- R556 and the level of R557. -/
def Obligations.EventSourcesShown : Prop :=
  ∀ (s : State) (src : Nat), src < 256 →
    (evtSrc (evtTouch s src) (src / 32)).testBit (src % 32) = srcActive s src ∧
    (src < 0x80 → (srcActive s src = true ↔ s.fitted src = true ∧
      s.reg (R.PG_EVRAW src) &&& s.reg (R.PG_EVMSK src) ≠ 0#32)) ∧
    (0x80 ≤ src → src < 0x95 → (srcActive s src = true ↔
      s.reg (R.MAC_EVRAW (src - 0x70)) &&& s.reg (R.MAC_EVMSK (src - 0x70)) ≠ 0#32)) ∧
    (0xC0 ≤ src → src < 0xD0 → srcActive s src = s.evt.sw.testBit (src - 0xC0)) ∧
    ((src < 0x80 ∧ findPage src = none) ∨ (0x95 ≤ src ∧ src < 0xC0) ∨ 0xD0 ≤ src → srcActive s src = false)

/-- R558, R559. -/
def Obligations.AlertLine : Prop :=
  ∀ s : State, s.islUp 12 = true → ∃ t, exec .alertRelease s = .next t ∧
    (alertWanted s = false → t.evt.alert = false ∧
      t = alone s (if s.evt.alert then { s with evt := { s.evt with alert := false, alertRel := some s.up } } else s)) ∧
    (alertWanted s = true → s.evt.alert = true → s.evt.firstAt ≠ some s.up → t = alone s s) ∧
    (alertWanted s = true → s.evt.alert = true → s.evt.firstAt = some s.up → s.regB R.EVT_FIRST 31 = true →
      t = alone s (s.setReg R.EVT_FIRST (w32 (2 ^ 31 + min (s.regF R.EVT_FIRST 0 8) (alertLowest s))))) ∧
    (alertWanted s = true → s.evt.alert = false →
      (∀ at_, s.evt.alertRel = some at_ → at_ + 1000 ≤ s.up) →
      (s.regB R.EVT_FIRST 31 = true → t = alone s { s with evt := { s.evt with alert := true } }) ∧
      (s.regB R.EVT_FIRST 31 = false →
        t = alone s ({ s with evt := { s.evt with alert := true, firstAt := some s.up } }.setReg R.EVT_FIRST
          (w32 (2 ^ 31 + alertLowest s))))) ∧
    (alertWanted s = true → s.evt.alert = false → s.evt.firstAt ≠ some s.up →
      (∃ at_, s.evt.alertRel = some at_ ∧ s.up < at_ + 1000) → t = alone s s)

/-- R184. -/
def Obligations.RoundHalfUp : Prop :=
  ∀ (x : Int) (k : Nat), 0 < k →
    rnd x k = (x + 2 ^ (k - 1)) >>> k ∧ 2 ^ k * rnd x k ≤ x + 2 ^ (k - 1) ∧ x + 2 ^ (k - 1) < 2 ^ k * (rnd x k + 1) ∧
      (∀ y : Int, x = 2 ^ k * y + 2 ^ (k - 1) → rnd x k = y + 1) ∧ x / 2 ^ k = x >>> k

/-- R200 (d = 2^n - 1) and R197. -/
def Obligations.SamplesWidened : Prop :=
  (∀ v d : Nat, 0 < d → v ≤ d →
      2 * d * toU116 v d ≤ 2 * v * 65536 + d ∧ 2 * v * 65536 + d < 2 * d * (toU116 v d + 1) ∧
      toU116 0 d = 0 ∧ toU116 d d = 65536 ∧ ∀ u, u ≤ v → toU116 u d ≤ toU116 v d) ∧
    ∀ v : Nat, v < 256 → widen true false v = 4 * v ∧ widen true true v = 4 * v + v >>> 6 ∧ widen true true v < 1024

/-- R342. -/
def Obligations.DeratingFactorIsTheSmallest : Prop :=
  ∀ s : State, let f := (newFactor s).regF R.DRV_FACTOR 0 9
    let a : Int := s.regF R.DRV_DERATE 0 7
    let b : Int := s.regF R.DRV_DERATE 8 7
    let ps := (List.range 4).map (railPower s)
    let ts := [thermTerm s, powerTerm (s.regF R.DRV_DERATE 16 9) (ps.foldl (· + ·) 0 + mxPower s)] ++ ps.map (powerTerm 120)
    f ≤ 256 ∧ (∀ x ∈ ts, f ≤ x) ∧ (f = 256 ∨ f ∈ ts) ∧
      (baseDeg s ≤ a → thermTerm s = 256) ∧ (a < baseDeg s → b ≤ baseDeg s → thermTerm s = 0) ∧
      (a < baseDeg s → baseDeg s < b → (thermTerm s : Int) * (b - a) ≤ 256 * (b - baseDeg s) ∧
        256 * (b - baseDeg s) < (thermTerm s + 1) * (b - a)) ∧
      (∀ w p, p ≤ w * 100000000000 → powerTerm w p = 256) ∧
      (∀ w p, w * 100000000000 < p → powerTerm w p * p ≤ 256 * w * 100000000000 ∧
        256 * w * 100000000000 < (powerTerm w p + 1) * p) ∧
      ∀ x, x ∉ [R.DRV_FACTOR, R.PG_EVRAW 0x30, R.PG_EVRAW 0x03, R.PG_EVRAW 0x40, R.EVT_FIRST, R.EVT_LOGCNT, R.LIN_FAIL,
        R.LIN_CNT0, R.LIN_CNT1] → (newFactor s).reg x = s.reg x

/-- R367, R373. -/
def Obligations.AccumulatorsAndSpills : Prop :=
  ∀ (s : State) (req a inc : Nat),
    (let c := accCount (accShown s req a);
      (accEntry s req a).take 2 = [w32 c, w32 (c / 2 ^ 32)] ∧
        ((accEntry s req a).drop 3).take 2 = [w32 (c / 3600), w32 (c / 3600 / 2 ^ 32)]) ∧
    (let unit := s.entF tACC a 5 0 17 * 3600;
      accVal (accAdd s a inc) a = accVal s a + inc ∧
        sgetD (accAdd s a inc).mtr.spills a 0 =
          sgetD s.mtr.spills a 0 + (accCount (accVal s a + inc) / unit - accCount (accVal s a) / unit)) ∧
    ∀ b, b ≠ a → accVal (accAdd s a inc) b = accVal s b ∧
      sgetD (accAdd s a inc).mtr.spills b 0 = sgetD s.mtr.spills b 0

/-- R511: the vault never exports a secret; the public positions are those of Table 16-6. -/
def Obligations.VaultReadTellsNoSecret : Prop :=
  ∀ (s t : State) (n : Nat), 4 ≤ n → n < 32 →
    let pub (k : Nat) : Bool := decide (32 ≤ k) && decide (k < if n ≤ 8 then 65 else if n ≤ 18 then 37 else 0)
    ((∀ k, pub k = true → lget (slotBytes s n) k 0#8 = lget (slotBytes t n) k 0#8) → vaultRead s n = vaultRead t n) ∧
      (vaultRead s n).length = 96 ∧ ∀ k, pub k = false → lget (vaultRead s n) k 0#8 = 0#8

/-- R540, R541. -/
def Obligations.CalibrationVerdict : Prop :=
  ∀ (s : State) (q : Nat), let x := s.qty q
    let t := calJudge s q
    (qtyTol s q * 16 < (x.runA - x.runB).natAbs →
      t.qty q = { x with state := 0, disagree := min (x.disagree + 1) 65535 } ∧ (∀ j, j ≠ q → t.qty j = s.qty j) ∧
        t.htk = s.htk) ∧
    ((x.runA - x.runB).natAbs ≤ qtyTol s q * 16 →
      (rnd (x.runA + x.runB) 5 < (qtyRange q).1 ∨ (qtyRange q).2 < rnd (x.runA + x.runB) 5) →
      t.qty q = { x with state := 0 } ∧ (∀ j, j ≠ q → t.qty j = s.qty j) ∧ t.htk = s.htk) ∧
    ((x.runA - x.runB).natAbs ≤ qtyTol s q * 16 → (qtyRange q).1 ≤ rnd (x.runA + x.runB) 5 →
      rnd (x.runA + x.runB) 5 ≤ (qtyRange q).2 → (t.qty q).target = rnd (x.runA + x.runB) 5 ∧
        (t.qty q).accept = min (x.accept + 1) 65535 ∧ (t.qty q).value = x.value)

/-- R478: a state record supersedes the earlier one of the same type and key; a LOG record takes no part. -/
def Obligations.LatestStateRecordCounts : Prop :=
  ∀ (s : State) (partner : Bool) (typ key : Nat),
    let hit (r : LRec) : Prop := r.partner = partner ∧ r.typ = typ ∧ recKey r = key ∧ r.log = false
    (∀ r, stateRec s partner typ key = some r → hit r ∧ ∃ l m, sources s = l ++ r :: m ∧ ∀ x ∈ m, ¬hit x) ∧
      (stateRec s partner typ key = none → ∀ x ∈ sources s, ¬hit x)

/-- R94, R571 and chapter 20.5. -/
def Obligations.DeviceResetClears : Prop :=
  ∀ (s : State) (cause phase : Nat), s.gnt.waiting = [] → s.gnt.level < 2 → s.gnt.cellLost = false →
    let t := deviceReset s cause phase
    (∀ a, a ∉ heldRegs → t.reg a = resetWord a) ∧ (∀ a ∈ heldRegs, a ≠ R.DEV_RSTCAUSE → t.reg a = s.reg a) ∧
      t.bank = [] ∧ t.tabs = [] ∧ t.ctl.seqs = [] ∧ t.ctl.stage = [] ∧ t.ctl.pend = [] ∧ t.arb = State.reset.arb ∧
      t.isl = State.reset.isl ∧ t.evt = State.reset.evt ∧ t.htk = htk0 ∧ t.ports = [] ∧ t.macs = [] ∧ t.drv = drv0 ∧
      t.gnt.slots = s.gnt.slots ∧ t.gnt.level = s.gnt.level ∧ t.pending = s.pending ∧ t.hw = s.hw ∧
      (0 < cause → cause < 8 → t.regF R.DEV_RSTCAUSE 0 3 = cause ∧
        t.regF R.DEV_RSTCAUSE 16 16 = min (s.regF R.DEV_RSTCAUSE 16 16 + 1) 65535)

/-- Islands and fences (chapter 1, 19.4), arbitration and locked sequences (chapter 3). When each event takes
effect, and the state it leaves: the queue and the factory's data stay (alone, settled). -/
def Obligations.BusEventsComplete : Prop :=
  (∀ (s : State) (i : Nat), (.islandResetEnd i : Instr).wf = true → resetOver s i = true →
    exec (.islandResetEnd i) s = .next (settled s (raise (enginesBack (if i = 10 then meterCalRestore (reopened s
      i) else if 4 ≤ i ∧ i ≤ 8 then ptpTouch (reopened s i) else reopened s i) i) 0x01 i))) ∧
  (∀ (s : State) (i : Nat) (age : FenceAge), (.fenceTimeout i age : Instr).wf = true → fenceDue s i age = true →
    exec (.fenceTimeout i age) s = .next (settled s (raise (((fenceFired s i).setRegF R.ISL_FTO 16 4 i).count
      R.ISL_FTO 20 6 1) 0x01 14))) ∧
  (∀ (s : State) (i : Nat),
    (.orphanReply i : Instr).wf = true → s.islUp i = false → (sget s.isl.resetAt i).isSome = true →
    s.isl.outs.find? (fun o => o.orphan && reqIsland o.req == i) = none →
    exec (.orphanReply i) s = .next (settled s (s.count R.ISL_FTO 26 6 1))) ∧
  (∀ (s : State) (mask addr w : Nat),
    (.busGrant mask addr : Instr).wf = true → winner s (contestants s mask) = some w →
    exec (.busGrant mask addr) s = .next (alone s (granted s (((contestants s mask).filter (· != w)).foldl loses
      s) w (rankReq s w) addr))) ∧
  (∀ (s : State) (r t : Nat), (.backoffExpiry r : Instr).wf = true → sget s.arb.backoff r = some t → t ≤ s.up →
    exec (.backoffExpiry r) s = .next (alone s
      { s with arb := { s.arb with backoff := sdel s.arb.backoff r, contest := s.arb.contest ||| 2 ^ r } })) ∧
  (∀ (s : State) (r addr : Nat), (.tenureCutoff r addr .burst : Instr).wf = true → s.arb.owner = some r →
    elapsed s s.arb.tenureStart (5 * s.regF R.CB_HOLD 0 16) = true →
    exec (.tenureCutoff r addr .burst) s = .next (settled s
      { cutRecorded s r addr with arb := { (cutRecorded s r addr).arb with waiting := (cutRecorded s r addr).arb.waiting ||| 2 ^ r, cut := (cutRecorded s r addr).arb.cut ||| 2 ^ r } })) ∧
  (∀ (s : State) (r addr : Nat) (v : Word),
    (.tenureCutoff r addr (.write v) : Instr).wf = true → s.arb.owner = some r →
    elapsed s s.arb.tenureStart (5 * s.regF R.CB_HOLD 0 16) = true →
    exec (.tenureCutoff r addr (.write v)) s = .next (settled s (answered (busWriteR (cutRecorded s r addr) r addr
      v) r))) ∧
  (∀ (s : State) (r addr : Nat), (.tenureCutoff r addr .read : Instr).wf = true → s.arb.owner = some r →
    elapsed s s.arb.tenureStart (5 * s.regF R.CB_HOLD 0 16) = true →
    exec (.tenureCutoff r addr .read) s = .next (settled s (answered (busReadR (cutRecorded s r addr) r addr) r))) ∧
  (∀ (s : State) (r addr : Nat) (v : Option Word),
    (.tenureCutoff r addr (.waits v) : Instr).wf = true → s.arb.owner = some r →
    elapsed s s.arb.tenureStart (5 * s.regF R.CB_HOLD 0 16) = true →
    exec (.tenureCutoff r addr (.waits v)) s = .next (settled s (waitAtFence (cutRecorded s r addr) r addr v))) ∧
  (∀ (s : State) (r : Nat) (q : LockSeq), (.lockHoldExpiry r : Instr).wf = true → sget s.ctl.seqs r = some q →
    elapsed s q.acq (q.lockUs * 1000) = true → exec (.lockHoldExpiry r) s = .next (alone s (seqAbort s r 2))) ∧
  (∀ (s : State) (i : Nat) (o : OutReq) (v : Word),
    (.orphanReply i : Instr).wf = true → s.isl.outs.find? (fun o => o.orphan && reqIsland o.req == i) = some o →
    o.val = some v →
    exec (.orphanReply i) s = .next (settled s ((noteReply (busWrite
      { s with isl := { s.isl with outs := s.isl.outs.erase o } } o.req o.addr v).1 o.addr).count R.ISL_FTO 26 6 1)))

/-- The QSPI host port (2.5) and remote accesses (2.6). The replies of a burst are those of burstWrite and
burstRead. When each event takes effect, and the state it leaves: the queue and the factory's data stay (alone,
settled). -/
def Obligations.AccessPathsComplete : Prop :=
  (∀ (s : State) (addr crc : Nat) (v : Word),
    (.hostWr addr v crc : Instr).wf = true → crc = crc16 (hostHead 0x02 addr ++ wordBytes [v]) →
    awaited s 1 addr (some v) = true →
    exec (.hostWr addr v crc) s = .next (settled s (hostWritten s addr [v] none))) ∧
  (∀ (s : State) (addr crc : Nat) (ws : List Word) (cut : Option Nat), (.hostWrb addr ws cut crc : Instr).wf = true →
    crc = crc16 (hostHead 0x03 addr ++ beBytes 1 (ws.length - 1) ++ wordBytes ws) → mayBurst s 1 = true →
    exec (.hostWrb addr ws cut crc) s = .next (settled s (hostWritten s addr ws cut))) ∧
  (∀ (s : State) (addr crc : Nat),
    (.hostRd addr crc : Instr).wf = true → crc = crc16 (hostHead 0x0B addr) → awaited s 1 addr none = true →
    exec (.hostRd addr crc) s = .next (settled s (hostRead s addr 1 none))) ∧
  (∀ (s : State) (addr n crc : Nat) (cut : Option Nat),
    (.hostRdb addr n cut crc : Instr).wf = true → crc = crc16 (hostHead 0x0C addr ++ beBytes 1 n) →
    mayBurst s 1 = true → exec (.hostRdb addr n cut crc) s = .next (settled s (hostRead s addr (n + 1) cut))) ∧
  (∀ (s : State) (cmd : Byte) (body : List Byte) (crc : Nat), (.hostUnknownCommand cmd body crc : Instr).wf = true →
    exec (.hostUnknownCommand cmd body crc) s = .next (alone s (hostStatus s (if crc = crc16 (cmd :: body) then
      0x42 else 0x41)))) ∧
  (∀ (s : State) (addr : Nat) (ws : List Word),
    (.hostFrameAbort addr ws : Instr).wf = true → ws ≠ [] → mayBurst s 1 = true →
    exec (.hostFrameAbort addr ws) s = .next (settled s (hostDrive (answered (burstWrite s 1 addr ws none).1 1)
      []))) ∧
  (∀ (s : State) (p dst src id cmd n addr : Nat) (ws : List Word) (cut : Option Nat) (t : State),
    (.remoteRequest p dst src id cmd n addr ws cut : Instr).wf = true → hbIn s p = true →
    ryuArrive s p ⟨0x20, dst, src, id, remotePayload cmd n addr 0 ws⟩ = (t, true) →
    exec (.remoteRequest p dst src id cmd n addr ws cut) s = .next (settled s (remoteServe t p dst src id cmd n
      addr ws cut))) ∧
  (∀ (s : State) (p dst src id cmd n addr st : Nat) (ws : List Word) (t : State),
    (.remoteReply p dst src id cmd n addr st ws : Instr).wf = true → hbIn s p = true →
    ryuArrive s p ⟨0x21, dst, src, id, remotePayload cmd n addr st ws⟩ = (t, true) →
    exec (.remoteReply p dst src id cmd n addr st ws) s = .next (settled s (raReply t p id st ws))) ∧
  (∀ (s : State) (r p : Nat) (q : RaReq),
    (.remoteTimeout r p : Instr).wf = true → sget s.hb.ras (raKey r p) = some q →
    elapsed s q.sent 2000000 = true → exec (.remoteTimeout r p) s = .next (alone s (raDone s (raKey r p) 0x43)))

/-- Release, dispatch and failure of items (chapter 4). When each event takes effect, and the state it leaves: the
queue and the factory's data stay (alone, settled). -/
def Obligations.HatrackEventsComplete : Prop :=
  (∀ (s : State), s.islUp 2 = true → s.htk.lastTick ≠ some (tickNow s) →
    exec (.tickRelease) s = .next (settled s (tickReleased s))) ∧
  (∀ (s : State),
    s.islUp 2 = true → s.htk.lastSlot ≠ some (s.up / 20) → exec (.dispatch) s = .next (settled s (dispatched s))) ∧
  (∀ (s : State), s.islUp 2 = true →
    exec (.reservationExpire) s = .next (alone s ((s.htk.resv.filter fun r => decide (r.until_ ≤ s.up) &&
      !(resvIdle s r && resvMay s r)).foldl (fun t r => unreserve t r.flow) s))) ∧
  (∀ (s : State) (f : Nat) (h : Item),
    (.itemExpire f : Instr).wf = true → s.islUp 2 = true → (s.flow f).queue.head? = some h →
    (s.flow f).state = .waiting ∨ (s.flow f).state = .ready ∨ (s.flow f).state = .reserved →
    headExpired s h = true → exec (.itemExpire f) s = .next (settled s (expireHead (unreserve s f) f))) ∧
  (∀ (s : State) (x : Exec) (v : Svc),
    (.executorFault x : Instr).wf = true → svcOf s x = some v → (∀ e, x ≠ .engine e) →
    exec (.executorFault x) s = .next (settled s (faultItem s v))) ∧
  (∀ (s : State) (e : Nat) (v : Svc), (.executorFault (.engine e) : Instr).wf = true → svcOf s (.engine e) = some v →
    exec (.executorFault (.engine e)) s = .next (settled s (faultItem (engFault (engDownNow s e) e 1) v))) ∧
  (∀ (s : State) (x : Exec) (v : Svc), (.itemWatchdog x : Instr).wf = true → svcOf s x = some v →
    elapsed s v.start (s.regF R.HTK_WDOG 0 16 * 1000) = true → (∀ e, x ≠ .engine e) →
    exec (.itemWatchdog x) s = .next (settled s (faultItem (raise s 0x04 6) v)))

/-- What the completion of an item in service leaves (chapters 4 to 8). When each event takes effect, and the state
it leaves: the queue and the factory's data stay (alone, settled). -/
def Obligations.CompletionsComplete : Prop :=
  (∀ (s : State) (x : Exec) (q : Int) (v : Svc), (.itemComplete x true q : Instr).wf = true → svcOf s x = some v →
    exec (.itemComplete x true q) s = .next (settled s (failItem s v 2))) ∧
  (∀ (s : State) (q : Int) (v : Svc), (.itemComplete .fold false q : Instr).wf = true → svcOf s .fold = some v →
    exec (.itemComplete .fold false q) s = .next (settled s (foldComplete s))) ∧
  (∀ (s : State) (e : Nat) (ue : Ue) (v : Svc) (t : State) (dg : Nat),
    (.renderComplete e ue : Instr).wf = true → svcOf s (.engine e) = some v → v.item.kind = kRender →
    renderItem s v.item v.reads ue = (t, some dg) →
    exec (.renderComplete e ue) s = .next (settled s (completeItem (renderDone t v.item dg) v))) ∧
  (∀ (s : State) (e : Nat) (ue : Ue) (v : Svc) (t : State),
    (.renderComplete e ue : Instr).wf = true → svcOf s (.engine e) = some v → v.item.kind = kRender →
    renderItem s v.item v.reads ue = (t, none) →
    exec (.renderComplete e ue) s = .next (settled s (failItem t v 2))) ∧
  (∀ (s : State) (p : Nat) (v : Svc),
    (.pushHandoff p : Instr).wf = true → svcOf s (.framer p) = some v → v.item.kind = kPush →
    suppressed s v.item = false → p < 16 → v.credits ≤ (dataFrames s v.item (fClass s v.flow) v.credits).length →
    exec (.pushHandoff p) s = .next (settled s (completeItem ((dataFrames s v.item (fClass s v.flow)
      v.credits).foldl (fun t f => handFrame t p f) s) v))) ∧
  (∀ (s : State) (e : Nat) (v : Svc),
    (.checkComplete e : Instr).wf = true → svcOf s (.engine e) = some v → v.item.kind = kCheck →
    exec (.checkComplete e) s = .next (settled s (checkComplete s e))) ∧
  (∀ (s : State) (e : Nat) (v : Svc),
    (.ingestFixComplete e : Instr).wf = true → svcOf s (.engine e) = some v → v.item.kind = kIngest →
    exec (.ingestFixComplete e) s = .next (settled s (ingestFixComplete s e))) ∧
  (∀ (s : State) (v : Svc), svcOf s .fold = some v → exec (.meterFoldComplete) s = .next (settled s (foldComplete s))) ∧
  (∀ (s : State) (v : Svc),
    svcOf s .cal = some v → exec (.calStepComplete none) s = .next (settled s (failItem s v 2))) ∧
  (∀ (s : State) (r : Int) (v : Svc), svcOf s .cal = some v → v ∉ s.htk.orphans → v.item.f 6 8 2 = 0 →
    qtyMeasurable s (v.item.f 6 0 8) true = true → ((completeItem s v).qty (v.item.f 6 0 8)).state = 1 →
    exec (.calStepComplete (some r)) s = .next (settled s (calNext ((completeItem s v).setQty (v.item.f 6 0 8)
      { (completeItem s v).qty (v.item.f 6 0 8) with runA := r, state := 2 }) (v.item.f 6 0 8) 1 0 (now32 s +
      10000000)))) ∧
  (∀ (s : State) (r : Int) (v : Svc), svcOf s .cal = some v → v ∉ s.htk.orphans → v.item.f 6 8 2 = 1 →
    qtyMeasurable s (v.item.f 6 0 8) true = true → ((completeItem s v).qty (v.item.f 6 0 8)).state = 2 →
    exec (.calStepComplete (some r)) s = .next (settled s (calJudge ((completeItem s v).setQty (v.item.f 6 0 8)
      { (completeItem s v).qty (v.item.f 6 0 8) with runB := r }) (v.item.f 6 0 8)))) ∧
  (∀ (s : State) (r : Int) (v : Svc), svcOf s .cal = some v → v ∉ s.htk.orphans → v.item.f 6 8 2 = 2 →
    ((completeItem s v).qty (v.item.f 6 0 8)).state = 3 →
    exec (.calStepComplete (some r)) s = .next (settled s (calTap (completeItem s v) (v.item.f 6 0 8) v.item))) ∧
  (∀ (s : State) (p : Nat) (v : Svc),
    (.nodePoll p : Instr).wf = true → svcOf s (.framer p) = some v → v.item.kind = kPoll →
    suppressed s v.item = false → v.item.f 6 24 4 ≠ 3 →
    exec (.nodePoll p) s = .next (settled s (completeItem (handFrame s p (ctlFrame 4 (v.item.f 6 12 12) v.flow
      (fClass s v.flow) 0 (beBytes 1 (v.item.f 6 24 4) ++ beBytes 3 0) (v.item.f 7 0 16) (v.credits != 0))) v))) ∧
  (∀ (s : State) (p : Nat) (v : Svc),
    (.nodePoll p : Instr).wf = true → svcOf s (.framer p) = some v → v.item.kind = kPoll →
    suppressed s v.item = false → v.item.f 6 24 4 = 3 → v.item.f 6 12 12 = 4095 →
    exec (.nodePoll p) s = .next (settled s (completeItem (handFrame s p (ctlFrame 6 (v.item.f 6 12 12) v.flow
      (fClass s v.flow) 0 (beBytes 2 (s.regF (R.PP_ENUM p) 0 10) ++ beBytes 1 (s.regF (R.PP_ENUM p) 10 1) ++ beBytes
      1 0) (s.regF (R.PP_ENUM p) 0 10) (v.credits != 0))) v))) ∧
  (∀ (s : State) (v : Svc),
    s.arb.waiting.testBit 5 = false → svcOf s .cue = some v → s.entF tTDMQ (v.item.f 6 0 12) 0 0 1 = 0 →
    exec (.cueRun) s = .next (settled s (cueChain (completeItem s v) v.item))) ∧
  (∀ (s : State) (v : Svc) (t : State),
    s.arb.waiting.testBit 5 = false → svcOf s .cue = some v → s.entF tTDMQ (v.item.f 6 0 12) 0 0 1 = 1 →
    s.entF tTDMQ (v.item.f 6 0 12) 0 1 1 = 0 → cueWrites s (cueActions s (v.item.f 6 0 12)) = (t, true) →
    exec (.cueRun) s = .next (settled s (cueChain (completeItem t v) v.item))) ∧
  (∀ (s : State) (v : Svc) (t : State),
    s.arb.waiting.testBit 5 = false → svcOf s .cue = some v → s.entF tTDMQ (v.item.f 6 0 12) 0 0 1 = 1 →
    s.entF tTDMQ (v.item.f 6 0 12) 0 1 1 = 1 → cueLocked s (cueActions s (v.item.f 6 0 12)) = (t, true) →
    exec (.cueRun) s = .next (settled s (cueChain (completeItem t v) v.item))) ∧
  (∀ (s : State) (v : Svc) (t : State),
    s.arb.waiting.testBit 5 = false → svcOf s .cue = some v → s.entF tTDMQ (v.item.f 6 0 12) 0 0 1 = 1 →
    s.entF tTDMQ (v.item.f 6 0 12) 0 1 1 = 0 → cueWrites s (cueActions s (v.item.f 6 0 12)) = (t, false) →
    exec (.cueRun) s = .next (settled s (failItem t v 2))) ∧
  (∀ (s : State) (e crc : Nat) (v : Svc), (.testComplete e crc : Instr).wf = true → svcOf s (.engine e) = some v →
    exec (.testComplete e crc) s = .next (settled s (testEnd s e crc)))

/-- Streams, E1.31 and Perfer-IN (chapter 5). When each event takes effect, and the state it leaves: the queue and
the factory's data stay (alone, settled). -/
def Obligations.IngestEventsComplete : Prop :=
  (∀ (s : State) (u len : Nat) (m : List Byte) (t : State) (id : Nat),
    (.perferInRegion u len m : Instr).wf = true → parserOn s R.LAY_PIN u = true → regionOk s m = true →
    (slotAt s (beAt m 2 1) (beAt m 3 1)).st = 1 → poolTake s u len = some (t, id) →
    exec (.perferInRegion u len m) s = .next (settled s (carryFrame t u (beAt m 2 1) (beAt m 4 4) ⟨some id,
      .region (beAt m 3 1) (beAt m 4 4) (regionRows (layBase s (beAt m 2 1) (beAt m 3 1)) (layPlanes s (beAt m 2 1))
      (beAt m 16 1) (beAt m 8 2) (beAt m 10 2) (beAt m 12 2) (beAt m 14 2) (m.drop 20))⟩ false))) ∧
  (∀ (s : State) (u len : Nat) (m : List Byte) (t : State) (id : Nat),
    (.perferInCommit u len m : Instr).wf = true → parserOn s R.LAY_PIN u = true → commitOk s m = true →
    poolTake s u len = some (t, id) →
    exec (.perferInCommit u len m) s = .next (settled s (carryFrame t u (beAt m 2 1) (beAt m 4 4) ⟨some id,
      .commit (beAt m 3 1) (beAt m 4 4) (beAt m 8 2 + beAt m 10 2 * 65536)⟩ true))) ∧
  (∀ (s : State) (n len ssrc seq ts : Nat) (mk : Bool) (rs : List Srd) (v : VFrame),
    (.st2110Packet n len ssrc seq ts mk rs : Instr).wf = true →
    (s.en 0x08 && s.en 0x09 && s.islUp 4 && s.regB (R.LAY_SCTL n) 0) = true →
    srdsOk (s.regF (R.LAY_SCTL n) 10 2) (s.regF (R.LAY_SCTL n) 12 2) (layW s (s.regF (R.LAY_SCTL n) 2 8)) (layH s
      (s.regF (R.LAY_SCTL n) 2 8)) rs = true →
    (s.stream n).ssrc = some ssrc → (s.stream n).cur = some v → v.ts = ts →
    frameBufs len ≤ poolFree s (s.regF (R.LAY_SCTL n) 1 1) →
    exec (.st2110Packet n len ssrc seq ts mk rs) s = .next (settled s (videoWrite (s.setStream n
      { s.stream n with ssrc := some ssrc, live := true, lastPkt := s.up }) n len seq ts mk rs))) ∧
  (∀ (s : State) (u len univ cid prio seq start : Nat) (dest : Option Nat) (preview term : Bool) (slots : List Byte) (v : State),
    (.e131Data u ⟨len, dest⟩ univ cid prio seq preview term start slots : Instr).wf = true →
    v = ((univEntries s).filter fun e => univNum s e == univ).foldl e131SourceTimeout s →
    (v.en 0x08 && v.en 0x09 && v.islUp 4 && v.regB R.LAY_E131CTL u) = true → e131Dest v dest = true →
    (univEntries v).find? (fun e => univNum v e == univ) = none →
    exec (.e131Data u ⟨len, dest⟩ univ cid prio seq preview term start slots) s = .next (settled s (v.count
      (R.FST_NOSRC u) 0 32 1))) ∧
  (∀ (s : State) (u len univ cid prio seq e id : Nat) (dest : Option Nat) (slots : List Byte) (v t : State),
    (.e131Data u ⟨len, dest⟩ univ cid prio seq false false 0 slots : Instr).wf = true →
    v = ((univEntries s).filter fun e => univNum s e == univ).foldl e131SourceTimeout s →
    (v.en 0x08 && v.en 0x09 && v.islUp 4 && v.regB R.LAY_E131CTL u) = true → e131Dest v dest = true →
    (univEntries v).find? (fun e => univNum v e == univ) = some e → (univSrcs v e).seen = [] →
    poolTake v u len = some (t, id) → (univSrcs (sourceTaken v t u id e cid prio seq) e).taken = some cid →
    (sourceTaken v t u id e cid prio seq).entF tLAYU e 3 0 16 = 0 →
    exec (.e131Data u ⟨len, dest⟩ univ cid prio seq false false 0 slots) s = .next (settled s (storedNow
      (sourceTaken v t u id e cid prio seq) e slots))) ∧
  (∀ (s : State) (u len a id : Nat) (t : State), (.e131Sync u ⟨len, a⟩ : Instr).wf = true →
    (s.en 0x08 && s.en 0x09 && s.islUp 4 && s.regB R.LAY_E131CTL u) = true → a ≠ 0 →
    poolTake s u len = some (t, id) →
    exec (.e131Sync u ⟨len, a⟩) s = .next (settled s (syncTaken (poolRelease t u id) a))) ∧
  (∀ (s : State) (u n : Nat) (o : OpenItem),
    (.ingestItemClose u n : Instr).wf = true → openOf s u n = some o → elapsed s o.since 20000 = true →
    exec (.ingestItemClose u n) s = .next (settled s (closeItem (closeItems s o.port (· != o)) o 0))) ∧
  (∀ (s : State) (n : Nat), (.streamLoss n : Instr).wf = true → (s.stream n).live = true →
    elapsed s (s.stream n).lastPkt (3 * 1000000000 * (streamRate s n).2 / (streamRate s n).1) = true →
    exec (.streamLoss n) s = .next (settled s (raise ((endFrame s n).setStream n
      { (endFrame s n).stream n with live := false, ssrc := none, nextSeq := none }) 0x09 4))) ∧
  (∀ (s : State) (e : Nat), (.e131SourceTimeout e : Instr).wf = true →
    (univSrcs s e).seen.any (fun y => elapsed s y.last 2500000000 && (univSrcs s e).taken == some y.cid) = true →
    exec (.e131SourceTimeout e) s = .next (alone s (raise (setUnivSrcs s e ⟨(univSrcs s e).seen.filter fun y =>
      !elapsed s y.last 2500000000, none⟩) 0x09 6))) ∧
  (∀ (s : State) (a : Nat) (y : SyncRt),
    (.e131SyncTimeout a : Instr).wf = true → sget s.ing.syncs a = some y → y.lost = false →
    elapsed s y.last 2500000000 = true →
    exec (.e131SyncTimeout a) s = .next (alone s (raise
      { s with ing := { s.ing with syncs := sset s.ing.syncs a { y with lost := true } } } 0x09 5))) ∧
  (∀ (s : State) (d prep kEnd : Nat),
    (.e131Scatter d : Instr).wf = true → s.islUp 4 = true → (s.dom d).running = true →
    prep = s.regF R.LAY_E131CTL 16 13 * 1000 → kEnd = (latchFrom s d (nowNs s + prep + 1)).k →
    exec (.e131Scatter d) s = .next (settled s (((enabledLayers s).filter fun n => laySrc s n == 2 && layDom s n
      == d).foldl (fun t n => if scatterNext s n d kEnd < kEnd then scatterLayer t n (scatterNext s n d kEnd)
      ((epochOf s d (scatterNext s n d kEnd)).l - prep) else t) s)))

/-- Timing domains and latch points (chapter 7). When each event takes effect, and the state it leaves: the queue
and the factory's data stay (alone, settled). -/
def Obligations.PresentationEventsComplete : Prop :=
  (∀ (s : State) (d : Nat) (e : EpochPt) (br : Bool) (v : State),
    (.latchPoint d : Instr).wf = true → v = handover s → v.pair.role ≠ .standby → v.pair.role ≠ .active →
    dueEpoch v d (nowNs v) = some (e, br) →
    exec (.latchPoint d) s = .next (settled s (processLatch v d e br fun t => applySets t d e.k e.l))) ∧
  (∀ (s : State) (d : Nat) (e : EpochPt) (br : Bool) (v t : State),
    (.latchPoint d : Instr).wf = true → v = handover s → v.pair.role = .active →
    dueEpoch v d (nowNs v) = some (e, br) → t = processLatch v d e br (fun u => applySets u d e.k e.l) →
    exec (.latchPoint d) s = .next (settled s (streamSend t (.epoch d e.k (epochLayers t d))))) ∧
  (∀ (s : State) (p node first n k crc fe : Nat),
    (.echoRep p node first n k crc fe : Instr).wf = true → nodeIn s p fe = true →
    exec (.echoRep p node first n k crc fe) s = .next (settled s (echoRep (replyFence s p fe) p node first n k
      crc))) ∧
  (∀ (s : State) (n : Nat) (w : EchoWait),
    (.echoTimeout n : Instr).wf = true → (s.chk n).echoes.find? (fun w => decide (w.limit ≤ now32 s)) = some w →
    exec (.echoTimeout n) s = .next (settled s (raise (s.setChk n
      { s.chk n with echoes := (s.chk n).echoes.erase w, elast := 3, echoBad := satAdd 16 (s.chk n).echoBad 1 })
      0x0E 1)))

/-- Framers, nodes and replies (chapter 8); links, frames and faults of the MACs (chapter 9). When each event takes
effect, and the state it leaves: the queue and the factory's data stay (alone, settled). -/
def Obligations.PushAndMacEventsComplete : Prop :=
  (∀ (s : State) (pg : Nat) (med : Medium) (f : MacFrame),
    (.frameTxStart ⟨pg, med⟩ : Instr).wf = true → txBusy s pg = false → linkUp s pg = true → s.en pg = true →
    (s.mac pg).backoff = none → (isBus pg = false ∨ gapOver s med = true) → firstPri s pg 0 = some f →
    calIndex pg = none → exec (.frameTxStart ⟨pg, med⟩) s = .next (settled s (beginMacFrame s pg f))) ∧
  (∀ (s : State) (pg k : Nat) (med : Medium) (f : MacFrame) (t : State),
    (.frameTxStart ⟨pg, med⟩ : Instr).wf = true → txBusy s pg = false → linkUp s pg = true → s.en pg = true →
    (s.mac pg).backoff = none → isBus pg = false → firstPri s pg 0 = some f → calIndex pg = some k →
    t = beginMacFrame s pg f → txBusy t pg = true →
    exec (.frameTxStart ⟨pg, med⟩) s = .next (settled s (t.setMac pg
      { t.mac pg with txTs := (((nowNs s + med.sub + preambleNs s pg : Nat) : Int) + calDelay s k).toNat }))) ∧
  (∀ (s : State) (pg : Nat), (.frameTxEnd pg : Instr).wf = true → txBusy s pg = true →
    exec (.frameTxEnd pg) s = .next (settled s (txEnd s pg))) ∧
  (∀ (s : State) (p node seq kd nf fh ls ser mac fe : Nat),
    (.pollRep p node seq ⟨kd, nf⟩ fh ls ser mac fe : Instr).wf = true → nodeIn s p fe = true →
    exec (.pollRep p node seq ⟨kd, nf⟩ fh ls ser mac fe) s = .next (settled s (pollRep (replyFence s p fe) p node
      seq kd nf fh ls ser mac))) ∧
  (∀ (s : State) (p ser addr mac fe : Nat), (.enumRep p ser addr mac fe : Instr).wf = true → nodeIn s p fe = true →
    (replyFence s p fe).pair.role ≠ .standby →
    exec (.enumRep p ser addr mac fe) s = .next (settled s (handleSerial (replyFence s p fe) p ser addr mac))) ∧
  (∀ (s : State) (p ser addr fe : Nat), (.assignAck p ser addr fe : Instr).wf = true → nodeIn s p fe = true →
    (replyFence s p fe).pair.role ≠ .standby →
    exec (.assignAck p ser addr fe) s = .next (settled s ((replyFence s p fe).setPort p
      { (replyFence s p fe).port p with assigns := ((replyFence s p fe).port p).assigns.filter fun a => !(a.serial == ser && a.addr == addr) || elapsed (replyFence s p fe) a.left 10000000 }))) ∧
  (∀ (s : State) (p : Nat) (a : AssignWait), (.assignTimeout p : Instr).wf = true →
    (s.port p).assigns.find? (fun a => elapsed s a.left 10000000) = some a →
    exec (.assignTimeout p) s = .next (alone s ((s.setPort p
      { s.port p with assigns := (s.port p).assigns.erase a }).count (R.PP_NOREPLY p) 0 32 1))) ∧
  (∀ (s : State) (p : Nat) (w : PollWait), (.pollTimeout p : Instr).wf = true →
    (s.port p).polls.find? (fun w => elapsed s w.sent (w.timeout * 1000)) = some w → w.node = 4095 →
    exec (.pollTimeout p) s = .next (settled s ((s.setPort p
      { s.port p with polls := (s.port p).polls.erase w }).count (R.PP_NOREPLY p) 0 32 1))) ∧
  (∀ (s : State) (p : Nat) (w : PollWait) (t : State), (.pollTimeout p : Instr).wf = true →
    (s.port p).polls.find? (fun w => elapsed s w.sent (w.timeout * 1000)) = some w → w.node ≠ 4095 →
    t = (s.setPort p { s.port p with polls := (s.port p).polls.erase w }).count (R.PP_NOREPLY p) 0 32 1 →
    (t.node p w.node).misses ≠ 2 →
    exec (.pollTimeout p) s = .next (settled s (t.setNode p w.node
      { t.node p w.node with misses := min 3 ((t.node p w.node).misses + 1) }))) ∧
  (∀ (s : State) (p : Nat) (w : PollWait) (t : State), (.pollTimeout p : Instr).wf = true →
    (s.port p).polls.find? (fun w => elapsed s w.sent (w.timeout * 1000)) = some w → w.node ≠ 4095 →
    t = (s.setPort p { s.port p with polls := (s.port p).polls.erase w }).count (R.PP_NOREPLY p) 0 32 1 →
    (t.node p w.node).misses = 2 →
    exec (.pollTimeout p) s = .next (settled s (raise (t.setNode p w.node
      { t.node p w.node with misses := 3, state := 2 }) (ppPage p) 5))) ∧
  (∀ (s : State) (p t : Nat),
    (.enumDone p : Instr).wf = true → (s.port p).enumDue.find? (fun t => decide (t ≤ s.up)) = some t →
    exec (.enumDone p) s = .next (settled s (raise (s.setPort p
      { s.port p with enumDue := (s.port p).enumDue.erase t }) (ppPage p) 9))) ∧
  (∀ (s : State) (pg : Nat) (f : RxFrame), (.frameReceive pg f : Instr).wf = true → linkUp s pg = true → f.len < 64 →
    exec (.frameReceive pg f) s = .next (settled s ((ringReturn (rxStamp s pg f) pg f.back).count (R.MAC_RXRUNT
      pg) 0 32 1))) ∧
  (∀ (s : State) (pg : Nat) (f : RxFrame) (t : State), (.frameReceive pg f : Instr).wf = true → linkUp s pg = true →
    rxOuter (ringReturn (rxStamp s pg f) pg f.back) pg f = (t, true) → isRyu s pg f.bytes = false →
    exec (.frameReceive pg f) s = .next (settled s (rxInner t pg f).1)) ∧
  (∀ (s : State) (pg q : Nat), (.pauseReceive pg q : Instr).wf = true → linkUp s pg = true → isBus pg = false →
    s.regB (R.MAC_PAUSE pg) 0 = true → txBusy s pg = false → s.regF (R.MAC_CFG pg) 14 2 = 0 →
    exec (.pauseReceive pg q) s = .next (alone s (holdFrom (s.count (R.MAC_RXPAUSE pg) 0 32 1) pg (s.up + q * 512
      / 25)))) ∧
  (∀ (s : State) (pg : Nat) (h : Hold),
    (.pauseHoldEnd pg : Instr).wf = true → (s.mac pg).hold = some h → h.until_ ≤ s.up →
    exec (.pauseHoldEnd pg) s = .next (alone s (s.setMac pg
      { s.mac pg with hold := none, heldNs := (s.mac pg).heldNs + (h.until_ - h.from_) }))) ∧
  (∀ (s : State) (pg : Nat) (h : Hold),
    (.pauseLong pg : Instr).wf = true → (s.mac pg).hold = some h → h.long = false →
    s.regF (R.MAC_PAUSE pg) 16 16 ≠ 0 → s.regF (R.MAC_PAUSE pg) 16 16 * 1000 ≤ min s.up h.until_ - h.start →
    exec (.pauseLong pg) s = .next (settled s (raiseMac (s.setMac pg
      { s.mac pg with hold := some { h with long := true } }) pg 2))) ∧
  (∀ (s : State) (pg : Nat),
    (.pauseRepeat pg : Instr).wf = true → (s.mac pg).pausing = true → s.regB (R.MAC_PAUSE pg) 1 = true →
    elapsed s (s.mac pg).pauseAt 500000 = true → poolFree s (pg - 0x10) < 2 * pauseX s (pg - 0x10) →
    exec (.pauseRepeat pg) s = .next (settled s (pauseSend s pg 0xFFFF))) ∧
  (∀ (s : State) (pg : Nat),
    (.busCollision pg : Instr).wf = true → isBus pg = true → txBusy s pg = true → s.up - (s.mac pg).txAt ≤ 51200 →
    (s.mac pg).backoff = none → ((s.count (R.MAC_COLL pg) 0 32 1).mac pg).tries + 1 < 16 →
    exec (.busCollision pg) s = .next (settled s (collided s pg))) ∧
  (∀ (s : State) (pg : Nat),
    (.busCollision pg : Instr).wf = true → isBus pg = true → txBusy s pg = true → s.up - (s.mac pg).txAt ≤ 51200 →
    (s.mac pg).backoff = none → 16 ≤ ((s.count (R.MAC_COLL pg) 0 32 1).mac pg).tries + 1 →
    exec (.busCollision pg) s = .next (settled s (raiseMac ((dropInHand (s.count (R.MAC_COLL pg) 0 32 1) pg).count
      (R.MAC_EXCOLL pg) 0 32 1) pg 8))) ∧
  (∀ (s : State) (pg : Nat), (.lateCollision pg : Instr).wf = true → isBus pg = true → txBusy s pg = true →
    51200 < s.up - (s.mac pg).txAt → (s.mac pg).backoff = none →
    exec (.lateCollision pg) s = .next (settled s (raiseMac (((dropInHand s pg).count (R.MAC_COLL pg) 0 32
      1).count (R.MAC_LATECOLL pg) 0 32 1) pg 7))) ∧
  (∀ (s : State) (pg t : Nat) (med : Medium),
    (.busBackoffEnd ⟨pg, med⟩ : Instr).wf = true → (s.mac pg).backoff = some t → t ≤ s.up → gapOver s med = true →
    exec (.busBackoffEnd ⟨pg, med⟩) s = .next (settled s (busBackoffEnd s pg med))) ∧
  (∀ (s : State) (pg : Nat) (d : PageD),
    (.linkUp pg : Instr).wf = true → findPage pg = some d → s.islUp d.isl = true →
    exec (.linkUp pg) s = .next (settled s (ptpTouch (linkComesUp s pg)))) ∧
  (∀ (s : State) (pg : Nat), (.linkDown pg : Instr).wf = true → pg ≠ 0x10 → pg ≠ 0x11 →
    exec (.linkDown pg) s = .next (settled s (ptpTouch (linkGoesDown s pg)))) ∧
  (∀ (s : State) (pg : Nat), (.linkDown pg : Instr).wf = true → pg = 0x10 ∨ pg = 0x11 → (s.mac pg).link = true →
    exec (.linkDown pg) s = .next (settled s (ptpTouch (uplinkDown (linkGoesDown s pg))))) ∧
  (∀ (s : State) (pg : Nat) (a b : List Byte) (d : PageD),
    (.sfpInsert pg a b : Instr).wf = true → findPage pg = some d → s.islUp d.isl = true → (s.mac pg).sfp = false →
    exec (.sfpInsert pg a b) s = .next (settled s (sfpInsert s pg a b))) ∧
  (∀ (s : State) (pg : Nat) (d : PageD),
    (.sfpRemove pg : Instr).wf = true → findPage pg = some d → s.islUp d.isl = true → (s.mac pg).sfp = true →
    exec (.sfpRemove pg) s = .next (settled s (sfpRemove s pg))) ∧
  (∀ (s : State) (pg : Nat) (b : List Byte) (d : PageD),
    (.sfpDiagRefresh pg b : Instr).wf = true → findPage pg = some d → s.islUp d.isl = true →
    (s.mac pg).sfp = true → (s.mac pg).diag = true →
    exec (.sfpDiagRefresh pg b) s = .next (alone s (sfpStore s pg 64 b))) ∧
  (∀ (s : State) (pg : Nat) (los : Bool) (d : PageD),
    (.txFault pg true los : Instr).wf = true → findPage pg = some d → s.islUp d.isl = true → hasCage pg = true →
    (s.mac pg).txFault = false →
    exec (.txFault pg true los) s = .next (settled s (raiseMac (s.setMac pg
      { s.mac pg with txFault := true, rxLos := los }) pg 6))) ∧
  (∀ (s : State) (p peer : Nat),
    (.sakRekey p peer : Instr).wf = true → s.islUp 12 = true → (s.mac (secPage p)).txSa = none →
    secState s p ≠ 2 →
    exec (.sakRekey p peer) s = .next (settled s (s.setRegB (R.SEC_STAT p) 3 (decide (s.regF (R.SEC_CFG p) 8 8 ≤
      peer))))) ∧
  (∀ (s : State) (p peer : Nat) (a : SaTx) (t : State),
    (.sakRekey p peer : Instr).wf = true → s.islUp 12 = true → (s.mac (secPage p)).txSa = some a →
    s.regF (R.SEC_CFG p) 8 8 ≤ peer →
    (if (s.mac (secPage p)).xpn then 0xC000000000000000 else 0xC0000000) ≤ a.pn →
    t = s.setRegB (R.SEC_STAT p) 3 true → secState s p = 3 →
    exec (.sakRekey p peer) s = .next (settled s (startSak t p (sakNext s p a.an) ((a.an + 1) % 4)))) ∧
  (∀ (s : State) (p peer last : Nat) (a : SaTx) (t : State),
    (.sakRekey p peer : Instr).wf = true → s.islUp 12 = true → (s.mac (secPage p)).txSa = some a →
    s.regF (R.SEC_CFG p) 8 8 ≤ peer → s.regF (R.SEC_CFG p) 16 16 ≠ 0 → sget s.gnt.rekey p = some last →
    elapsed s last (s.regF (R.SEC_CFG p) 16 16 * 1000000000) = true → t = s.setRegB (R.SEC_STAT p) 3 true →
    secState s p = 3 →
    exec (.sakRekey p peer) s = .next (settled s (startSak t p (sakNext s p a.an) ((a.an + 1) % 4)))) ∧
  (∀ (s : State) (p peer : Nat) (t : State),
    (.sakRekey p peer : Instr).wf = true → s.islUp 12 = true → (s.mac (secPage p)).txSa = none →
    s.regF (R.SEC_CFG p) 8 8 ≤ peer → secState s p = 2 → t = s.setRegB (R.SEC_STAT p) 3 true →
    exec (.sakRekey p peer) s = .next (settled s (startSak t p (9 + 2 * p) 0)))

/-- Strings, rails and matrix ports (chapter 10). When each event takes effect, and the state it leaves: the queue
and the factory's data stay (alone, settled). -/
def Obligations.DriveEventsComplete : Prop :=
  (∀ (s : State) (v : Svc), svcOf s (.framer 16) = some v → s.islUp 3 = false →
    exec (.lPushRead) s = .next (settled s (completeItem (raise ((abortCount s 3 1).count R.DRV_LCNT2 0 16 1) 0x30
      9) v))) ∧
  (∀ (s : State) (v : Svc),
    svcOf s (.framer 16) = some v → s.islUp 3 = true → exec (.lPushRead) s = .next (settled s (lPushRead s))) ∧
  (∀ (s : State) (i : Nat × SMap Nat), driveUp s = true → dueImage s (now32 s) = some i →
    exec (.imageApply) s = .next (settled s (applyWords
      { railMove s with drv := { (railMove s).drv with img := (railMove s).drv.img.erase i } } i.2))) ∧
  (∀ (s : State) (m : DrvMeas) (e : EpochPt),
    (.drivePresentation m : Instr).wf = true → driveUp s = true → (s.dom (drvDom s)).cur = some e →
    (s.dom (drvDom s)).running = true → e.p ≤ nowNs s → s.drv.p ≠ some e.p →
    exec (.drivePresentation m) s = .next (settled s (drivePresentation s m))) ∧
  (∀ (s : State) (n vr vs im tk : Nat), (.stringMeasurement n vr vs im tk : Instr).wf = true → driveUp s = true →
    (strOn s n && s.drv.dark == 0) = true → tk < 500 → 30 ≤ vs →
    exec (.stringMeasurement n vr vs im tk) s = .next (settled s (((railMove s).setRegF (R.DRV_RAILS (n / 16)) 16
      14 (railSense s (n / 16) vr)).setStr n { s.str n with imeas := refCurrent s 0x34 im }))) ∧
  (∀ (s : State) (n vr vs im tk : Nat) (m : State),
    (.stringMeasurement n vr vs im tk : Instr).wf = true → driveUp s = true →
    (strOn s n && s.drv.dark == 0) = true → 500 ≤ tk → 30 ≤ vs →
    m = ((railMove s).setRegF (R.DRV_RAILS (n / 16)) 16 14 (railSense s (n / 16) vr)).setStr n
      { s.str n with imeas := refCurrent s 0x34 im } →
    exec (.stringMeasurement n vr vs im tk) s = .next (settled s ((m.setStr n
      { m.str n with vf := railSense s (n / 16) vr - vs }).setRail (n / 16)
      { m.rail (n / 16) with due := some (subEnd s) }))) ∧
  (∀ (s : State) (n vr vs im tk : Nat) (m : State),
    (.stringMeasurement n vr vs im tk : Instr).wf = true → driveUp s = true →
    (strOn s n && s.drv.dark == 0) = true → tk < 500 → vs < 30 →
    refCurrent s 0x34 im * 100 * 256 < 95 * (s.str n).iset * factor s →
    m = ((railMove s).setRegF (R.DRV_RAILS (n / 16)) 16 14 (railSense s (n / 16) vr)).setStr n
      { s.str n with imeas := refCurrent s 0x34 im } →
    exec (.stringMeasurement n vr vs im tk) s = .next (settled s (raise (m.count R.DRV_LCNT2 16 16 1) 0x30 2))) ∧
  (∀ (s : State) (n : Nat) (short : Bool),
    (.stringFault n short : Instr).wf = true → driveUp s = true → (s.str n).fault = 0 →
    exec (.stringFault n short) s = .next (settled s (raise (railUpdate ((railMove s).setStr n
      { (railMove s).str n with fault := if short then 3 else 2, word := 0, wait := false })) 0x30 (b2n short)))) ∧
  (∀ (s : State) (r : Nat), (.railFault r : Instr).wf = true → driveUp s = true → (s.rail r).fault = false →
    exec (.railFault r) s = .next (settled s (raise (railUpdate ((railMove s).setRail r
      { (railMove s).rail r with fault := true, wait := false })) 0x30 4))) ∧
  (∀ (s : State) (p : Nat),
    (.mxFrameLatch p : Instr).wf = true → driveUp s = true → (s.mxp p).scanning = true → mxLatch s p ≤ nowNs s →
    exec (.mxFrameLatch p) s = .next (settled s (mxFrameLatch s p))) ∧
  (∀ (s : State) (p t : Nat),
    (.mxFrameCut p : Instr).wf = true → driveUp s = true → (s.mxp p).scanning = true → (s.mxp p).clamped = true →
    s.drv.p = some t → s.drv.next ≤ nowNs s → s.drv.next < (s.mxp p).start + 32 * (s.mxp p).pass →
    exec (.mxFrameCut p) s = .next (settled s (raise ((s.count (R.MX_CNT p) 0 16 1).setMx p
      { s.mxp p with scanning := false, left := 0 }) (0x32 + p) 4))) ∧
  (∀ (s : State) (p k : Nat) (short : Bool),
    (.mxColumnFault p k short : Instr).wf = true → driveUp s = true → (s.mxp p).scanning = true →
    exec (.mxColumnFault p k short) s = .next (settled s (raise (s.setRegB (if short then R.MX_CSHORT p (k / 32)
      else R.MX_COPEN p (k / 32)) (k % 32) true) (0x32 + p) (1 + b2n short)))) ∧
  (∀ (s : State) (p l : Nat), (.mxLineShort p l : Instr).wf = true → driveUp s = true →
    exec (.mxLineShort p l) s = .next (settled s (raise (mxStop (s.setRegB (R.MX_LSHORT p) l true) p) (0x32 + p)
      3))) ∧
  (∀ (s : State), driveUp s = true → exec (.mxSupplyFault) s = .next (settled s (mxSupplyFault s)))

/-- Metering (chapter 11). When each event takes effect, and the state it leaves: the queue and the factory's data
stay (alone, settled). -/
def Obligations.MeterEventsComplete : Prop :=
  (∀ (s : State) (x : MtrSample), (.meterQuantum x : Instr).wf = true → s.islUp 10 = true →
    exec (.meterQuantum x) s = .next (settled s (meterQuantum s x))) ∧
  (∀ (s : State),
    s.islUp 10 = true → exec (.meterFoldEnqueue) s = .next (settled s ((setsOf s).foldl foldEnqueue1 s))) ∧
  (∀ (s : State) (t : Nat), s.islUp 10 = true → s.mtr.newCross = some t → s.mtr.cross = none →
    exec (.lineCycle) s = .next (settled s { s with mtr := { s.mtr with cross := some t, newCross := none } })) ∧
  (∀ (s : State) (t t0 : Nat),
    s.islUp 10 = true → s.mtr.newCross = some t → s.mtr.cross = some t0 → 1000000000 ≤ 66 * (t - t0) →
    45 * (t - t0) ≤ 1000000000 → (refPhase s s.mtr.win).isSome = true → s.mtr.run = false →
    exec (.lineCycle) s = .next (settled s
      { s with mtr := { s.mtr with cross := some t, newCross := none, freq := 1000000000000 / (t - t0), cyc := [cycleFund s t0 t 0, cycleFund s t0 t 1, cycleFund s t0 t 2, cycleTotal s t0 t] } })) ∧
  (∀ (s : State) (t t0 : Nat),
    s.islUp 10 = true → s.mtr.newCross = some t → s.mtr.cross = some t0 → 1000000000 ≤ 66 * (t - t0) →
    45 * (t - t0) ≤ 1000000000 → (refPhase s s.mtr.win).isSome = true → s.mtr.run = true →
    exec (.lineCycle) s = .next (settled s (cycleEnergies
      { s with mtr := { s.mtr with cross := some t, newCross := none, freq := 1000000000000 / (t - t0), cyc := [cycleFund s t0 t 0, cycleFund s t0 t 1, cycleFund s t0 t 2, cycleTotal s t0 t] } }
      t (((cyclePhases s t0 t).map fun p => cycleIncs (8 * p) (t - t0) (cycleFund s t0 t p)).flatten ++ cycleIncs 24
      (t - t0) (cycleTotal s t0 t))))) ∧
  (∀ (s : State) (t t0 : Nat), s.islUp 10 = true → s.mtr.newCross = some t → s.mtr.cross = some t0 →
    66 * (t - t0) < 1000000000 ∨ 1000000000 < 45 * (t - t0) →
    exec (.lineCycle) s = .next (settled s (freqLost
      { s with mtr := { s.mtr with cross := some t, newCross := none } }))) ∧
  (∀ (s : State) (f : Nat), s.islUp 10 = true → s.mtr.freeze = some f → s.mtr.finalDone = false →
    (setsOf s).all (fun k => (s.mset k).q.isEmpty) = true →
    exec (.energySave) s = .next (settled s (energySave s))) ∧
  (∀ (s : State) (k : Nat),
    (.pulseEmit k : Instr).wf = true → s.islUp 10 = true → 0 < (lget s.mtr.po k ⟨0, 0, 0⟩).queued →
    (lget s.mtr.po k ⟨0, 0, 0⟩).ready ≤ s.up → s.mtr.run = true → s.mtr.freeze = none →
    exec (.pulseEmit k) s = .next (alone s
      { s with mtr := { s.mtr with po := s.mtr.po.set k ⟨(lget s.mtr.po k ⟨0, 0, 0⟩).queued - 1, s.up + s.regF (R.MTR_PO k) 8 8 * 1000000, s.up + 2 * (s.regF (R.MTR_PO k) 8 8 * 1000000)⟩ } }))

/-- The clock and its servo (chapter 12). When each event takes effect, and the state it leaves: the queue and the
factory's data stay (alone, settled). -/
def Obligations.ClockEventsComplete : Prop :=
  (∀ (s : State) (x : Slew), s.islUp 9 = true → s.clkr.slew = some x → x.left.natAbs ≤ x.rate → s.clkr.ops = [] →
    exec (.slewEnd) s = .next (settled s (clockTick s))) ∧
  (∀ (s : State) (inc : Option Nat) (o : Int), s.islUp 9 = true → s.clkr.meas = some o →
    exec (.servoMeasurement inc) s = .next (settled s (firmwareActs (servoMeasurement s inc)))) ∧
  (∀ (s : State), s.islUp 9 = true → srcGood s = false → exec (.sourceChange) s = .next (settled s (takeSource s))) ∧
  (∀ (s : State) (k : Nat), s.islUp 9 = true → srcGood s = true → revertSource s = some k → k ≠ s.clkr.src →
    exec (.sourceChange) s = .next (settled s (useSource s k))) ∧
  (∀ (s : State), s.islUp 9 = true → s.clkr.src ≠ 0 → srcGood s = false → (bestSource s).isSome = true →
    exec (.sourceLoss) s = .next (settled s (takeSource s))) ∧
  (∀ (s : State), s.islUp 9 = true → s.clkr.src ≠ 0 → srcGood s = false → bestSource s = none → s.clkr.state = 0 →
    exec (.sourceLoss) s = .next (settled s (raise
      { s with clkr := { s.clkr with src := 0, good := 0, bad := 0, meas := none } } 0x28 5))) ∧
  (∀ (s : State), s.islUp 9 = true → s.clkr.state = 3 → s.clkr.expired = false →
    elapsed s s.clkr.holdStart (s.regF R.CLK_SERVO 16 16 * 1000000000) = true →
    exec (.holdExpired) s = .next (settled s (raise
      { s with clkr := { s.clkr with inspec := false, expired := true } } 0x28 4))) ∧
  (∀ (s : State),
    s.islUp 9 = true → s.clkr.valid = true → secondTick (nowNs s) = true → s.clkr.lastSec ≠ secOf (nowNs s) →
    exec (.secondsCounterSync) s = .next (alone s
      { s with clkr := { s.clkr with rtc := secOf (nowNs s) * 1000000000, rtcAt := s.up, lastSec := secOf (nowNs s) } }))

/-- PTP (12.5) and PPS, LTC and word clock (12.6). When each event takes effect, and the state it leaves: the queue
and the factory's data stay (alone, settled). -/
def Obligations.PtpAndTimingEventsComplete : Prop :=
  (∀ (s : State) (p dom : Nat) (m : PtpMsg),
    (.ptpMessageReceive p dom m : Instr).wf = true → s.islUp 9 = true → (s.pport p).state = 0 →
    exec (.ptpMessageReceive p dom m) s = .next (settled s (ptpBad s p))) ∧
  (∀ (s : State) (p dom q t : Nat),
    (.ptpMessageReceive p dom (.sync q t) : Instr).wf = true → s.islUp 9 = true → (s.pport p).state = 3 →
    dom = ptpDomain s p → isN p = false →
    exec (.ptpMessageReceive p dom (.sync q t)) s = .next (settled s (s.setPport p
      { s.pport p with sync1 := some (q, rxTime s p t), sync := satAdd 16 (s.pport p).sync 1 }))) ∧
  (∀ (s : State) (p : Nat), (.ptpSyncSend p : Instr).wf = true → s.islUp 9 = true → 2 ≤ p → (s.pport p).state = 4 →
    ptpSilent s p = false → elapsed s (s.pport p).lastSync (logNs (syncLog s p)) = true →
    exec (.ptpSyncSend p) s = .next (settled s (ptpSyncSend s p))) ∧
  (∀ (s : State) (p : Nat),
    (.ptpAnnounceSend p : Instr).wf = true → s.islUp 9 = true → 2 ≤ p → p < 13 → (s.pport p).state = 4 →
    ptpSilent s p = false → elapsed s (s.pport p).lastAnn 1000000000 = true →
    exec (.ptpAnnounceSend p) s = .next (settled s (ptpAnnounceSend s p))) ∧
  (∀ (s : State) (p : Nat),
    (.ptpDelayReqSend p : Instr).wf = true → s.islUp 9 = true → p < 5 → (s.pport p).state = 3 →
    elapsed s (s.pport p).lastReq (max 125000000 (s.pport p).reqInt) = true →
    exec (.ptpDelayReqSend p) s = .next (settled s (delayReqSent s p))) ∧
  (∀ (s : State) (p : Nat), (.announceTimeout p : Instr).wf = true → s.islUp 9 = true → p < 5 →
    (s.pport p).foreign.any (fun f => elapsed s f.last (3 * f.interval)) = true →
    exec (.announceTimeout p) s = .next (settled s (raise (ptpSettle (s.setPport p
      { s.pport p with foreign := (s.pport p).foreign.filter fun f => !elapsed s f.last (3 * f.interval) })) 0x29
      1))) ∧
  (∀ (s : State) (t : Nat),
    s.islUp 9 = true → t = ((nowNs s : Int) - toSigned 16 (s.regF R.TIO_PPSOUT 16 16) + calDelay s 0x20).toNat →
    s.tio.ppsOut = true → s.regF R.TIO_PPSOUT 2 10 * 1000000 ≤ nsOf t ∨ s.tio.ppsSec ≠ some (secOf t) →
    exec (.ppsOut) s = .next (alone s { s with tio := { s.tio with ppsOut := false } })) ∧
  (∀ (s : State) (t : Nat),
    s.islUp 9 = true → t = ((nowNs s : Int) - toSigned 16 (s.regF R.TIO_PPSOUT 16 16) + calDelay s 0x20).toNat →
    s.tio.ppsOut = false → ppsRuns s = true → secondTick t = true → s.tio.ppsSec ≠ some (secOf t) →
    exec (.ppsOut) s = .next (alone s { s with tio := { s.tio with ppsOut := true, ppsSec := some (secOf t) } })) ∧
  (∀ (s : State) (t : Nat) (e : Bool),
    s.islUp 9 = true → (s.en 0x2A && s.regB R.TIO_PPSIN 0) = true → e = s.regB R.TIO_PPSIN 1 →
    exec (.ppsInEdge t e) s = .next (settled s (ppsInEdge s t e))) ∧
  (∀ (s : State) (l : Nat),
    s.islUp 9 = true → s.tio.ppsLast = some l → l + 1100000000 ≤ nowNs s → s.tio.ppsOk = false →
    exec (.ppsLost) s = .next (settled s (availTouch
      { s with tio := { s.tio with ppsLast := none, ppsGood := 0, ppsOk := false } }))) ∧
  (∀ (s : State) (l : Nat),
    s.islUp 9 = true → s.tio.ppsLast = some l → l + 1100000000 ≤ nowNs s → s.tio.ppsOk = true →
    exec (.ppsLost) s = .next (settled s (availTouch (raise
      { s with tio := { s.tio with ppsLast := none, ppsGood := 0, ppsOk := false } } 0x2A 5)))) ∧
  (∀ (s : State) (t h m sec f : Nat),
    (.ltcFrame t h m sec f : Instr).wf = true → s.islUp 9 = true → (s.en 0x2A && s.regB R.TIO_LTC 0) = true →
    exec (.ltcFrame t h m sec f) s = .next (settled s (ltcFrame s t h m sec f))) ∧
  (∀ (s : State) (g : Grid), s.islUp 9 = true → s.tio.ltc.lock = true → s.tio.ltc.pred = some g →
    g.pt (s.tio.ltc.idx + 5) ≤ inputTime s R.TIO_LTC (nowNs s) →
    exec (.ltcFrameMissing) s = .next (settled s (srcLost (raise
      { s with tio := { s.tio with ltc := { s.tio.ltc with lock := false, times := [] } } } 0x2A 1) 1))) ∧
  (∀ (s : State) (t : Nat), s.islUp 9 = true → (s.en 0x2A && s.regB R.TIO_WCLK 0) = true →
    exec (.wclkEdge t) s = .next (settled s (wclkEdge s t))) ∧
  (∀ (s : State) (g : Grid), s.islUp 9 = true → s.tio.wclk.lock = true → s.tio.wclk.pred = some g →
    g.pt (s.tio.wclk.idx + 4) ≤ inputTime s R.TIO_WCLK (nowNs s) →
    exec (.wclkMissing) s = .next (settled s (srcLost (raise
      { s with tio := { s.tio with wclk := { s.tio.wclk with lock := false, times := [] } } } 0x2A 4) 2)))

/-- The ring (chapter 13). When each event takes effect, and the state it leaves: the queue and the factory's data
stay (alone, settled). -/
def Obligations.HatbandEventsComplete : Prop :=
  (∀ (s : State) (p : Nat), (.helloSend p : Instr).wf = true → hbIn s p = true → (s.hbp p).sent = none →
    exec (.helloSend p) s = .next (settled s (ryuNbr (s.setHbp p { s.hbp p with sent := some s.up }) p 0x01
      (beBytes 8 s.hw.serial ++ beBytes 1 (b2n (heard s (s.hbp p).hello)) ++ beBytes 1 0)))) ∧
  (∀ (s : State) (p q src ser : Nat) (ok : Bool),
    (.hello p q src ser ok : Instr).wf = true → hbIn s p = true → q = p →
    exec (.hello p q src ser ok) s = .next (settled s (s.count (R.HB_MISWIRE p) 0 32 1))) ∧
  (∀ (s : State) (p q src ser : Nat) (ok : Bool),
    (.hello p q src ser ok : Instr).wf = true → hbIn s p = true → q ≠ p →
    exec (.hello p q src ser ok) s = .next (settled s (helloRx s p q src ser ok))) ∧
  (∀ (s : State) (p : Nat), (.helloLoss p : Instr).wf = true → s.islUp 7 = true → heard s (s.hbp p).rxok = false →
    exec (.helloLoss p) s = .next (settled s (hbEval s p))) ∧
  (∀ (s : State) (p dst src id lost nb : Nat) (t : State),
    (.breakFrame p dst src id lost nb : Instr).wf = true → hbIn s p = true →
    ryuArrive s p ⟨0x05, dst, src, id, beBytes 1 lost ++ beBytes 1 nb⟩ = (t, true) →
    exec (.breakFrame p dst src id lost nb) s = .next (settled s (breakRx t src lost))) ∧
  (∀ (s : State), s.islUp 7 = true → s.hb.annSent = none → exec (.announceSend) s = .next (settled s (announceNow s))) ∧
  (∀ (s : State) (p dst src id ser cl fe : Nat) (svc rg : Bool),
    (.announce p dst src id ser cl svc rg fe : Instr).wf = true →
    (svc && src == svcAddr s && decide (fe < fence s)) = false →
    exec (.announce p dst src id ser cl svc rg fe) s = .next (settled s (announceCmd s p dst src id ser cl svc rg
      fe))) ∧
  (∀ (s : State),
    s.islUp 7 = true → s.regB (R.HB_CTL 0) 0 = true → hbUp s 0 = true → addrState s = 1 → s.hb.noroom = false →
    s.hb.joinAt = none →
    exec (.joinSend) s = .next (settled s (ryuNew
      { s with hb := { s.hb with joins := s.hb.joins + 1, joinAt := some s.up } } 0x03 255 0 (beBytes 8 s.hw.serial
      ++ beBytes 1 (s.regF (R.HB_ADDR 0) 8 8) ++ beBytes 1 0)))) ∧
  (∀ (s : State) (p dst src id ser w : Nat) (svc : Bool) (t : State),
    (.join p dst src id ser w svc : Instr).wf = true → hbIn s p = true →
    ryuArrive s p ⟨0x03, dst, src, id, beBytes 8 ser ++ beBytes 1 w ++ beBytes 1 (b2n svc)⟩ = (t, true) →
    exec (.join p dst src id ser w svc) s = .next (settled s (joinRx t ser w svc))) ∧
  (∀ (s : State) (p dst src id ser a : Nat) (svc : Bool) (t : State),
    (.assign p dst src id ser a svc : Instr).wf = true → hbIn s p = true →
    ryuArrive s p ⟨0x04, dst, src, id, beBytes 8 ser ++ beBytes 1 a ++ beBytes 1 (b2n svc)⟩ = (t, true) →
    exec (.assign p dst src id ser a svc) s = .next (settled s (assignRx t ser a svc))) ∧
  (∀ (s : State), s.islUp 7 = true → addrState s = 1 → 3 ≤ s.hb.joins → s.hb.annHeard = none →
    elapsed s s.hb.joinSince 300000000 = true → s.regF (R.HB_ADDR 0) 8 8 ≠ 0 →
    exec (.selfAssign) s = .next (settled s (takeAddr s (s.regF (R.HB_ADDR 0) 8 8)))) ∧
  (∀ (s : State) (a : Nat),
    (.presentExpire a : Instr).wf = true → s.islUp 7 = true → ringSt s a = 2 → sget s.hb.ring a = none →
    addrState s ≠ 2 → svcActive s = false →
    exec (.presentExpire a) s = .next (settled s (setRing s a (ringSerial s a) 1 (ringSvc s a)))) ∧
  (∀ (s : State) (p dst src id ser : Nat) (t : State),
    (.leaveReceive p dst src id ser : Instr).wf = true → hbIn s p = true →
    ryuArrive s p ⟨0x06, dst, src, id, beBytes 8 ser⟩ = (t, true) →
    exec (.leaveReceive p dst src id ser) s = .next (settled s (leaveRx t src ser))) ∧
  (∀ (s : State) (p dst src id a : Nat) (t : State), (.forget p dst src id a : Instr).wf = true → hbIn s p = true →
    ryuArrive s p ⟨0x07, dst, src, id, beBytes 1 a ++ beBytes 1 0⟩ = (t, true) →
    exec (.forget p dst src id a) s = .next (settled s (forgetEntry t a))) ∧
  (∀ (s : State) (e : EvTx) (es : List EvTx), s.islUp 7 = true → s.evt.relay = e :: es →
    exec (.eventSend) s = .next (settled s (ryuNew { s with evt := { s.evt with relay := es } } 0x10 e.dst
      (ownAddr s) (beBytes 1 e.group ++ beBytes 1 0 ++ beBytes 4 e.bits ++ beBytes 4 (nsOf e.time) ++ beBytes 6
      (secOf e.time))))) ∧
  (∀ (s : State) (p dst src id g b ns sec : Nat) (t : State),
    (.event p dst src id g b ns sec : Instr).wf = true → hbIn s p = true →
    ryuArrive s p ⟨0x10, dst, src, id, beBytes 1 g ++ beBytes 1 0 ++ beBytes 4 b ++ beBytes 4 ns ++ beBytes 6 sec⟩
      = (t, true) →
    exec (.event p dst src id g b ns sec) s = .next (settled s (eventRx t ⟨src, g, b, ns, sec⟩))) ∧
  (∀ (s : State) (p img ch sg : Nat) (d : List Byte), (.updSeg p img ch sg d : Instr).wf = true → hbIn s p = true →
    exec (.updSeg p img ch sg d) s = .next (settled s (updSeg s p img ch sg d))) ∧
  (∀ (s : State) (p img ch st : Nat), (.updAck p img ch st : Instr).wf = true → hbIn s p = true →
    exec (.updAck p img ch st) s = .next (alone s
      { s with hb := { s.hb with updTx := s.hb.updTx.filter fun x => !(x.port == p && x.img == img && x.chunk == ch) } })) ∧
  (∀ (s : State) (p img ch : Nat) (x : UpdTx), (.updAckTimeout p img ch : Instr).wf = true → s.islUp 7 = true →
    s.hb.updTx.find? (fun x => x.port == p && x.img == img && x.chunk == ch) = some x →
    elapsed s x.sent 20000000 = true → 3 ≤ x.sends →
    exec (.updAckTimeout p img ch) s = .next (settled s (raise (updAckRx (s.count (R.HB_UPDRTY p) 0 32 1) p img
      ch) (hbPg p) 3))) ∧
  (∀ (s : State) (p img ch : Nat) (x : UpdTx) (t : State),
    (.updAckTimeout p img ch : Instr).wf = true → s.islUp 7 = true →
    s.hb.updTx.find? (fun x => x.port == p && x.img == img && x.chunk == ch) = some x →
    elapsed s x.sent 20000000 = true → x.sends < 3 →
    t = updSegments (s.count (R.HB_UPDRTY p) 0 32 1) p img ch x.data →
    exec (.updAckTimeout p img ch) s = .next (settled s
      { t with hb := { t.hb with updTx := t.hb.updTx.map fun y => if y = x then { y with sends := y.sends + 1, sent := s.up } else y } }))

/-- The pair (chapter 14). When each event takes effect, and the state it leaves: the queue and the factory's data
stay (alone, settled). -/
def Obligations.PairEventsComplete : Prop :=
  (∀ (s : State),
    s.islUp 12 = true → bound s = true → s.pair.role ≠ .unbound → elapsed s s.pair.hbSent 500000 = true →
    exec (.heartbeatSend) s = .next (settled s (heartbeatSend s))) ∧
  (∀ (s : State) (id ser ro he fe : Nat),
    (.heartbeat (.cuff id ser) ro he fe : Instr).wf = true → cuffTakes s fe = true → id = pairId s →
    ser = peerSerial s →
    exec (.heartbeat (.cuff id ser) ro he fe) s = .next (settled s (heartbeatRx s false fe ro he))) ∧
  (∀ (s : State) (id ser ro he fe : Nat),
    (.heartbeat (.cuff id ser) ro he fe : Instr).wf = true → cuffTakes s fe = true →
    id ≠ pairId s ∨ ser ≠ peerSerial s →
    exec (.heartbeat (.cuff id ser) ro he fe) s = .next (settled s (heartbeatForeign s))) ∧
  (∀ (s : State), s.islUp 12 = true → partnerHeard s = false → s.pair.partner = true → s.pair.role = .active →
    exec (.partnerLoss) s = .next (settled s (raise
      { s with pair := { s.pair with partner := false, yield := s.pair.yield.filter fun y => !y.ok } } 0x24 2))) ∧
  (∀ (s : State) (t : State), s.islUp 12 = true → s.pair.role = .seeking →
    elapsed s s.pair.since (s.regF R.MIR_TIMING 16 16 * 1000000) = true → serve s = (t, true) →
    exec (.seekTimeout) s = .next (settled s (raise t 0x24 2))) ∧
  (∀ (s : State) (fe q : Nat) (es : List MirEntry) (t : State),
    (.mirror fe q es : Instr).wf = true → cuffTakes s fe = true → s.arb.waiting.testBit 4 = false →
    streamIn s q = (t, true) →
    exec (.mirror fe q es) s = .next (settled s (ackSend (es.foldl (fun u e => mirrorEntry u q e) t)))) ∧
  (∀ (s : State) (fe q : Nat), (.mirrorAck fe q : Instr).wf = true → cuffTakes s fe = true → s.pair.role = .active →
    exec (.mirrorAck fe q) s = .next (settled s (appendSettle (calmCheck (mirLag
      { s with pair := { s.pair with unacked := s.pair.unacked.filter fun u => decide (2 ^ 31 ≤ (q + 2 ^ 32 - u.seq) % 2 ^ 32) } }))))) ∧
  (∀ (s : State), s.islUp 12 = true → s.pair.role = .active →
    s.pair.unacked.any (fun u => elapsed s u.sent (s.regF R.MIR_TIMING 0 11 * 1000)) = true →
    exec (.mirrorAckTimeout) s = .next (settled s (appendSettle (goAsync s)))) ∧
  (∀ (s : State) (q t : Nat), s.islUp 12 = true → s.pair.role = .active → s.lin.waiting = some (q, t) →
    elapsed s t (s.regF R.MIR_TIMING 0 11 * 1000) = true →
    exec (.mirrorAckTimeout) s = .next (settled s (appendSettle (goAsync s)))) ∧
  (∀ (s : State) (fe q d k : Nat) (ls : List EpLayer) (t : State),
    (.epoch fe q d k ls : Instr).wf = true → cuffTakes s fe = true → s.arb.waiting.testBit 4 = false →
    streamIn s q = (t, true) → exec (.epoch fe q d k ls) s = .next (settled s (ackSend (epochRx t d k ls)))) ∧
  (∀ (s : State) (d : Nat) (e : EpochPt) (br : Bool),
    (.epochWaitTimeout d : Instr).wf = true → s.islUp 12 = true → s.pair.role = .standby →
    s.regF R.MIR_TIMING 0 11 * 1000 ≤ nowNs s →
    dueEpoch s d (nowNs s - s.regF R.MIR_TIMING 0 11 * 1000) = some (e, br) →
    exec (.epochWaitTimeout d) s = .next (settled s (processLatch (pruneShadow
      { s with pair := { s.pair with synced := false } } d e.k) d e br fun t => standbySets t d e false []))) ∧
  (∀ (s : State) (fe h k w : Nat),
    (.yieldReceive fe h k w : Instr).wf = true → cuffTakes s fe = true → s.pair.role = .standby →
    exec (.yieldReceive fe h k w) s = .next (settled s (yieldRx s h k w))) ∧
  (∀ (s : State) (fe st : Nat) (y : Yield),
    (.yieldAck fe st : Instr).wf = true → cuffTakes s fe = true → s.pair.yield = some y → y.mine = true →
    y.ok = false → elapsed s y.sent 1000000 = false → st = 0 →
    exec (.yieldAck fe st) s = .next (settled s
      { s with pair := { s.pair with yield := some { y with ok := true } } })) ∧
  (∀ (s : State) (y : Yield),
    s.islUp 12 = true → s.pair.yield = some y → y.mine = true → y.ok = false → elapsed s y.sent 1000000 = true →
    exec (.yieldTimeout) s = .next (settled s (yieldBlocked s y.cause))) ∧
  (∀ (s : State) (t k : Nat), s.islUp 12 = true → s.pair.retry = some (t, k) → t ≤ s.up →
    causeHolds { s with pair := { s.pair with retry := none } } k = true →
    exec (.yieldRetry) s = .next (settled s (yieldStart { s with pair := { s.pair with retry := none } } k))) ∧
  (∀ (s : State) (y : Yield),
    s.islUp 12 = true → s.pair.yield = some y → y.ok = true → y.h ≤ nowNs s → y.mine = true →
    exec (.handover) s = .next (settled s (enterStandby (setTkover (catchUpActive s (y.h - 1)) y.cause 0)))) ∧
  (∀ (s : State) (y : Yield),
    s.islUp 12 = true → s.pair.yield = some y → y.ok = true → y.h ≤ nowNs s → y.mine = false →
    exec (.handover) s = .next (settled s (handover s))) ∧
  (∀ (s : State) (fe k : Nat) (ts : List (Nat × Nat × Bool × Nat)),
    (.digest fe k ts : Instr).wf = true → cuffTakes s fe = true → s.pair.role = .standby →
    exec (.digest fe k ts) s = .next (settled s (digestRx s k ts))) ∧
  (∀ (s : State) (fe q : Nat), (.resyncReq fe q : Instr).wf = true → cuffTakes s fe = true → s.pair.role = .active →
    exec (.resyncReq fe q) s = .next (settled s (resyncRx s q))) ∧
  (∀ (s : State) (fe q st : Nat) (t : State),
    (.resyncEnd fe q st : Instr).wf = true → cuffTakes s fe = true → s.arb.waiting.testBit 4 = false →
    streamIn s q = (t, true) → exec (.resyncEnd fe q st) s = .next (settled s (ackSend (resyncEnd t st)))) ∧
  (∀ (s : State) (t : Nat), s.islUp 12 = true → s.pair.fit = some t → prefers s = true →
    elapsed s t (s.regF R.MIR_REVERT 0 17 * 1000000000) = true →
    exec (.reclaim) s = .next (settled s (yieldSend { s with pair := { s.pair with fit := some s.up } }
      (yieldPoint s).1 (yieldPoint s).2 2))) ∧
  (∀ (s : State) (n : Nat),
    (.diagCheckFail n : Instr).wf = true → s.islUp 12 = true → s.regB R.MIR_DIAG n = true → diagCond s n = true →
    s.pair.failing.testBit n = false →
    exec (.diagCheckFail n) s = .next (settled s (yieldStart (darkEnter (raise
      { s with pair := { s.pair with failing := s.pair.failing + 2 ^ n, clear := sdel s.pair.clear n } } 0x24 7) 5)
      1))) ∧
  (∀ (s : State) (n t : Nat),
    (.diagCheckPass n : Instr).wf = true → s.islUp 12 = true → sget s.pair.clear n = some t →
    s.pair.failing.testBit n = true → elapsed s t 10000000000 = true →
    exec (.diagCheckPass n) s = .next (settled s
      { s with pair := { s.pair with failing := s.pair.failing - 2 ^ n, clear := sdel s.pair.clear n } })) ∧
  (∀ (s : State), s.islUp 12 = true → exec (.healthHoldExpiry) s = .next (settled s (healthExpiry s)))

/-- The journal (chapter 15). When each event takes effect, and the state it leaves: the queue and the factory's
data stay (alone, settled). -/
def Obligations.LiningEventsComplete : Prop :=
  (∀ (s : State) (r : LRec) (q : List LRec),
    s.islUp 2 = true → s.islUp 12 = true → s.lin.subq = r :: q → s.lin.state ≠ 0 →
    placesUsed s + (if r.final then 1 else 2) ≤ 2 →
    exec (.liningAppendEnqueue) s = .next (settled s (appendEnqueue s))) ∧
  (∀ (s : State) (n : Nat) (v : Svc) (r : LRec) (rs : List LRec),
    (.liningAppendComplete n : Instr).wf = true → svcOf s .lining = some v → s.lin.inAppend = r :: rs →
    s.lin.waiting = none → (appendTry s r n).2 ≠ 0 →
    exec (.liningAppendComplete n) s = .next (settled s (failItem (raise (appendLost (linFail (appendTry s r n).1
      (appendTry s r n).2 r) r) 0x40 0) v 2))) ∧
  (∀ (s : State) (n : Nat) (v : Svc) (r : LRec) (rs : List LRec),
    (.liningAppendComplete n : Instr).wf = true → svcOf s .lining = some v → s.lin.inAppend = r :: rs →
    s.lin.waiting = none → (appendTry s r n).2 = 0 → r.partner = true →
    exec (.liningAppendComplete n) s = .next (settled s (completeItem (recDurable
      { (appendTry s r n).1 with lin := { (appendTry s r n).1.lin with inAppend := rs } } r) v))) ∧
  (∀ (s : State), s.islUp 12 = true → ckptDue s = true → exec (.checkpointStart) s = .next (settled s (ckptBegin s))) ∧
  (∀ (s : State) (b : Bool) (k : Ckpt), s.islUp 12 = true → s.lin.run = some (b, k) →
    exec (.checkpointComplete false) s = .next (settled s (raise { s with lin := { s.lin with run := none } } 0x40
      4))) ∧
  (∀ (s : State) (b : Bool) (k : Ckpt), s.islUp 12 = true → s.lin.run = some (b, k) →
    exec (.checkpointComplete true) s = .next (settled s (ckptComplete s true))) ∧
  (∀ (s : State) (i n : Nat),
    (.sectorErase i n : Instr).wf = true → s.islUp 12 = true → s.lin.state = 1 → reclaimable s (s.sect i) = true →
    2 ≤ n →
    exec (.sectorErase i n) s = .next (settled s (raise (setSect s i { s.sect i with state := 3 }) 0x40 5))) ∧
  (∀ (s : State) (i n : Nat),
    (.sectorErase i n : Instr).wf = true → s.islUp 12 = true → s.lin.state = 1 → reclaimable s (s.sect i) = true →
    n < 2 → (s.sect i).erases + 1 ≠ 90000 →
    exec (.sectorErase i n) s = .next (settled s (setSect s i
      { sector0 with erases := (s.sect i).erases + 1, gen := (s.sect i).gen }))) ∧
  (∀ (s : State) (scan : ReplayScan) (torn : Bool),
    (.liningReplay scan torn : Instr).wf = true → s.islUp 12 = true → s.regB R.BST_POST 0 = true →
    s.lin.state = 0 → exec (.liningReplay scan torn) s = .next (settled s (replayCmd s scan torn)))

/-- Tamper response and owner-signed commands (chapter 16), updates (chapter 17). When each event takes effect, and
the state it leaves: the queue and the factory's data stay (alone, settled). -/
def Obligations.SecurityEventsComplete : Prop :=
  (∀ (s : State) (k : Nat), (.sensorSample k : Instr).wf = true → gntWatches s = true →
    exec (.sensorSample k) s = .next (settled s (sensorSample s k))) ∧
  (∀ (s : State) (n : Nat),
    (.glitchTrip n true : Instr).wf = true → gntWatches s = true → s.regB R.GNT_SENSE n = false →
    exec (.glitchTrip n true) s = .next (settled s (trip (s.setRegB R.GNT_SENSE n true) n ((s.setRegB R.GNT_SENSE
      n true).regF R.GNT_SENSE 0 9)))) ∧
  (∀ (s : State) (k : CmdRun), s.gnt.cmd = some k → cmdStatus s k.bytes ≠ 0 →
    exec (.commandFail) s = .next (settled s (cmdEnd s (beAt k.bytes 3 1) (cmdStatus s k.bytes)))) ∧
  (∀ (s : State) (k : CmdRun), s.gnt.cmd = some k → beAt k.bytes 3 1 = 0x01 →
    exec (.setPolicy) s = .next (settled s (if cmdStatus s k.bytes = 0 then cmdEnd (policySet s k.bytes) 0x01 0
      else s))) ∧
  (∀ (s : State) (k : CmdRun), s.gnt.cmd = some k → beAt k.bytes 3 1 = 0x02 →
    exec (.setLevel) s = .next (settled s (if cmdStatus s k.bytes = 0 then cmdEnd (lowerLevel s (beAt k.bytes 20
      1)) 0x02 0 else s))) ∧
  (∀ (s : State) (k : CmdRun), s.gnt.cmd = some k → beAt k.bytes 3 1 = 0x03 →
    exec (.unsealMeter) s = .next (settled s (if cmdStatus s k.bytes = 0 then cmdEnd (sealOpen s) 0x03 0 else s))) ∧
  (∀ (s : State) (k : CmdRun), s.gnt.cmd = some k → beAt k.bytes 3 1 = 0x04 →
    exec (.disarm) s = .next (settled s (if cmdStatus s k.bytes = 0 then cmdEnd
      { s with gnt := { s.gnt with armed := false } } 0x04 0 else s))) ∧
  (∀ (s : State) (k : CmdRun), s.gnt.cmd = some k → beAt k.bytes 3 1 = 0x05 →
    exec (.setPubkey) s = .next (settled s (if cmdStatus s k.bytes = 0 then cmdEnd (putSlot s (beAt k.bytes 20 1)
      (if allZero ((k.bytes.drop 21).take 96) then none else some ((k.bytes.drop 21).take 96))) 0x05 0 else s))) ∧
  (∀ (s : State) (k : CmdRun), s.gnt.cmd = some k → beAt k.bytes 3 1 = 0x10 →
    exec (.provision) s = .next (settled s (if cmdStatus s k.bytes = 0 then cmdEnd (provisioned s k.bytes) 0x10 0
      else s))) ∧
  (∀ (s : State), exec (.cellLow) s = .next (settled s (raise s 0x44 5))) ∧
  (∀ (s : State), s.pwr.phase = 0 →
    exec (.cellFailure) s = .next (alone s (keyTouch
      { s with gnt := { s.gnt with slots := eraseAll.foldl sdel s.gnt.slots, log := [], cellLost := true } }))) ∧
  (∀ (s : State) (m : List Byte),
    (.applyComplete 1 : Instr).wf = true → s.islUp 12 = true → storedMan s = some m → s.upd.state = 3 →
    exec (.applyComplete 1) s = .next (settled s (applyFail (updStat s 0 9)))) ∧
  (∀ (s : State) (m b : List Byte),
    (.applyComplete 2 : Instr).wf = true → s.islUp 12 = true → storedMan s = some m → s.upd.state = 3 →
    buildImage s m = some b → exec (.applyComplete 2) s = .next (settled s (applyFail (updStat s 0 7)))) ∧
  (∀ (s : State) (m b : List Byte),
    (.applyComplete 0 : Instr).wf = true → s.islUp 12 = true → storedMan s = some m → s.upd.state = 3 →
    buildImage s m = some b →
    exec (.applyComplete 0) s = .next (settled s (if Config.sha384 b = beAt m 76 48 then raise
      { s with upd := { s.upd with state := 4, applyAt := none, slots := sset s.upd.slots (inactive s) ⟨beAt m 8 4, beAt m 12 4, b, m, false⟩ } }
      0x48 2 else applyFail (updStat s 0 7)))) ∧
  (∀ (s : State) (t : Nat),
    s.islUp 12 = true → s.upd.actAt = some t → s.upd.state = 4 → t ≤ tickNow s → s.upd.yielding = false →
    partnerFit s = false → updRefusal s true = 0 → exec (.activationStart) s = .next (settled s (pauseStart s))) ∧
  (∀ (s : State),
    s.islUp 12 = true → s.regB R.GNT_BOOT 2 = false → exec (.activated) s = .next (settled s (activated s))) ∧
  (∀ (s : State) (t : Nat), s.islUp 12 = true → s.upd.pauseAt = some t → elapsed s t 140000000 = true →
    exec (.activationRevert) s = .next (settled s (activationRevert s)))

/-- Self-calibration and self-test (chapter 18), faults (chapter 19), supply and start-up (chapter 20). When each
event takes effect, and the state it leaves: the queue and the factory's data stay (alone, settled). -/
def Obligations.ModuleEventsComplete : Prop :=
  (∀ (s : State) (q : Nat) (off : Bool),
    (.calDue q off : Instr).wf = true → s.islUp 12 = true → calCause s q = true →
    exec (.calDue q off) s = .next (settled s (calTry ((calMake s q).setQty q
      { (calMake s q).qty q with tried := calTurns s q }) q off))) ∧
  (∀ (s : State) (f e : Nat), (.post f e : Instr).wf = true → s.islUp 12 = true → s.regB R.BST_POST 0 = false →
    12 + b2n s.hw.drive ≤ s.pwr.started → exec (.post f e) s = .next (settled s (post s f e))) ∧
  (∀ (s : State) (e : Nat),
    (.testVectorEnqueue e : Instr).wf = true → s.islUp 2 = true → s.islUp 12 = true → s.regB R.BST_POST 0 = true →
    elapsed s (sgetD s.slf.vecAt e 0) (vecPeriod s * 1000000000) = true →
    exec (.testVectorEnqueue e) s = .next (settled s (testEnqueue s e))) ∧
  (∀ (s : State) (w : Nat), (.scrubError w false : Instr).wf = true → s.islUp 3 = true → s.regF R.BST_SPOS 0 28 ≤ w →
    exec (.scrubError w false) s = .next (settled s (raise (((s.setReg R.BST_SPOS (w32 ((w + 1) % 2 ^ 28))).count
      R.BST_SCNT 0 16 1).count R.FST_ECC 0 16 1) 0x08 3))) ∧
  (∀ (s : State) (w : Nat), (.scrubError w true : Instr).wf = true → s.islUp 3 = true →
    exec (.scrubError w true) s = .next (settled s (scrubError s w true))) ∧
  (∀ (s : State), s.islUp 3 = true → elapsed s s.slf.scrubFrom (scrubPeriod s * 1000000000) = true →
    exec (.passDone) s = .next (settled s (raise ({ s with slf := { s.slf with scrubFrom := s.up } }.setReg
      R.BST_SPOS 0#32) 0x4D 3))) ∧
  (∀ (s : State), s.islUp 12 = true → s.evt.alert = true → alertWanted s = false →
    exec (.alertRelease) s = .next (alone s
      { s with evt := { s.evt with alert := false, alertRel := some s.up } })) ∧
  (∀ (s : State) (v h : Nat) (off : Bool) (b : Int),
    s.pwr.phase = 0 → 3550 ≤ v → 10000000 ≤ h → 10000000 ≤ s.up → (deviceReset s (b2n off) 1).pwr.rstLow = false →
    (deviceReset s (b2n off) 1).pwr.thermalOff = false →
    exec (.powerOn v h off b) s = .next (settled s (release (deviceReset s (b2n off) 1)))) ∧
  (∀ (s : State) (i : Nat), s.pwr.phase = 2 → (startOrder s)[s.pwr.started]? = some i → i ≠ 3 → i ≠ 9 →
    exec (.islandStart) s = .next (settled s (raise
      { s with isl := { s.isl with up := s.isl.up ||| 2 ^ i }, pwr := { s.pwr with started := s.pwr.started + 1 } }
      0x01 i))) ∧
  (∀ (s : State),
    startReady s = true → s.pwr.thermalOff = false → exec (.started) s = .next (settled s (startedCmd s))) ∧
  (∀ (s : State) (v i h : Nat), 3600 ≤ v → v ≤ 7550 →
    exec (.supplyBand v i h) s = .next (settled s
      ({ s with pwr := { s.pwr with low36 := false, low40 := decide (v < 4000), overv := false } }.setReg R.PWR_J1
      (w32 (v + i * 65536))))) ∧
  (∀ (s : State) (v i h : Nat), v < 3600 → 100000000 ≤ h → s.pwr.low36 = false →
    exec (.supplyBand v i h) s = .next (settled s (raise
      ({ s with pwr := { s.pwr with low36 := true, low40 := true, overv := false } }.setReg R.PWR_J1 (w32 (v + i *
      65536))) 0x50 0))) ∧
  (∀ (s : State) (v i h : Nat), 7550 < v → 1000000 ≤ h → s.pwr.overv = false →
    exec (.supplyBand v i h) s = .next (settled s (raise
      ({ s with pwr := { s.pwr with low36 := false, low40 := false, overv := true } }.setReg R.PWR_J1 (w32 (v + i *
      65536))) 0x50 1))) ∧
  (∀ (s : State) (v h : Nat),
    v < 3400 → 200000 ≤ h → exec (.powerFailWarning v h) s = .next (settled s (powerFail s 1))) ∧
  (∀ (s : State) (v h : Nat), 8200 < v → 10000 ≤ h → exec (.overvoltageCut v h) s = .next (settled s (powerFail s 2))) ∧
  (∀ (s : State) (t : Nat), s.pwr.tripSince = some t → s.pwr.phase = 2 → elapsed s t 1000000000 = true →
    exec (.thermalTrip) s = .next (settled s (powerFail s 3))) ∧
  (∀ (s : State) (k t : Nat), s.pwr.pfw = some (k, t) → elapsed s t 75000000 = true →
    exec (.powerOffEnd) s = .next (alone s (deviceReset (lastRecord s t) 2 0))) ∧
  (∀ (s : State) (b : Int) (t : Nat),
    s.pwr.tripSince = some t → s.pwr.phase = 1 → s.pwr.rstLow = false → s.pwr.thermalOff = true →
    elapsed s t 10000000000 = true → 700 ≤ b →
    exec (.thermalRestartCheck b) s = .next (alone s { s with pwr := { s.pwr with tripSince := some s.up } })) ∧
  (∀ (s : State) (b : Int) (t : Nat),
    s.pwr.tripSince = some t → s.pwr.phase = 1 → s.pwr.rstLow = false → s.pwr.thermalOff = true →
    elapsed s t 10000000000 = true → b < 700 → exec (.thermalRestartCheck b) s = .next (alone s (release s))) ∧
  (∀ (s : State) (h : Nat), 1000 ≤ h → s.pwr.phase = 2 → s.pwr.pfw = none →
    exec (.rstNLow h) s = .next (alone s (deviceReset { s with pwr := { s.pwr with rstLow := true } } 3 1))) ∧
  (∀ (s : State) (b : Int), s.pwr.phase = 1 → s.pwr.thermalOff = false →
    exec (.rstNHigh b) s = .next (alone s (release { s with pwr := { s.pwr with rstLow := false } }))) ∧
  (∀ (s : State), s.pwr.phase = 2 → s.pwr.pfw = none → s.pwr.orderly = none →
    exec (.firmwareWatchdog) s = .next (settled s (orderlyStart s 5))) ∧
  (∀ (s : State) (k mw h : Nat),
    (.cageOvercurrent k ⟨mw, h⟩ : Instr).wf = true → 1000000 ≤ h → 6 * cageLimit k < 5 * mw → cagePage k ≠ 0x10 →
    cagePage k ≠ 0x11 →
    exec (.cageOvercurrent k ⟨mw, h⟩) s = .next (settled s (ptpTouch (linkGoesDown (raise (s.setRegB R.PWR_CAGE k
      true) 0x50 3) (cagePage k))))) ∧
  (∀ (s : State) (v cp : Nat), 6800 ≤ v → 380 ≤ cp → s.pwr.charged = true →
    exec (.holdupMeasure v cp) s = .next (settled s ({ s with pwr := { s.pwr with charged := true } }.setReg
      R.PWR_HOLDUP (w32 (v % 2 ^ 14 + cp * 65536))))) ∧
  (∀ (s : State) (v cp : Nat), 6800 ≤ v → 380 ≤ cp → s.pwr.charged = false →
    exec (.holdupMeasure v cp) s = .next (settled s (raise
      ({ s with pwr := { s.pwr with charged := true } }.setReg R.PWR_HOLDUP (w32 (v % 2 ^ 14 + cp * 65536))) 0x50
      4))) ∧
  (∀ (s : State) (v cp : Nat), cp < 380 →
    exec (.holdupMeasure v cp) s = .next (settled s (raise
      ({ s with pwr := { s.pwr with charged := false } }.setReg R.PWR_HOLDUP (w32 (v % 2 ^ 14 + cp * 65536))) 0x50
      2))) ∧
  (∀ (s : State) (t : Temps), s.islUp 12 = true → exec (.thermalWarn t) s = .next (settled s (thermSample s t))) ∧
  (∀ (s : State) (t : Temps) (h : Nat), s.islUp 12 = true → t.b0 = none →
    exec (.baseplateSensorFail t h) s = .next (settled s (raise (thermSample s t) 0x51 2))) ∧
  (∀ (s : State) (k t : Nat), s.pwr.pfw = some (k, t) → s.pwr.charged = false →
    exec (.logicPowerLoss) s = .next (alone s (deviceReset (lastRecord s t) 0 0)))

/-- Accesses of chapters 2 and 3 that no check rejects; PG_LOCK (R83, R87). Accesses that are taken and what they
leave. -/
def Obligations.BusRegisterCommandsComplete : Prop :=
  (∀ (s : State) (req addr : Nat) (v : Word),
    (.registerWrite req addr v : Instr).wf = true → takesWrite s req addr v = true →
    exec (.registerWrite req addr v) s = .next (written s req addr v)) ∧
  (∀ (s : State) (req : Nat) (v : Word), (.islRst req v : Instr).wf = true → takesWrite s req R.ISL_RST v = true →
    exec (.islRst req v) s = .next (written s req R.ISL_RST v)) ∧
  (∀ (s : State) (req page : Nat) (en frz : Bool), (.softReset req page en frz : Instr).wf = true →
    takesWrite s req (R.PG_CTL page) (w32 (b2n en + 2 + 4 * b2n frz)) = true →
    exec (.softReset req page en frz) s = .next (written s req (R.PG_CTL page) (w32 (b2n en + 2 + 4 * b2n frz)))) ∧
  (∀ (s : State) (req page : Nat),
    (.commit req page : Instr).wf = true → takesWrite s req (R.PG_COMMIT page) 1#32 = true →
    exec (.commit req page) s = .next (written s req (R.PG_COMMIT page) 1#32)) ∧
  (∀ (s : State) (req page : Nat),
    (.discard req page : Instr).wf = true → takesWrite s req (R.PG_COMMIT page) 2#32 = true →
    exec (.discard req page) s = .next (written s req (R.PG_COMMIT page) 2#32)) ∧
  (∀ (s : State) (req page : Nat),
    (.persistSave req page : Instr).wf = true → takesWrite s req (R.PG_PERSIST page) 1#32 = true →
    exec (.persistSave req page) s = .next (written s req (R.PG_PERSIST page) 1#32)) ∧
  (∀ (s : State) (req page : Nat),
    (.persistForget req page : Instr).wf = true → takesWrite s req (R.PG_PERSIST page) 2#32 = true →
    exec (.persistForget req page) s = .next (written s req (R.PG_PERSIST page) 2#32)) ∧
  (∀ (s : State) (req op : Nat), (.windowRead req op : Instr).wf = true → takesWrite s req op 1#32 = true →
    exec (.windowRead req op) s = .next (written s req op 1#32)) ∧
  (∀ (s : State) (req op : Nat), (.windowWrite req op : Instr).wf = true → takesWrite s req op 2#32 = true →
    exec (.windowWrite req op) s = .next (written s req op 2#32)) ∧
  (∀ (s : State) (req port : Nat),
    (.remoteRead req port : Instr).wf = true → takesWrite s req (R.HB_RA_OP port) 1#32 = true →
    exec (.remoteRead req port) s = .next (written s req (R.HB_RA_OP port) 1#32)) ∧
  (∀ (s : State) (req port : Nat),
    (.remoteWrite req port : Instr).wf = true → takesWrite s req (R.HB_RA_OP port) 2#32 = true →
    exec (.remoteWrite req port) s = .next (written s req (R.HB_RA_OP port) 2#32)) ∧
  (∀ (s : State) (req : Nat) (v : Word), (.cbClr req v : Instr).wf = true → takesWrite s req R.CB_CLR v = true →
    exec (.cbClr req v) s = .next (written s req R.CB_CLR v)) ∧
  (∀ (s : State) (req page : Nat), (.lockAcquire req page : Instr).wf = true → takesLock s req page 1#32 = true →
    exec (.lockAcquire req page) s = .next (lockDone s (lockAcquire (locksDue s) req page) req page)) ∧
  (∀ (s t : State) (req page : Nat), (.lockRelease req page : Instr).wf = true → takesLock s req page 2#32 = true →
    lockRelease (locksDue s) req = (t, 0) → exec (.lockRelease req page) s = .next (lockDone s t req page))

/-- Chapters 4 to 7. Accesses that are taken and what they leave. -/
def Obligations.HatrackAndSurfaceWritesComplete : Prop :=
  (∀ (s : State) (req : Nat), (.enqueue req : Instr).wf = true → takesWrite s req (tHtkEnqOp) 1#32 = true →
    exec (.enqueue req) s = .next (written s req (tHtkEnqOp) 1#32)) ∧
  (∀ (s : State) (req : Nat) (v : Word),
    (.flagSet req v : Instr).wf = true → takesWrite s req R.HTK_FLAGSET v = true →
    exec (.flagSet req v) s = .next (written s req R.HTK_FLAGSET v)) ∧
  (∀ (s : State) (req : Nat) (v : Word),
    (.flagClear req v : Instr).wf = true → takesWrite s req R.HTK_FLAGCLR v = true →
    exec (.flagClear req v) s = .next (written s req R.HTK_FLAGCLR v)) ∧
  (∀ (s : State) (req flow : Nat),
    (.flush req flow : Instr).wf = true → takesWrite s req R.HTK_FLOWCMD (w32 (flow + 256)) = true →
    exec (.flush req flow) s = .next (written s req R.HTK_FLOWCMD (w32 (flow + 256)))) ∧
  (∀ (s : State) (req flow : Nat),
    (.restartRetry req flow : Instr).wf = true → takesWrite s req R.HTK_FLOWCMD (w32 (flow + 512)) = true →
    exec (.restartRetry req flow) s = .next (written s req R.HTK_FLOWCMD (w32 (flow + 512)))) ∧
  (∀ (s : State) (req flow : Nat),
    (.restartDiscard req flow : Instr).wf = true → takesWrite s req R.HTK_FLOWCMD (w32 (flow + 768)) = true →
    exec (.restartDiscard req flow) s = .next (written s req R.HTK_FLOWCMD (w32 (flow + 768)))) ∧
  (∀ (s : State) (req : Nat), (.mapRunWrite req : Instr).wf = true → takesWrite s req 0x0B0054 2#32 = true →
    exec (.mapRunWrite req) s = .next (written s req 0x0B0054 2#32)) ∧
  (∀ (s : State) (req : Nat), (.mapRunClear req : Instr).wf = true → takesWrite s req 0x0B0054 4#32 = true →
    exec (.mapRunClear req) s = .next (written s req 0x0B0054 4#32)) ∧
  (∀ (s : State) (req : Nat) (v : Word), (.engRst req v : Instr).wf = true → takesWrite s req R.ENG_RST v = true →
    exec (.engRst req v) s = .next (written s req R.ENG_RST v)) ∧
  (∀ (s : State) (req : Nat), (.engClr req : Instr).wf = true → takesWrite s req R.ENG_CLR 1#32 = true →
    exec (.engClr req) s = .next (written s req R.ENG_CLR 1#32)) ∧
  (∀ (s : State) (req : Nat), (.cueArm req : Instr).wf = true → takesWrite s req R.TDM_QARMOP 1#32 = true →
    exec (.cueArm req) s = .next (written s req R.TDM_QARMOP 1#32)) ∧
  (∀ (s : State) (req : Nat), (.expectedPush req : Instr).wf = true → takesWrite s req R.CHK_XOP 1#32 = true →
    exec (.expectedPush req) s = .next (written s req R.CHK_XOP 1#32)) ∧
  (∀ (s : State) (req : Nat), (.expectedFlush req : Instr).wf = true → takesWrite s req R.CHK_XOP 2#32 = true →
    exec (.expectedFlush req) s = .next (written s req R.CHK_XOP 2#32))

/-- Chapters 8 to 11. Accesses that are taken and what they leave. -/
def Obligations.PortAndDriveWritesComplete : Prop :=
  (∀ (s : State) (req port : Nat),
    (.ppClrCnt req port : Instr).wf = true → takesWrite s req (R.PP_CLR port) 1#32 = true →
    exec (.ppClrCnt req port) s = .next (written s req (R.PP_CLR port) 1#32)) ∧
  (∀ (s : State) (req port : Nat),
    (.ppClrCredmin req port : Instr).wf = true → takesWrite s req (R.PP_CLR port) 2#32 = true →
    exec (.ppClrCredmin req port) s = .next (written s req (R.PP_CLR port) 2#32)) ∧
  (∀ (s : State) (req page : Nat),
    (.macClrCnt req page : Instr).wf = true → takesWrite s req (R.MAC_CLR page) 1#32 = true →
    exec (.macClrCnt req page) s = .next (written s req (R.MAC_CLR page) 1#32)) ∧
  (∀ (s : State) (req page : Nat),
    (.macClrRingmin req page : Instr).wf = true → takesWrite s req (R.MAC_CLR page) 2#32 = true →
    exec (.macClrRingmin req page) s = .next (written s req (R.MAC_CLR page) 2#32)) ∧
  (∀ (s : State) (req mask : Nat),
    (.drvFclrRail req mask : Instr).wf = true → takesWrite s req R.DRV_FCLR (w32 mask) = true →
    exec (.drvFclrRail req mask) s = .next (written s req R.DRV_FCLR (w32 mask))) ∧
  (∀ (s : State) (req : Nat), (.drvFclrMxsup req : Instr).wf = true → takesWrite s req R.DRV_FCLR 16#32 = true →
    exec (.drvFclrMxsup req) s = .next (written s req R.DRV_FCLR 16#32)) ∧
  (∀ (s : State) (req half : Nat) (v : Word),
    (.strFclr req half v : Instr).wf = true → takesWrite s req (R.STR_FCLR half) v = true →
    exec (.strFclr req half v) s = .next (written s req (R.STR_FCLR half) v)) ∧
  (∀ (s : State) (req : Nat), (.drvClr req : Instr).wf = true → takesWrite s req R.DRV_CLR 1#32 = true →
    exec (.drvClr req) s = .next (written s req R.DRV_CLR 1#32)) ∧
  (∀ (s : State) (req x : Nat), (.mxFclrCol req x : Instr).wf = true → takesWrite s req (R.MX_FCLR x) 1#32 = true →
    exec (.mxFclrCol req x) s = .next (written s req (R.MX_FCLR x) 1#32)) ∧
  (∀ (s : State) (req x : Nat), (.mxFclrLine req x : Instr).wf = true → takesWrite s req (R.MX_FCLR x) 2#32 = true →
    exec (.mxFclrLine req x) s = .next (written s req (R.MX_FCLR x) 2#32)) ∧
  (∀ (s : State) (req : Nat), (.sealClose req : Instr).wf = true → takesWrite s req R.MTR_SEAL 2#32 = true →
    exec (.sealClose req) s = .next (written s req R.MTR_SEAL 2#32)) ∧
  (∀ (s : State) (req : Nat) (use : Bool),
    (.snapshotTake req use : Instr).wf = true → takesWrite s req R.ACC_SNAP (w32 (1 + 2 * b2n use)) = true →
    exec (.snapshotTake req use) s = .next (written s req R.ACC_SNAP (w32 (1 + 2 * b2n use))))

/-- Chapter 12; a read of CLK_NS latches the seconds (R397). Accesses that are taken and what they leave. -/
def Obligations.ClockCommandsComplete : Prop :=
  (∀ (s : State) (req : Nat), (.clockStepAbs req : Instr).wf = true → takesWrite s req R.CLK_STEPOP 1#32 = true →
    exec (.clockStepAbs req) s = .next (written s req R.CLK_STEPOP 1#32)) ∧
  (∀ (s : State) (req : Nat), (.clockStepRel req : Instr).wf = true → takesWrite s req R.CLK_STEPOP 2#32 = true →
    exec (.clockStepRel req) s = .next (written s req R.CLK_STEPOP 2#32)) ∧
  (∀ (s : State) (req : Nat) (v : Word),
    (.clockSlew req v : Instr).wf = true → takesWrite s req R.CLK_SLEW v = true →
    exec (.clockSlew req v) s = .next (written s req R.CLK_SLEW v)) ∧
  (∀ (s : State) (req : Nat) (v : Word), (.clockInc req v : Instr).wf = true → takesWrite s req R.CLK_INC v = true →
    exec (.clockInc req v) s = .next (written s req R.CLK_INC v)) ∧
  (∀ (s : State) (req : Nat) (v : Word), (.clockMode req v : Instr).wf = true → takesWrite s req R.CLK_CTL v = true →
    exec (.clockMode req v) s = .next (written s req R.CLK_CTL v)) ∧
  (∀ (s : State) (req : Nat) (v : Word), (.setvalid req v : Instr).wf = true → takesWrite s req R.CLK_CTL v = true →
    exec (.setvalid req v) s = .next (written s req R.CLK_CTL v)) ∧
  (∀ (s : State) (req : Nat), (.clockRead req : Instr).wf = true → takesRead s req R.CLK_NOWNS = true →
    exec (.clockRead req) s = .next (settled s (answered (reply (noteReply (readTouch (locksDue s) req
      R.CLK_NOWNS) R.CLK_NOWNS) req 0 [readWord (locksDue s) req R.CLK_NOWNS]) req)))

/-- Chapters 13 to 15. Accesses that are taken and what they leave. -/
def Obligations.RingAndPairWritesComplete : Prop :=
  (∀ (s : State) (req : Nat),
    (.leave req : Instr).wf = true → takesWrite s req (R.HB_CTL 0) (setBit (s.reg (R.HB_CTL 0)) 0 false) = true →
    exec (.leave req) s = .next (written s req (R.HB_CTL 0) (setBit (s.reg (R.HB_CTL 0)) 0 false))) ∧
  (∀ (s : State) (req page : Nat),
    (.hbForget req page : Instr).wf = true → takesWrite s req (0x220150 + 0x10000 * page) 4#32 = true →
    exec (.hbForget req page) s = .next (written s req (0x220150 + 0x10000 * page) 4#32)) ∧
  (∀ (s : State) (req page : Nat),
    (.hbEvpop req page : Instr).wf = true → takesWrite s req (R.HB_EVPOP page) 1#32 = true →
    exec (.hbEvpop req page) s = .next (written s req (R.HB_EVPOP page) 1#32)) ∧
  (∀ (s : State) (req page : Nat),
    (.hbClr req page : Instr).wf = true → takesWrite s req (R.HB_CLR page) 1#32 = true →
    exec (.hbClr req page) s = .next (written s req (R.HB_CLR page) 1#32)) ∧
  (∀ (s : State) (req : Nat) (v : Word), (.pairBind req v : Instr).wf = true → takesWrite s req R.MIR_CFG v = true →
    exec (.pairBind req v) s = .next (written s req R.MIR_CFG v)) ∧
  (∀ (s : State) (req : Nat), (.yield req : Instr).wf = true → takesWrite s req R.MIR_CMD 1#32 = true →
    exec (.yield req) s = .next (written s req R.MIR_CMD 1#32)) ∧
  (∀ (s : State) (req : Nat), (.resync req : Instr).wf = true → takesWrite s req R.MIR_CMD 2#32 = true →
    exec (.resync req) s = .next (written s req R.MIR_CMD 2#32)) ∧
  (∀ (s : State) (req : Nat), (.mirClr req : Instr).wf = true → takesWrite s req R.MIR_CLR 1#32 = true →
    exec (.mirClr req) s = .next (written s req R.MIR_CLR 1#32)) ∧
  (∀ (s : State) (req : Nat), (.linCkpt req : Instr).wf = true → takesWrite s req R.LIN_CMD 1#32 = true →
    exec (.linCkpt req) s = .next (written s req R.LIN_CMD 1#32)) ∧
  (∀ (s : State) (req : Nat) (v : Word), (.linAck req v : Instr).wf = true → takesWrite s req R.LIN_ACKHI v = true →
    exec (.linAck req v) s = .next (written s req R.LIN_ACKHI v)) ∧
  (∀ (s : State) (req : Nat), (.liningRead req : Instr).wf = true → takesWrite s req R.LIN_ROP 1#32 = true →
    exec (.liningRead req) s = .next (written s req R.LIN_ROP 1#32))

/-- Chapters 16 and 17. Accesses that are taken and what they leave. -/
def Obligations.SecurityWritesComplete : Prop :=
  (∀ (s : State) (req n : Nat) (v : Word),
    (.policyWrite req n v : Instr).wf = true → takesWrite s req (R.GNT_POL n) v = true →
    exec (.policyWrite req n v) s = .next (written s req (R.GNT_POL n) v)) ∧
  (∀ (s : State) (req : Nat), (.commandGo req : Instr).wf = true → takesWrite s req R.GNT_CMDOP 1#32 = true →
    exec (.commandGo req) s = .next (written s req R.GNT_CMDOP 1#32)) ∧
  (∀ (s : State) (req : Nat), (.keyRead req : Instr).wf = true → takesWrite s req 0x4500A4 1#32 = true →
    exec (.keyRead req) s = .next (written s req 0x4500A4 1#32)) ∧
  (∀ (s : State) (req : Nat), (.keyWrite req : Instr).wf = true → takesWrite s req 0x4500A4 2#32 = true →
    exec (.keyWrite req) s = .next (written s req 0x4500A4 2#32)) ∧
  (∀ (s : State) (req : Nat), (.keyErase req : Instr).wf = true → takesWrite s req 0x4500A4 4#32 = true →
    exec (.keyErase req) s = .next (written s req 0x4500A4 4#32)) ∧
  (∀ (s : State) (req : Nat), (.updSubmit req : Instr).wf = true → takesWrite s req 0x480084 4#32 = true →
    exec (.updSubmit req) s = .next (written s req 0x480084 4#32)) ∧
  (∀ (s : State) (req : Nat), (.apply req : Instr).wf = true → takesWrite s req R.UPD_CMD 1#32 = true →
    exec (.apply req) s = .next (written s req R.UPD_CMD 1#32)) ∧
  (∀ (s : State) (req : Nat), (.activate req : Instr).wf = true → takesWrite s req R.UPD_CMD 2#32 = true →
    exec (.activate req) s = .next (written s req R.UPD_CMD 2#32)) ∧
  (∀ (s : State) (req : Nat), (.cancel req : Instr).wf = true → takesWrite s req R.UPD_CMD 4#32 = true →
    exec (.cancel req) s = .next (written s req R.UPD_CMD 4#32))

/-- Chapters 18 to 20. Accesses that are taken and what they leave. -/
def Obligations.ModuleWritesComplete : Prop :=
  (∀ (s : State) (req : Nat), (.sclAll req : Instr).wf = true → takesWrite s req R.SCL_CMD 1#32 = true →
    exec (.sclAll req) s = .next (written s req R.SCL_CMD 1#32)) ∧
  (∀ (s : State) (req q : Nat),
    (.sclOne req q : Instr).wf = true → takesWrite s req R.SCL_CMD (w32 (2 + 256 * q)) = true →
    exec (.sclOne req q) s = .next (written s req R.SCL_CMD (w32 (2 + 256 * q)))) ∧
  (∀ (s : State) (req u : Nat),
    (.fstClrPort req u : Instr).wf = true → takesWrite s req R.FST_CLR (w32 (2 ^ u)) = true →
    exec (.fstClrPort req u) s = .next (written s req R.FST_CLR (w32 (2 ^ u)))) ∧
  (∀ (s : State) (req : Nat), (.fstClrEcc req : Instr).wf = true → takesWrite s req R.FST_CLR 4#32 = true →
    exec (.fstClrEcc req) s = .next (written s req R.FST_CLR 4#32)) ∧
  (∀ (s : State) (req : Nat) (v : Word),
    (.evtSwset req v : Instr).wf = true → takesWrite s req R.EVT_SWSET v = true →
    exec (.evtSwset req v) s = .next (written s req R.EVT_SWSET v)) ∧
  (∀ (s : State) (req : Nat) (v : Word),
    (.evtSwclr req v : Instr).wf = true → takesWrite s req R.EVT_SWCLR v = true →
    exec (.evtSwclr req v) s = .next (written s req R.EVT_SWCLR v)) ∧
  (∀ (s : State) (req : Nat) (orderly : Bool), (.devReset req orderly : Instr).wf = true →
    takesWrite s req R.DEV_RESET (w32 (0x44560001 + 2 * b2n orderly)) = true →
    exec (.devReset req orderly) s = .next (written s req R.DEV_RESET (w32 (0x44560001 + 2 * b2n orderly)))) ∧
  (∀ (s : State) (req mask : Nat),
    (.cagePowerOn req mask : Instr).wf = true → takesWrite s req R.PWR_CAGE (w32 mask) = true →
    exec (.cagePowerOn req mask) s = .next (written s req R.PWR_CAGE (w32 mask))) ∧
  (∀ (s : State) (req : Nat), (.thmClr req : Instr).wf = true → takesWrite s req R.THM_CLR 1#32 = true →
    exec (.thmClr req) s = .next (written s req R.THM_CLR 1#32))
end

