-- ==== Sys2Proof/Laws/Maps.lean ====
section
/-! SUPPORT. The laws of sparse maps: a read after a write, what stays, and the canonical form, which every operation
keeps. -/

namespace Sys2Proof.Machine

variable {α : Type}

/-! Reads -/

@[simp] theorem sget_nil (k : Nat) : sget ([] : SMap α) k = none := rfl

theorem sget_sset (m : SMap α) (k j : Nat) (v : α) : sget (sset m k v) j = if j = k then some v else sget m j := by
  induction m with
  | nil => simp [sset, sget]
  | cons e m ih =>
    obtain ⟨a, x⟩ := e
    unfold sset
    split
    · simp [sget]
    · split
      · subst_vars; by_cases h : j = a <;> simp [sget, h]
      · by_cases h : j = a
        · subst h; simp_all [sget, eq_comm]
        · simp [sget, h, ih]

theorem sget_sdel (m : SMap α) (k j : Nat) : sget (sdel m k) j = if j = k then none else sget m j := by
  induction m with
  | nil => simp [sdel]
  | cons e m ih =>
    obtain ⟨a, x⟩ := e
    unfold sdel
    split
    · subst_vars; by_cases h : j = a
      · subst h; simpa using ih
      · simp [sget, h, ih]
    · by_cases h : j = a
      · subst h; simp_all [sget, eq_comm]
      · simp [sget, h, ih]

@[simp] theorem sget_sset_self (m : SMap α) (k : Nat) (v : α) : sget (sset m k v) k = some v := by simp [sget_sset]

theorem sgetD_sset (m : SMap α) (k j : Nat) (v d : α) : sgetD (sset m k v) j d = if j = k then v else sgetD m j d := by
  unfold sgetD; rw [sget_sset]; split <;> rfl

variable [DecidableEq α]

/-- A read after a write where an unlisted key reads as `d`. -/
theorem sgetD_sput (m : SMap α) (k j : Nat) (v d : α) : sgetD (sput m k v d) j d = if j = k then v else sgetD m j d := by
  unfold sput
  by_cases h : v = d
  · rw [if_pos h]; unfold sgetD; rw [sget_sdel]; split <;> simp [h]
  · rw [if_neg h]; exact sgetD_sset m k j v d

/-- The same for the entry itself, where an unlisted key `j` reads as `d j`. -/
theorem sget_sput_getD (m : SMap α) (k j : Nat) (v : α) (d : Nat → α) :
    (sget (sput m k v (d k)) j).getD (d j) = if j = k then v else (sget m j).getD (d j) := by
  unfold sput
  by_cases h : v = d k
  · rw [if_pos h, sget_sdel]; split <;> simp_all
  · rw [if_neg h, sget_sset]; split <;> simp_all

@[simp] theorem sgetD_sput_self (m : SMap α) (k : Nat) (v d : α) : sgetD (sput m k v d) k d = v := by simp [sgetD_sput]

omit [DecidableEq α]

/-! The canonical form -/

theorem SMap.wf_nil : SMap.wf ([] : SMap α) := by simp [SMap.wf]

theorem mem_sset {m : SMap α} {k : Nat} {v : α} {e : Nat × α} (h : e ∈ sset m k v) : e = (k, v) ∨ e ∈ m := by
  induction m with
  | nil => simpa [sset] using h
  | cons x m ih =>
    obtain ⟨a, y⟩ := x
    unfold sset at h
    split at h
    · simpa using h
    · split at h
      · rcases List.mem_cons.1 h with h | h
        · exact .inl h
        · exact .inr (List.mem_cons_of_mem _ h)
      · rcases List.mem_cons.1 h with h | h
        · exact .inr (h ▸ List.mem_cons_self)
        · exact (ih h).imp id (List.mem_cons_of_mem _)

theorem SMap.wf_cons {a : Nat} {x : α} {m : SMap α} : SMap.wf ((a, x) :: m) ↔ (∀ e ∈ m, a < e.1) ∧ SMap.wf m := by
  simp [SMap.wf, List.pairwise_cons]

theorem SMap.wf_sset {m : SMap α} (h : m.wf) (k : Nat) (v : α) : (sset m k v).wf := by
  induction m with
  | nil => simp [sset, SMap.wf]
  | cons e m ih =>
    obtain ⟨a, x⟩ := e
    rw [SMap.wf_cons] at h
    unfold sset
    split
    · refine SMap.wf_cons.2 ⟨fun e he => ?_, SMap.wf_cons.2 h⟩
      rcases List.mem_cons.1 he with he | he
      · rw [he]; assumption
      · have := h.1 e he; omega
    · split
      · subst_vars; exact SMap.wf_cons.2 h
      · refine SMap.wf_cons.2 ⟨fun e he => ?_, ih h.2⟩
        rcases mem_sset he with he | he
        · rw [he]; simp; omega
        · exact h.1 e he

theorem SMap.wf_filter {m : SMap α} (h : m.wf) (p : Nat × α → Bool) : SMap.wf (m.filter p) := by
  unfold SMap.wf at *
  exact List.Pairwise.sublist (List.Sublist.map _ List.filter_sublist) h

theorem sdel_eq_filter (m : SMap α) (k : Nat) : sdel m k = m.filter fun e => k != e.1 := by
  induction m with
  | nil => rfl
  | cons e m ih =>
    obtain ⟨a, x⟩ := e
    unfold sdel
    by_cases h : k = a
    · subst h; simpa using ih
    · simp [h, ih]

theorem SMap.wf_sdel {m : SMap α} (h : m.wf) (k : Nat) : (sdel m k).wf := by
  rw [sdel_eq_filter]; exact SMap.wf_filter h _

theorem SMap.wf_sdelIf {m : SMap α} (h : m.wf) (p : Nat → Bool) : (sdelIf m p).wf := SMap.wf_filter h _

theorem SMap.wf_sput [DecidableEq α] {m : SMap α} (h : m.wf) (k : Nat) (v d : α) : (sput m k v d).wf := by
  unfold sput; split
  · exact SMap.wf_sdel h k
  · exact SMap.wf_sset h k v

theorem SMap.sparse_nil (d : Nat → α) : SMap.sparse ([] : SMap α) d := ⟨SMap.wf_nil, by simp⟩

theorem SMap.sparse_filter {m : SMap α} {d : Nat → α} (h : m.sparse d) (p : Nat × α → Bool) : SMap.sparse (m.filter p) d :=
  ⟨SMap.wf_filter h.1 p, fun e he => h.2 e (List.mem_filter.1 he).1⟩

theorem SMap.sparse_sdelIf {m : SMap α} {d : Nat → α} (h : m.sparse d) (p : Nat → Bool) : SMap.sparse (sdelIf m p) d :=
  SMap.sparse_filter h _

/-- Writing keeps the canonical form: an entry equal to what an unlisted key reads as is not listed. -/
theorem SMap.sparse_sput [DecidableEq α] {m : SMap α} {d : Nat → α} (h : m.sparse d) (k : Nat) (v : α) :
    SMap.sparse (sput m k v (d k)) d := by
  refine ⟨SMap.wf_sput h.1 k v _, fun e he => ?_⟩
  unfold sput at he
  split at he
  · rw [sdel_eq_filter] at he; exact h.2 e (List.mem_filter.1 he).1
  · rcases mem_sset he with rfl | he
    · assumption
    · exact h.2 e he

end Sys2Proof.Machine
end

