-- ==== Sys2Proof/Laws/Canon.lean ====
section
/-! SUPPORT. The canonical form of the sparse stores is kept by every operation: the register, event, frame-store, flow, port and drive operations. One lemma for
each operation, named after it. -/

namespace Sys2Proof.Machine
open Sys2Proof
/-- `Canonical` of the five stores themselves. -/
def CanonM (r b : SMap Word) (t : SMap (List Word)) (l e : SMap Byte) : Prop :=
  r.sparse resetWord ∧ b.wf ∧ t.wf ∧ Memory.wf l ∧ Memory.wf e

theorem canon_fold (s : State) : CanonM s.regs s.bank s.tabs s.layMem s.egrMem = Canonical s := propext Iff.rfl

theorem canon_mk {p hw up clk r b t c ar il ev hk ln pr ig rn l e po mc pa ck pt ti dv mt hb gn ud sf pw fc} :
    Canonical ⟨p, hw, up, clk, r, b, t, c, ar, il, ev, hk, ln, pr, ig, rn, l, e, po, mc, pa, ck, pt, ti, dv, mt, hb, gn, ud, sf, pw, fc⟩
      = CanonM r b t l e := propext Iff.rfl

theorem canon_foldl {α : Type} {f : State → α → State} {l : List α} {s : State} (hf : ∀ t x, Canonical t → Canonical (f t x))
    (h : Canonical s) : Canonical (l.foldl f s) := by
  induction l generalizing s with
  | nil => exact h
  | cons x l ih => exact ih (hf s x h)

theorem canon_cut {x : State} {p : Prop} (h : Canonical x) (k : Canonical x → p) : p := k h
theorem canon_cut1 {α : Type} {x : State × α} {p : Prop} (h : Canonical x.1) (k : Canonical x.1 → p) : p := k h

theorem canon_if {c : Prop} [Decidable c] {s t : State} (hs : Canonical s) (ht : Canonical t) : Canonical (if c then s else t) := by
  split <;> assumption

theorem canon_if1 {α : Type} {c : Prop} [Decidable c] {s t : State × α} (hs : Canonical s.1) (ht : Canonical t.1) :
    Canonical (if c then s else t).1 := by
  split <;> assumption

theorem canon_of_fst {α : Type} {r : State × α} {s : State} {x : α} (e : r = (s, x)) (h : Canonical r.1) : Canonical s := by
  subst e; exact h

theorem canon_of_opt {α : Type} {o : Option (State × α)} {s : State} {x : α} (e : o = some (s, x))
    (h : ∀ y ∈ o, Canonical y.1) : Canonical s := h (s, x) e

theorem canon_fun {α : Sort _} {x : State → α} {p : Prop} (h : p) : p := h

theorem canonM_reset {s : State} (h : Canonical s) (p : Nat × Word → Bool) :
    CanonM (s.regs.filter p) State.reset.bank State.reset.tabs State.reset.layMem State.reset.egrMem :=
  ⟨SMap.sparse_filter h.1 p, SMap.wf_nil, SMap.wf_nil, SMap.sparse_nil _, SMap.sparse_nil _⟩

theorem canonM_block {s : State} (h : Canonical s) (p q r : Nat → Bool) :
    CanonM (sdelIf s.regs p) (sdelIf s.bank q) (sdelIf s.tabs r) s.layMem s.egrMem :=
  ⟨SMap.sparse_sdelIf h.1 p, SMap.wf_sdelIf h.2.1 q, SMap.wf_sdelIf h.2.2.1 r, h.2.2.2⟩

theorem setReg_canon {x0 : State} (h : Canonical x0) (x1 : Nat) (x2 : Word) : Canonical (State.setReg x0 x1 x2) := by
  exact ⟨SMap.sparse_sput h.1 _ _, h.2⟩

theorem setRegF_canon {x0 : State} (h : Canonical x0) (x1 : Nat) (x2 : Nat) (x3 : Nat) (x4 : Nat) : Canonical (State.setRegF x0 x1 x2 x3 x4) := by
  unfold State.setRegF
  repeat' with_reducible first
      | assumption
      | apply setReg_canon

theorem setRegB_canon {x0 : State} (h : Canonical x0) (x1 : Nat) (x2 : Nat) (x3 : Bool) : Canonical (State.setRegB x0 x1 x2 x3) := by
  unfold State.setRegB
  repeat' with_reducible first
      | assumption
      | apply setRegF_canon

theorem count_canon {x0 : State} (h : Canonical x0) (x1 : Nat) (x2 : Nat) (x3 : Nat) (x4 : Nat) : Canonical (State.count x0 x1 x2 x3 x4) := by
  unfold State.count
  repeat' with_reducible first
      | assumption
      | apply setRegF_canon

theorem setBreg_canon {x0 : State} (h : Canonical x0) (x1 : Nat) (x2 : Nat) (x3 : Word) : Canonical (State.setBreg x0 x1 x2 x3) := by
  exact ⟨h.1, SMap.wf_sput h.2.1 _ _ _, h.2.2⟩

theorem setEnt_canon {x0 : State} (h : Canonical x0) (x1 : Nat) (x2 : Nat) (x3 : List Word) : Canonical (State.setEnt x0 x1 x2 x3) := by
  exact ⟨h.1, h.2.1, SMap.wf_sput h.2.2.1 _ _ _, h.2.2.2⟩

theorem setEntW_canon {x0 : State} (h : Canonical x0) (x1 : Nat) (x2 : Nat) (x3 : Nat) (x4 : Word) : Canonical (State.setEntW x0 x1 x2 x3 x4) := by
  unfold State.setEntW
  repeat' with_reducible first
      | assumption
      | apply setEnt_canon

theorem draw_canon {x0 : State} (h : Canonical x0) : Canonical (State.draw x0) := by
  unfold State.draw
  repeat' with_reducible first
      | assumption
      | simp -zeta only [canon_mk, canon_fold]

theorem abortCount_canon {x0 : State} (h : Canonical x0) (x1 : Nat) (x2 : Nat) : Canonical (abortCount x0 x1 x2) := by
  unfold abortCount
  repeat' with_reducible first
      | assumption
      | apply setRegF_canon | apply count_canon | apply canon_if

theorem setQty_canon {x0 : State} (h : Canonical x0) (x1 : Nat) (x2 : Qty) : Canonical (State.setQty x0 x1 x2) := by
  unfold State.setQty
  repeat' with_reducible first
      | assumption
      | simp -zeta only [canon_mk, canon_fold]

theorem linPush_canon {x0 : State} (h : Canonical x0) (x1 : LRec) : Canonical (linPush x0 x1) := by
  unfold linPush
  repeat' with_reducible first
      | assumption
      | simp -zeta only [canon_mk, canon_fold]

theorem alertDrive_canon {x0 : State} (h : Canonical x0) : Canonical (alertDrive x0) := by
  unfold alertDrive
  repeat' with_reducible first
      | assumption
      | apply setReg_canon | apply canon_if
      | simp -zeta only [canon_mk, canon_fold]

theorem alertRelease_canon {x0 : State} (h : Canonical x0) : Canonical (alertRelease x0) := by
  unfold alertRelease
  repeat' with_reducible first
      | assumption
      | apply alertDrive_canon | apply canon_if
      | simp -zeta only [canon_mk, canon_fold]

theorem evtTouch_canon {x0 : State} (h : Canonical x0) (x1 : Nat) : Canonical (evtTouch x0 x1) := by
  unfold evtTouch
  repeat' with_reducible first
      | assumption
      | apply alertDrive_canon | apply canon_if
      | simp -zeta only [canon_mk, canon_fold]

theorem noteFresh_canon {x0 : State} (h : Canonical x0) (x1 : Nat) (x2 : Nat) : Canonical (noteFresh x0 x1 x2) := by
  unfold noteFresh
  repeat' with_reducible first
      | assumption
      | apply canon_if | apply canon_if1
      | simp -zeta only [canon_mk, canon_fold]
      | ((first | intro x | (lift_lets -underBinder; intro x)); first
        | refine canon_cut (x := x) ?_ ?_ <;> [subst x; (intro _; clear_value x)]
        | refine canon_cut1 (x := x) ?_ ?_ <;> [subst x; (intro _; clear_value x)]
        | clear_value x)

theorem setRaw_canon {x0 : State} (h : Canonical x0) (x1 : Nat) (x2 : Bool) (x3 : Nat) : Canonical (setRaw x0 x1 x2 x3) := by
  unfold setRaw
  repeat' with_reducible first
      | assumption
      | apply evtTouch_canon | apply noteFresh_canon | apply setRegB_canon

theorem linFail_canon {x0 : State} (h : Canonical x0) (x1 : Nat) (x2 : LRec) : Canonical (linFail x0 x1 x2) := by
  unfold linFail
  repeat' with_reducible first
      | assumption
      | apply setReg_canon

theorem linRefused_canon {x0 : State} (h : Canonical x0) (x1 : LRec) : Canonical (linRefused x0 x1) := by
  unfold linRefused
  repeat' with_reducible first
      | assumption
      | apply linFail_canon | apply count_canon | apply canon_if

theorem raiseN_canon {x1 : State} (h : Canonical x1) (x0 : Nat) (x2 : Nat) (x3 : Bool) (x4 : Nat) : Canonical (raiseN x0 x1 x2 x3 x4) := by
  induction x0 generalizing x1 x2 x3 x4 with
  | zero =>
    unfold raiseN
    repeat' with_reducible first
        | assumption
        | apply setRaw_canon
  | succ k ih =>
    unfold raiseN
    repeat' with_reducible first
        | assumption
        | apply setRaw_canon | apply count_canon | apply linPush_canon | apply linRefused_canon | apply canon_if
        | apply ih
        | simp -zeta only [canon_mk, canon_fold]

theorem linSubmit_canon {x0 : State} (h : Canonical x0) (x1 : LRec) : Canonical (linSubmit x0 x1).1 := by
  unfold linSubmit
  repeat' with_reducible first
      | assumption
      | apply linPush_canon | apply raiseN_canon | apply linRefused_canon | apply canon_if | apply canon_if1

theorem raise_canon {x0 : State} (h : Canonical x0) (x1 : Nat) (x2 : Nat) : Canonical (raise x0 x1 x2) := by
  unfold raise
  repeat' with_reducible first
      | assumption
      | apply raiseN_canon

theorem raiseMac_canon {x0 : State} (h : Canonical x0) (x1 : Nat) (x2 : Nat) : Canonical (raiseMac x0 x1 x2) := by
  unfold raiseMac
  repeat' with_reducible first
      | assumption
      | apply raiseN_canon

theorem setDom_canon {x0 : State} (h : Canonical x0) (x1 : Nat) (x2 : DomRt) : Canonical (State.setDom x0 x1 x2) := by
  unfold State.setDom
  repeat' with_reducible first
      | assumption
      | simp -zeta only [canon_mk, canon_fold]

theorem commitLate_canon {x0 : State} (h : Canonical x0) (x1 : Nat) (x2 : Nat) (x3 : Nat) : Canonical (commitLate x0 x1 x2 x3) := by
  unfold commitLate
  repeat' with_reducible first
      | assumption
      | apply count_canon | apply setReg_canon | apply raise_canon | apply canon_if

theorem setLay_canon {x0 : State} (h : Canonical x0) (x1 : Nat) (x2 : LayRt) : Canonical (State.setLay x0 x1 x2) := by
  unfold State.setLay
  repeat' with_reducible first
      | assumption
      | simp -zeta only [canon_mk, canon_fold]

theorem setSlot_canon {x0 : State} (h : Canonical x0) (x1 : Nat) (x2 : Nat) (x3 : SlotRt) : Canonical (setSlot x0 x1 x2 x3) := by
  unfold setSlot
  repeat' with_reducible first
      | assumption
      | apply setLay_canon

theorem setSlotSt_canon {x0 : State} (h : Canonical x0) (x1 : Nat) (x2 : Nat) (x3 : Nat) : Canonical (setSlotSt x0 x1 x2 x3) := by
  unfold setSlotSt
  repeat' with_reducible first
      | assumption
      | apply setSlot_canon

theorem supersede_canon {x0 : State} (h : Canonical x0) (x1 : Nat) (x2 : PendSel) (x3 : Option Nat) : Canonical (supersede x0 x1 x2 x3) := by
  unfold supersede
  repeat' with_reducible first
      | assumption
      | apply setSlotSt_canon | apply raise_canon | apply setLay_canon | apply canon_if

theorem showSlot_canon {x0 : State} (h : Canonical x0) (x1 : Nat) (x2 : PendSel) (x3 : Nat) : Canonical (showSlot x0 x1 x2 x3) := by
  unfold showSlot
  repeat' with_reducible first
      | assumption
      | apply setSlotSt_canon | apply setReg_canon | apply setLay_canon | apply canon_if
      | simp -zeta only [canon_mk, canon_fold]
      | split

theorem selectSlot_canon {x0 : State} (h : Canonical x0) (x1 : Nat) (x2 : PendSel) : Canonical (selectSlot x0 x1 x2) := by
  unfold selectSlot
  repeat' with_reducible first
      | assumption
      | apply supersede_canon | apply setSlotSt_canon | apply showSlot_canon | apply setLay_canon
      | apply canon_if | apply canon_if1 | refine canon_foldl (fun _ _ _ => ?_) ?_
      | simp -zeta only [canon_mk, canon_fold]
      | split

theorem latchLayer_canon {x0 : State} (h : Canonical x0) (x1 : Nat) (x2 : Nat) (x3 : Nat) : Canonical (latchLayer x0 x1 x2 x3) := by
  unfold latchLayer
  repeat' with_reducible first
      | assumption
      | apply setLay_canon | apply supersede_canon | apply showSlot_canon | apply setSlotSt_canon
      | apply canon_if | refine canon_foldl (fun _ _ _ => ?_) ?_
      | simp -zeta only [canon_mk, canon_fold]
      | ((first | intro x | (lift_lets -underBinder; intro x)); first
        | refine canon_cut (x := x) ?_ ?_ <;> [subst x; (intro _; clear_value x)]
        | refine canon_cut1 (x := x) ?_ ?_ <;> [subst x; (intro _; clear_value x)]
        | (refine canon_fun (x := x) ?_; subst x)
        | clear_value x)
      | split

theorem setFlow_canon {x0 : State} (h : Canonical x0) (x1 : Nat) (x2 : FlowRt) : Canonical (State.setFlow x0 x1 x2) := by
  unfold State.setFlow
  repeat' with_reducible first
      | assumption
      | simp -zeta only [canon_mk, canon_fold]

theorem refresh_canon {x0 : State} (h : Canonical x0) (x1 : Nat) : Canonical (refresh x0 x1) := by
  unfold refresh
  repeat' with_reducible first
      | assumption
      | apply setFlow_canon | apply idle_canon | apply canon_if

theorem settleFlow_canon {x0 : State} (h : Canonical x0) (x1 : Nat) : Canonical (settleFlow x0 x1) := by
  unfold settleFlow
  repeat' with_reducible first
      | assumption
      | apply refresh_canon | apply setFlow_canon

theorem postFlags_canon {x0 : State} (h : Canonical x0) (x1 : Nat) (x2 : Nat) : Canonical (postFlags x0 x1 x2) := by
  unfold postFlags
  repeat' with_reducible first
      | assumption
      | apply refresh_canon | apply setFlow_canon

theorem makePosts_canon {x0 : State} (h : Canonical x0) (x1 : Item) : Canonical (makePosts x0 x1) := by
  unfold makePosts
  repeat' with_reducible first
      | assumption
      | apply postFlags_canon | refine canon_foldl (fun _ _ _ => ?_) ?_
      | split

theorem noteDrops_canon {x0 : State} (h : Canonical x0) (x1 : Drop) (x2 : List Item) : Canonical (noteDrops x0 x1 x2) := by
  unfold noteDrops
  repeat' with_reducible first
      | assumption
      | simp -zeta only [canon_mk, canon_fold]

theorem discardItems_canon {x0 : State} (h : Canonical x0) (x1 : Nat) (x2 : List Item) : Canonical (discardItems x0 x1 x2) := by
  unfold discardItems
  repeat' with_reducible first
      | assumption
      | apply noteDrops_canon | apply setFlow_canon

theorem discardGroup_canon {x0 : State} (h : Canonical x0) (x1 : Nat) : Canonical (discardGroup x0 x1) := by
  unfold discardGroup
  repeat' with_reducible first
      | assumption
      | apply setFlow_canon | apply refresh_canon | apply discardItems_canon
      | refine canon_foldl (fun _ _ _ => ?_) ?_
      | simp -zeta only [canon_mk, canon_fold]

theorem refuseGroup_canon {x0 : State} (h : Canonical x0) (x1 : Item) : Canonical (refuseGroup x0 x1) := by
  unfold refuseGroup
  repeat' with_reducible first
      | assumption
      | apply discardGroup_canon | apply setFlow_canon | apply canon_if

theorem putItem_canon {x0 : State} (h : Canonical x0) (x1 : Item) : Canonical (putItem x0 x1) := by
  unfold putItem
  repeat' with_reducible first
      | assumption
      | apply refresh_canon | apply setFlow_canon | apply canon_if
      | simp -zeta only [canon_mk, canon_fold]
      | ((first | intro x | (lift_lets -underBinder; intro x)); first
        | refine canon_cut (x := x) ?_ ?_ <;> [subst x; (intro _; clear_value x)]
        | refine canon_cut1 (x := x) ?_ ?_ <;> [subst x; (intro _; clear_value x)]
        | clear_value x)

theorem enqueueIn_canon {x0 : State} (h : Canonical x0) (x1 : Item) : Canonical (enqueueIn x0 x1).1 := by
  unfold enqueueIn
  repeat' with_reducible first
      | assumption
      | apply abortCount_canon | apply putItem_canon | apply refuseGroup_canon | apply raise_canon
      | apply count_canon | apply canon_if | apply canon_if1

theorem releaseDue_canon {x1 : State} (h : Canonical x1) (x0 : Nat) (x2 : Nat) : Canonical (releaseDue x0 x1 x2) := by
  induction x0 generalizing x1 x2 with
  | zero =>
    unfold releaseDue
    repeat' with_reducible first
        | assumption
  | succ k ih =>
    unfold releaseDue
    repeat' with_reducible first
        | assumption
        | apply refresh_canon | apply setFlow_canon | apply ih
        | simp -zeta only [canon_mk, canon_fold]
        | split

theorem tickRelease_canon {x0 : State} (h : Canonical x0) : Canonical (tickRelease x0) := by
  unfold tickRelease
  repeat' with_reducible first
      | assumption
      | apply releaseDue_canon | apply raise_canon | apply count_canon | apply canon_if
      | simp -zeta only [canon_mk, canon_fold]

theorem flushList_canon {x0 : State} (h : Canonical x0) (x1 : Nat) : Canonical (flushList x0 x1) := by
  unfold flushList
  repeat' with_reducible first
      | assumption
      | apply discardItems_canon | apply raise_canon | refine canon_foldl (fun _ _ _ => ?_) ?_
      | simp -zeta only [canon_mk, canon_fold]

theorem setPort_canon {x0 : State} (h : Canonical x0) (x1 : Nat) (x2 : PortRt) : Canonical (State.setPort x0 x1 x2) := by
  unfold State.setPort
  repeat' with_reducible first
      | assumption
      | simp -zeta only [canon_mk, canon_fold]

theorem takeCredits_canon {x0 : State} (h : Canonical x0) (x1 : Nat) (x2 : Nat) : Canonical (takeCredits x0 x1 x2) := by
  unfold takeCredits
  repeat' with_reducible first
      | assumption
      | apply setPort_canon | apply setRegF_canon

theorem returnCredits_canon {x0 : State} (h : Canonical x0) (x1 : Nat) (x2 : Nat) : Canonical (returnCredits x0 x1 x2) := by
  unfold returnCredits
  repeat' with_reducible first
      | assumption
      | apply setPort_canon

theorem noteIdle_canon {x0 : State} (h : Canonical x0) (x1 : Nat) : Canonical (noteIdle x0 x1) := by
  unfold noteIdle
  repeat' with_reducible first
      | assumption
      | apply canon_if
      | simp -zeta only [canon_mk, canon_fold]

theorem unserve_canon {x0 : State} (h : Canonical x0) (x1 : Svc) : Canonical (unserve x0 x1) := by
  unfold unserve
  repeat' with_reducible first
      | assumption
      | apply noteIdle_canon
      | simp -zeta only [canon_mk, canon_fold]
      | ((first | intro x | (lift_lets -underBinder; intro x)); first
        | refine canon_cut (x := x) ?_ ?_ <;> [subst x; (intro _; clear_value x)]
        | refine canon_cut1 (x := x) ?_ ?_ <;> [subst x; (intro _; clear_value x)]
        | clear_value x)
      | split

theorem orphanEnds_canon {x0 : State} (h : Canonical x0) (x1 : Svc) : Canonical (orphanEnds x0 x1) := by
  unfold orphanEnds
  repeat' with_reducible first
      | assumption
      | apply abortCount_canon | apply unserve_canon

theorem dropCredits_canon {x0 : State} (h : Canonical x0) (x1 : Svc) : Canonical (dropCredits x0 x1) := by
  unfold dropCredits
  repeat' with_reducible first
      | assumption
      | apply returnCredits_canon | apply canon_if
      | split

theorem groupStep_canon {x0 : State} (h : Canonical x0) (x1 : Nat) (x2 : Item) : Canonical (groupStep x0 x1 x2) := by
  unfold groupStep
  repeat' with_reducible first
      | assumption
      | apply setFlow_canon | apply canon_if

theorem completeItem_canon {x0 : State} (h : Canonical x0) (x1 : Svc) : Canonical (completeItem x0 x1) := by
  unfold completeItem
  repeat' with_reducible first
      | assumption
      | apply orphanEnds_canon | apply settleFlow_canon | apply groupStep_canon | apply makePosts_canon
      | apply unserve_canon | apply canon_if

theorem failItem_canon {x0 : State} (h : Canonical x0) (x1 : Svc) (x2 : Nat) : Canonical (failItem x0 x1 x2) := by
  unfold failItem
  repeat' with_reducible first
      | assumption
      | apply dropCredits_canon | apply noteDrops_canon | apply orphanEnds_canon | apply unserve_canon
      | apply setFlow_canon | apply setReg_canon | apply count_canon | apply raise_canon
      | apply makePosts_canon | apply discardItems_canon | apply settleFlow_canon | apply groupStep_canon
      | apply canon_if
      | simp -zeta only [canon_mk, canon_fold]
      | ((first | intro x | (lift_lets -underBinder; intro x)); first
        | refine canon_cut (x := x) ?_ ?_ <;> [subst x; (intro _; clear_value x)]
        | refine canon_cut1 (x := x) ?_ ?_ <;> [subst x; (intro _; clear_value x)]
        | clear_value x)
      | split

theorem faultItem_canon {x0 : State} (h : Canonical x0) (x1 : Svc) : Canonical (faultItem x0 x1) := by
  unfold faultItem
  repeat' with_reducible first
      | assumption
      | apply noteDrops_canon | apply orphanEnds_canon | apply dropCredits_canon | apply failItem_canon
      | apply unserve_canon | apply settleFlow_canon | apply setFlow_canon | apply canon_if

theorem expireHead_canon {x0 : State} (h : Canonical x0) (x1 : Nat) : Canonical (expireHead x0 x1) := by
  unfold expireHead
  repeat' with_reducible first
      | assumption
      | apply setFlow_canon | apply noteDrops_canon | apply makePosts_canon | apply raise_canon
      | apply settleFlow_canon | apply groupStep_canon
      | simp -zeta only [canon_mk, canon_fold]
      | split

theorem flushFlow_canon {x0 : State} (h : Canonical x0) (x1 : Nat) : Canonical (flushFlow x0 x1) := by
  unfold flushFlow
  repeat' with_reducible first
      | assumption
      | apply setFlow_canon | apply refresh_canon | apply discardItems_canon | apply idle_canon | apply canon_if
      | refine canon_foldl (fun _ _ _ => ?_) ?_
      | simp -zeta only [canon_mk, canon_fold]

theorem restartRetry_canon {x0 : State} (h : Canonical x0) (x1 : Nat) : Canonical (restartRetry x0 x1) := by
  unfold restartRetry
  repeat' with_reducible first
      | assumption
      | apply setFlow_canon
      | simp -zeta only [canon_mk, canon_fold]
      | split

theorem restartDiscard_canon {x0 : State} (h : Canonical x0) (x1 : Nat) : Canonical (restartDiscard x0 x1) := by
  unfold restartDiscard
  repeat' with_reducible first
      | assumption
      | apply setFlow_canon | apply settleFlow_canon | apply groupStep_canon | apply discardItems_canon
      | simp -zeta only [canon_mk, canon_fold]
      | split

theorem countSuppressed_canon {x0 : State} (h : Canonical x0) : Canonical (countSuppressed x0) := by
  unfold countSuppressed
  repeat' with_reducible first
      | assumption
      | apply setRegF_canon

theorem startHead_canon {x0 : State} (h : Canonical x0) (x1 : Nat) (x2 : Exec) : Canonical (startHead x0 x1 x2) := by
  unfold startHead
  repeat' with_reducible first
      | assumption
      | apply setFlow_canon | apply takeCredits_canon | apply completeItem_canon | apply countSuppressed_canon
      | apply canon_if
      | simp -zeta only [canon_mk, canon_fold]
      | split

theorem abortHead_canon {x0 : State} (h : Canonical x0) (x1 : Nat) : Canonical (abortHead x0 x1) := by
  unfold abortHead
  repeat' with_reducible first
      | assumption
      | apply startHead_canon | apply faultItem_canon | apply abortCount_canon
      | ((first | intro x | (lift_lets -underBinder; intro x)); first
        | refine canon_cut (x := x) ?_ ?_ <;> [subst x; (intro _; clear_value x)])
      | split

theorem reserve_canon {x0 : State} (h : Canonical x0) (x1 : Nat) (x2 : Nat) : Canonical (reserve x0 x1 x2) := by
  unfold reserve
  repeat' with_reducible first
      | assumption
      | apply setFlow_canon
      | simp -zeta only [canon_mk, canon_fold]
      | ((first | intro x | (lift_lets -underBinder; intro x)); first
        | refine canon_cut (x := x) ?_ ?_ <;> [subst x; (intro _; clear_value x)]
        | refine canon_cut1 (x := x) ?_ ?_ <;> [subst x; (intro _; clear_value x)]
        | clear_value x)

theorem unreserve_canon {x0 : State} (h : Canonical x0) (x1 : Nat) : Canonical (unreserve x0 x1) := by
  unfold unreserve
  repeat' with_reducible first
      | assumption
      | apply setFlow_canon | apply canon_if
      | simp -zeta only [canon_mk, canon_fold]

theorem tryFlows_canon {x1 : State} (h : Canonical x1) (x0 : List Nat) : Canonical (tryFlows x0 x1) := by
  induction x0 generalizing x1 with
  | nil =>
    unfold tryFlows
    repeat' with_reducible first
        | assumption
  | cons y ys ih =>
    unfold tryFlows
    repeat' with_reducible first
        | assumption
        | apply expireHead_canon | apply startHead_canon | apply reserve_canon | apply abortHead_canon | apply canon_if
        | apply ih
        | split

theorem expireResv_canon {x0 : State} (h : Canonical x0) : Canonical (expireResv x0) := by
  unfold expireResv
  repeat' with_reducible first
      | assumption
      | apply unreserve_canon | refine canon_foldl (fun _ _ _ => ?_) ?_

theorem expireReserved_canon {x0 : State} (h : Canonical x0) : Canonical (expireReserved x0) := by
  unfold expireReserved
  repeat' with_reducible first
      | assumption
      | apply expireHead_canon | apply unreserve_canon | apply canon_if | refine canon_foldl (fun _ _ _ => ?_) ?_
      | split

theorem dispatchSlot_canon {x0 : State} (h : Canonical x0) : Canonical (dispatchSlot x0) := by
  unfold dispatchSlot
  repeat' with_reducible first
      | assumption
      | apply expireReserved_canon | apply expireResv_canon | apply startHead_canon | apply unreserve_canon
      | apply tryFlows_canon | apply canon_if
      | simp -zeta only [canon_mk, canon_fold]
      | ((first | intro x | (lift_lets -underBinder; intro x)); first
        | refine canon_cut (x := x) ?_ ?_ <;> [subst x; (intro _; clear_value x)]
        | refine canon_cut1 (x := x) ?_ ?_ <;> [subst x; (intro _; clear_value x)]
        | clear_value x)
      | split

theorem flowWritten_canon {x0 : State} (h : Canonical x0) (x1 : Nat) : Canonical (flowWritten x0 x1) := by
  unfold flowWritten
  repeat' with_reducible first
      | assumption
      | apply refresh_canon | apply setFlow_canon

theorem htkReset_canon {x0 : State} (h : Canonical x0) : Canonical (htkReset x0) := by
  unfold htkReset
  repeat' with_reducible first
      | assumption
      | apply noteDrops_canon | apply setPort_canon | refine canon_foldl (fun _ _ _ => ?_) ?_
      | simp -zeta only [canon_mk, canon_fold]

theorem setMac_canon {x0 : State} (h : Canonical x0) (x1 : Nat) (x2 : MacRt) : Canonical (State.setMac x0 x1 x2) := by
  unfold State.setMac
  repeat' with_reducible first
      | assumption
      | simp -zeta only [canon_mk, canon_fold]

theorem setNode_canon {x0 : State} (h : Canonical x0) (x1 : Nat) (x2 : Nat) (x3 : NodeRt) : Canonical (State.setNode x0 x1 x2 x3) := by
  unfold State.setNode
  repeat' with_reducible first
      | assumption
      | apply setPort_canon

theorem setGap_canon {x0 : State} (h : Canonical x0) (x1 : Nat) (x2 : Nat) : Canonical (setGap x0 x1 x2) := by
  unfold setGap
  repeat' with_reducible first
      | assumption
      | apply setNode_canon

theorem writeNode_canon {x0 : State} (h : Canonical x0) (x1 : Nat) (x2 : Nat) (x3 : Nat) (x4 : Nat) : Canonical (writeNode x0 x1 x2 x3 x4) := by
  unfold writeNode
  repeat' with_reducible first
      | assumption
      | apply setEnt_canon

theorem recordLoss_canon {x0 : State} (h : Canonical x0) (x1 : Nat) (x2 : TxFrame) (x3 : Nat) : Canonical (recordLoss x0 x1 x2 x3) := by
  unfold recordLoss
  repeat' with_reducible first
      | assumption
      | apply setReg_canon | apply canon_if

theorem releaseCredit_canon {x0 : State} (h : Canonical x0) (x1 : Nat) (x2 : TxFrame) : Canonical (releaseCredit x0 x1 x2) := by
  unfold releaseCredit
  repeat' with_reducible first
      | assumption
      | apply returnCredits_canon | apply canon_if

theorem dropDown_canon {x0 : State} (h : Canonical x0) (x1 : Nat) (x2 : TxFrame) : Canonical (dropDown x0 x1 x2) := by
  unfold dropDown
  repeat' with_reducible first
      | assumption
      | apply raise_canon | apply count_canon | apply setGap_canon | apply releaseCredit_canon
      | apply recordLoss_canon

theorem endBackoff_canon {x0 : State} (h : Canonical x0) (x1 : Nat) : Canonical (endBackoff x0 x1) := by
  unfold endBackoff
  repeat' with_reducible first
      | assumption
      | apply setPort_canon | apply setMac_canon | apply canon_if

theorem dropQueue_canon {x0 : State} (h : Canonical x0) (x1 : Nat) : Canonical (dropQueue x0 x1) := by
  unfold dropQueue
  repeat' with_reducible first
      | assumption
      | apply endBackoff_canon | apply dropDown_canon | apply setPort_canon
      | refine canon_foldl (fun _ _ _ => ?_) ?_

theorem handFrame_canon {x0 : State} (h : Canonical x0) (x1 : Nat) (x2 : TxFrame) : Canonical (handFrame x0 x1 x2) := by
  unfold handFrame
  repeat' with_reducible first
      | assumption
      | apply setPort_canon | apply dropDown_canon | apply canon_if

theorem muteItem_canon {x0 : State} (h : Canonical x0) (x1 : Nat) (x2 : Svc) : Canonical (muteItem x0 x1 x2) := by
  unfold muteItem
  repeat' with_reducible first
      | assumption
      | apply completeItem_canon | apply countSuppressed_canon | apply returnCredits_canon | apply canon_if

theorem pushHandoff_canon {x0 : State} (h : Canonical x0) (x1 : Nat) : Canonical (pushHandoff x0 x1) := by
  unfold pushHandoff
  repeat' with_reducible first
      | assumption
      | apply muteItem_canon | apply handFrame_canon | apply completeItem_canon | apply returnCredits_canon
      | apply canon_if | refine canon_foldl (fun _ _ _ => ?_) ?_
      | split

theorem nodePoll_canon {x0 : State} (h : Canonical x0) (x1 : Nat) : Canonical (nodePoll x0 x1) := by
  unfold nodePoll
  repeat' with_reducible first
      | assumption
      | apply muteItem_canon | apply failItem_canon | apply completeItem_canon | apply handFrame_canon
      | apply canon_if
      | split

theorem deadlineStep_canon {x0 : State} (h : Canonical x0) (x1 : Nat) (x2 : TxFrame) : Canonical (deadlineStep x0 x1 x2).1 := by
  unfold deadlineStep
  repeat' with_reducible first
      | assumption
      | apply raise_canon | apply recordLoss_canon | apply count_canon | apply setGap_canon
      | apply releaseCredit_canon | apply canon_if | apply canon_if1
      | simp -zeta only [canon_mk, canon_fold]
      | split

theorem orderStep_canon {x0 : State} (h : Canonical x0) (x1 : Nat) (x2 : TxFrame) : Canonical (orderStep x0 x1 x2).1 := by
  unfold orderStep
  repeat' with_reducible first
      | assumption
      | apply setGap_canon | apply releaseCredit_canon | apply raise_canon | apply count_canon | apply canon_if
      | apply canon_if1

theorem checkFrame_canon {x0 : State} (h : Canonical x0) (x1 : Nat) (x2 : TxFrame) : Canonical (checkFrame x0 x1 x2).1 := by
  unfold checkFrame
  repeat' with_reducible first
      | assumption
      | apply deadlineStep_canon | apply orderStep_canon
      | split | refine canon_of_fst ‹_› ?_

theorem beginFrame_canon {x0 : State} (h : Canonical x0) (x1 : Nat) (x2 : TxFrame) (x3 : Bool) : Canonical (beginFrame x0 x1 x2 x3) := by
  unfold beginFrame
  repeat' with_reducible first
      | assumption
      | apply setNode_canon | apply setPort_canon | apply count_canon | apply setMac_canon
      | apply canon_if

theorem startFrame_canon {x0 : State} (h : Canonical x0) (x1 : Nat) : Canonical (startFrame x0 x1) := by
  unfold startFrame
  repeat' with_reducible first
      | assumption
      | apply setPort_canon | apply checkFrame_canon | apply dropDown_canon | apply abortCount_canon
      | apply setMac_canon | apply beginFrame_canon | apply canon_if
      | simp -zeta only [canon_mk, canon_fold]
      | ((first | intro x | (lift_lets -underBinder; intro x)); first
        | refine canon_cut (x := x) ?_ ?_ <;> [subst x; (intro _; clear_value x)]
        | refine canon_cut1 (x := x) ?_ ?_ <;> [subst x; (intro _; clear_value x)]
        | clear_value x)
      | split | refine canon_of_fst ‹_› ?_

theorem frameLeft_canon {x0 : State} (h : Canonical x0) (x1 : Nat) (x2 : TxFrame) : Canonical (frameLeft x0 x1 x2) := by
  unfold frameLeft
  repeat' with_reducible first
      | assumption
      | apply releaseCredit_canon | apply setPort_canon | apply canon_if

theorem sendAssign_canon {x0 : State} (h : Canonical x0) (x1 : Nat) (x2 : Nat) (x3 : Nat) : Canonical (sendAssign x0 x1 x2 x3) := by
  unfold sendAssign
  repeat' with_reducible first
      | assumption
      | apply handFrame_canon

theorem nodePresent_canon {x0 : State} (h : Canonical x0) (x1 : Nat) (x2 : Nat) : Canonical (nodePresent x0 x1 x2) := by
  unfold nodePresent
  repeat' with_reducible first
      | assumption
      | apply setNode_canon

theorem handleSerial_canon {x0 : State} (h : Canonical x0) (x1 : Nat) (x2 : Nat) (x3 : Nat) (x4 : Nat) : Canonical (handleSerial x0 x1 x2 x3 x4) := by
  unfold handleSerial
  repeat' with_reducible first
      | assumption
      | apply sendAssign_canon | apply writeNode_canon | apply nodePresent_canon | apply raise_canon
      | apply count_canon | apply canon_if
      | split

theorem enumRep_canon {x0 : State} (h : Canonical x0) (x1 : Nat) (x2 : Nat) (x3 : Nat) (x4 : Nat) : Canonical (enumRep x0 x1 x2 x3 x4) := by
  unfold enumRep
  repeat' with_reducible first
      | assumption
      | apply handleSerial_canon | apply canon_if

theorem assignAck_canon {x0 : State} (h : Canonical x0) (x1 : Nat) (x2 : Nat) (x3 : Nat) : Canonical (assignAck x0 x1 x2 x3) := by
  unfold assignAck
  repeat' with_reducible first
      | assumption
      | apply setPort_canon | apply canon_if

theorem assignTimeout_canon {x0 : State} (h : Canonical x0) (x1 : Nat) : Canonical (assignTimeout x0 x1) := by
  unfold assignTimeout
  repeat' with_reducible first
      | assumption
      | apply count_canon | apply setPort_canon
      | simp -zeta only [canon_mk, canon_fold]
      | split

theorem enumDone_canon {x0 : State} (h : Canonical x0) (x1 : Nat) : Canonical (enumDone x0 x1) := by
  unfold enumDone
  repeat' with_reducible first
      | assumption
      | apply raise_canon | apply setPort_canon
      | simp -zeta only [canon_mk, canon_fold]
      | split

theorem pollRep_canon {x0 : State} (h : Canonical x0) (x1 : Nat) (x2 : Nat) (x3 : Nat) (x4 : Nat) (x5 : Nat) (x6 : Nat) (x7 : Nat) (x8 : Nat) (x9 : Nat) : Canonical (pollRep x0 x1 x2 x3 x4 x5 x6 x7 x8 x9) := by
  unfold pollRep
  repeat' with_reducible first
      | assumption
      | apply handleSerial_canon | apply setPort_canon | apply setNode_canon | apply canon_if
      | simp -zeta only [canon_mk, canon_fold]
      | split

theorem pollTimeout_canon {x0 : State} (h : Canonical x0) (x1 : Nat) : Canonical (pollTimeout x0 x1) := by
  unfold pollTimeout
  repeat' with_reducible first
      | assumption
      | apply count_canon | apply setPort_canon | apply raise_canon | apply setNode_canon
      | apply canon_if
      | simp -zeta only [canon_mk, canon_fold]
      | split

theorem pushMissed_canon {x0 : State} (h : Canonical x0) (x1 : Item) : Canonical (pushMissed x0 x1) := by
  unfold pushMissed
  repeat' with_reducible first
      | assumption
      | apply raise_canon | apply count_canon | apply recordLoss_canon | apply canon_if

theorem pushExpired_canon {x0 : State} (h : Canonical x0) (x1 : Item) : Canonical (pushExpired x0 x1) := by
  unfold pushExpired
  repeat' with_reducible first
      | assumption
      | apply setGap_canon | apply pushMissed_canon | apply canon_if

theorem dropNoSa_canon {x0 : State} (h : Canonical x0) (x1 : Nat) : Canonical (dropNoSa x0 x1) := by
  unfold dropNoSa
  repeat' with_reducible first
      | assumption
      | apply raiseMac_canon | apply count_canon

theorem macSendPtp_canon {x0 : State} (h : Canonical x0) (x1 : Nat) (x2 : Nat) (x3 : List Byte) (x4 : Option (Nat × Nat)) : Canonical (macSendPtp x0 x1 x2 x3 x4) := by
  unfold macSendPtp
  repeat' with_reducible first
      | assumption
      | apply dropNoSa_canon | apply count_canon | apply setMac_canon | apply canon_if

theorem macSend_canon {x0 : State} (h : Canonical x0) (x1 : Nat) (x2 : Nat) (x3 : List Byte) : Canonical (macSend x0 x1 x2 x3) := by
  unfold macSend
  repeat' with_reducible first
      | assumption
      | apply macSendPtp_canon

theorem beginMacFrame_canon {x0 : State} (h : Canonical x0) (x1 : Nat) (x2 : MacFrame) : Canonical (beginMacFrame x0 x1 x2) := by
  unfold beginMacFrame
  repeat' with_reducible first
      | assumption
      | apply dropNoSa_canon | apply setMac_canon | apply canon_if

theorem frameTxStart_canon {x0 : State} (h : Canonical x0) (x1 : Nat) (x2 : Medium) : Canonical (frameTxStart x0 x1 x2) := by
  unfold frameTxStart
  repeat' with_reducible first
      | assumption
      | apply beginMacFrame_canon | apply startFrame_canon | apply canon_if
      | split

theorem holdFrom_canon {x0 : State} (h : Canonical x0) (x1 : Nat) (x2 : Nat) : Canonical (holdFrom x0 x1 x2) := by
  unfold holdFrom
  repeat' with_reducible first
      | assumption
      | apply setMac_canon | apply canon_if
      | simp -zeta only [canon_mk, canon_fold]
      | ((first | intro x | (lift_lets -underBinder; intro x)); first
        | refine canon_cut (x := x) ?_ ?_ <;> [subst x; (intro _; clear_value x)]
        | refine canon_cut1 (x := x) ?_ ?_ <;> [subst x; (intro _; clear_value x)]
        | clear_value x)
      | split

theorem pauseReceive_canon {x0 : State} (h : Canonical x0) (x1 : Nat) (x2 : Nat) : Canonical (pauseReceive x0 x1 x2) := by
  unfold pauseReceive
  repeat' with_reducible first
      | assumption
      | apply count_canon | apply setMac_canon | apply holdFrom_canon | apply canon_if

theorem pauseHoldEnd_canon {x0 : State} (h : Canonical x0) (x1 : Nat) : Canonical (pauseHoldEnd x0 x1) := by
  unfold pauseHoldEnd
  repeat' with_reducible first
      | assumption
      | apply setMac_canon

theorem pauseLong_canon {x0 : State} (h : Canonical x0) (x1 : Nat) : Canonical (pauseLong x0 x1) := by
  unfold pauseLong
  repeat' with_reducible first
      | assumption
      | apply raiseMac_canon | apply setMac_canon | apply canon_if
      | simp -zeta only [canon_mk, canon_fold]
      | ((first | intro x | (lift_lets -underBinder; intro x)); first
        | refine canon_cut (x := x) ?_ ?_ <;> [subst x; (intro _; clear_value x)]
        | refine canon_cut1 (x := x) ?_ ?_ <;> [subst x; (intro _; clear_value x)]
        | clear_value x)
      | split

theorem pauseSend_canon {x0 : State} (h : Canonical x0) (x1 : Nat) (x2 : Nat) : Canonical (pauseSend x0 x1 x2) := by
  unfold pauseSend
  repeat' with_reducible first
      | assumption
      | apply setMac_canon | apply macSend_canon | apply canon_if

theorem pauseCheck_canon {x0 : State} (h : Canonical x0) (x1 : Nat) : Canonical (pauseCheck x0 x1) := by
  unfold pauseCheck
  repeat' with_reducible first
      | assumption
      | apply pauseSend_canon | apply setMac_canon | apply canon_if

theorem pauseRepeat_canon {x0 : State} (h : Canonical x0) (x1 : Nat) : Canonical (pauseRepeat x0 x1) := by
  unfold pauseRepeat
  repeat' with_reducible first
      | assumption
      | apply pauseSend_canon | apply canon_if

theorem frameTxEnd_canon {x0 : State} (h : Canonical x0) (x1 : Nat) : Canonical (frameTxEnd x0 x1) := by
  unfold frameTxEnd
  repeat' with_reducible first
      | assumption
      | apply count_canon | apply setMac_canon | apply frameLeft_canon | apply setPort_canon
      | apply holdFrom_canon | apply canon_if
      | simp -zeta only [canon_mk, canon_fold]
      | ((first | intro x | (lift_lets -underBinder; intro x)); first
        | refine canon_cut (x := x) ?_ ?_ <;> [subst x; (intro _; clear_value x)])
      | split

theorem dropInHand_canon {x0 : State} (h : Canonical x0) (x1 : Nat) : Canonical (dropInHand x0 x1) := by
  unfold dropInHand
  repeat' with_reducible first
      | assumption
      | apply setMac_canon | apply releaseCredit_canon | apply setPort_canon | apply setGap_canon
      | apply canon_if
      | simp -zeta only [canon_mk, canon_fold]
      | ((first | intro x | (lift_lets -underBinder; intro x)); first
        | refine canon_cut (x := x) ?_ ?_ <;> [subst x; (intro _; clear_value x)]
        | refine canon_cut1 (x := x) ?_ ?_ <;> [subst x; (intro _; clear_value x)]
        | clear_value x)
      | split

theorem busCollision_canon {x0 : State} (h : Canonical x0) (x1 : Nat) : Canonical (busCollision x0 x1) := by
  unfold busCollision
  repeat' with_reducible first
      | assumption
      | apply count_canon | apply raiseMac_canon | apply dropInHand_canon | apply draw_canon
      | apply setMac_canon | apply canon_if

theorem lateCollision_canon {x0 : State} (h : Canonical x0) (x1 : Nat) : Canonical (lateCollision x0 x1) := by
  unfold lateCollision
  repeat' with_reducible first
      | assumption
      | apply raiseMac_canon | apply count_canon | apply dropInHand_canon | apply canon_if

theorem busBackoffEnd_canon {x0 : State} (h : Canonical x0) (x1 : Nat) (x2 : Medium) : Canonical (busBackoffEnd x0 x1 x2) := by
  unfold busBackoffEnd
  repeat' with_reducible first
      | assumption
      | apply setMac_canon | apply checkFrame_canon | apply setPort_canon | apply beginFrame_canon
      | apply canon_if
      | simp -zeta only [canon_mk, canon_fold]
      | ((first | intro x | (lift_lets -underBinder; intro x)); first
        | refine canon_cut (x := x) ?_ ?_ <;> [subst x; (intro _; clear_value x)]
        | refine canon_cut1 (x := x) ?_ ?_ <;> [subst x; (intro _; clear_value x)]
        | clear_value x)
      | split | refine canon_of_fst ‹_› ?_

theorem linkComesUp_canon {x0 : State} (h : Canonical x0) (x1 : Nat) : Canonical (linkComesUp x0 x1) := by
  unfold linkComesUp
  repeat' with_reducible first
      | assumption
      | apply setMac_canon | apply raiseMac_canon | apply canon_if

theorem macDropAll_canon {x0 : State} (h : Canonical x0) (x1 : Nat) : Canonical (macDropAll x0 x1) := by
  unfold macDropAll
  repeat' with_reducible first
      | assumption
      | apply dropInHand_canon | apply count_canon | apply setMac_canon | apply dropQueue_canon
      | apply canon_if
      | simp -zeta only [canon_mk, canon_fold]
      | ((first | intro x | (lift_lets -underBinder; intro x)); first
        | refine canon_cut (x := x) ?_ ?_ <;> [subst x; (intro _; clear_value x)]
        | refine canon_cut1 (x := x) ?_ ?_ <;> [subst x; (intro _; clear_value x)]
        | clear_value x)
      | split

theorem linkGoesDown_canon {x0 : State} (h : Canonical x0) (x1 : Nat) : Canonical (linkGoesDown x0 x1) := by
  unfold linkGoesDown
  repeat' with_reducible first
      | assumption
      | apply macDropAll_canon | apply setMac_canon | apply raiseMac_canon | apply canon_if

theorem sfpStore_canon {x0 : State} (h : Canonical x0) (x1 : Nat) (x2 : Nat) (x3 : List Byte) : Canonical (sfpStore x0 x1 x2 x3) := by
  unfold sfpStore
  repeat' with_reducible first
      | assumption
      | apply setEnt_canon | refine canon_foldl (fun _ _ _ => ?_) ?_

theorem sfpInsert_canon {x0 : State} (h : Canonical x0) (x1 : Nat) (x2 : List Byte) (x3 : List Byte) : Canonical (sfpInsert x0 x1 x2 x3) := by
  unfold sfpInsert
  repeat' with_reducible first
      | assumption
      | apply sfpStore_canon | apply setMac_canon | apply raiseMac_canon | apply canon_if

theorem sfpRemove_canon {x0 : State} (h : Canonical x0) (x1 : Nat) : Canonical (sfpRemove x0 x1) := by
  unfold sfpRemove
  repeat' with_reducible first
      | assumption
      | apply setMac_canon | apply sfpStore_canon | apply raiseMac_canon | apply setRegB_canon
      | apply txFault_canon | apply canon_if

theorem sfpDiag_canon {x0 : State} (h : Canonical x0) (x1 : Nat) (x2 : List Byte) : Canonical (sfpDiag x0 x1 x2) := by
  unfold sfpDiag
  repeat' with_reducible first
      | assumption
      | apply sfpStore_canon | apply canon_if

theorem txFault_canon {x0 : State} (h : Canonical x0) (x1 : Nat) (x2 : Bool) (x3 : Bool) : Canonical (txFault x0 x1 x2 x3) := by
  unfold txFault
  repeat' with_reducible first
      | assumption
      | apply setMac_canon | apply raiseMac_canon | apply canon_if

theorem macClrCnt_canon {x0 : State} (h : Canonical x0) (x1 : Nat) : Canonical (macClrCnt x0 x1) := by
  unfold macClrCnt
  repeat' with_reducible first
      | assumption
      | apply setReg_canon | apply setMac_canon | refine canon_foldl (fun _ _ _ => ?_) ?_

theorem removeSas_canon {x0 : State} (h : Canonical x0) (x1 : Nat) : Canonical (removeSas x0 x1) := by
  unfold removeSas
  repeat' with_reducible first
      | assumption
      | apply setMac_canon

theorem secAccept_canon {x0 : State} (h : Canonical x0) (x1 : Nat) (x2 : Option (Nat × Bool × Nat × Nat × Bool)) : Canonical (secAccept x0 x1 x2) := by
  unfold secAccept
  repeat' with_reducible first
      | assumption
      | apply setMac_canon
      | simp -zeta only [canon_mk, canon_fold]
      | split

theorem layFold_wf {m : SMap Byte} (h : Memory.wf m) (o : Nat) (bs : List Byte) :
    Memory.wf (bs.foldl (fun (a : SMap Byte × Nat) b => (sput a.1 a.2 b 0#8, a.2 + 1)) (m, o)).1 := by
  induction bs generalizing m o with
  | nil => exact h
  | cons b bs ih => exact ih (SMap.sparse_sput h o b) (o + 1)

theorem layWrite_canon {x0 : State} (h : Canonical x0) (x1 : Nat) (x2 : List Byte) : Canonical (layWrite x0 x1 x2) := by
  unfold layWrite
  refine ⟨h.1, h.2.1, h.2.2.1, ?_, h.2.2.2.2⟩
  exact layFold_wf h.2.2.2.1 _ _

theorem writeRows_canon {x0 : State} (h : Canonical x0) (x1 : List BytesAt) : Canonical (writeRows x0 x1) := by
  unfold writeRows
  repeat' with_reducible first
      | assumption
      | apply layWrite_canon | refine canon_foldl (fun _ _ _ => ?_) ?_

theorem poolTake_canon {x0 : State} (h : Canonical x0) (x1 : Nat) (x2 : Nat) : ∀ y ∈ (poolTake x0 x1 x2), Canonical y.1 := by
  unfold poolTake
  simp only []
  split
  · intro y hy; simp at hy
  · intro y hy
    simp only [Option.mem_def, Option.some.injEq] at hy
    subst hy
    have hc : ∀ g, Canonical { x0 with ing := g } := fun _ => h
    exact pauseCheck_canon (setRegF_canon (hc _) _ _ _ _) _

theorem noBuf_canon {x0 : State} (h : Canonical x0) (x1 : Nat) : Canonical (noBuf x0 x1) := by
  unfold noBuf
  repeat' with_reducible first
      | assumption
      | apply raise_canon | apply count_canon | apply pauseCheck_canon | apply setRegF_canon
      | apply canon_if
      | simp -zeta only [canon_mk, canon_fold]

theorem poolRelease_canon {x0 : State} (h : Canonical x0) (x1 : Nat) (x2 : Nat) : Canonical (poolRelease x0 x1 x2) := by
  unfold poolRelease
  repeat' with_reducible first
      | assumption
      | apply pauseCheck_canon | apply canon_if
      | simp -zeta only [canon_mk, canon_fold]

theorem countIncomplete_canon {x0 : State} (h : Canonical x0) (x1 : Nat) : Canonical (countIncomplete x0 x1) := by
  unfold countIncomplete
  repeat' with_reducible first
      | assumption
      | apply raise_canon | apply setLay_canon

theorem autoLate_canon {x0 : State} (h : Canonical x0) (x1 : Nat) : Canonical (autoLate x0 x1) := by
  unfold autoLate
  repeat' with_reducible first
      | assumption
      | apply raise_canon | apply setLay_canon

theorem commitNow_canon {x0 : State} (h : Canonical x0) (x1 : Nat) (x2 : Nat) (x3 : Nat) (x4 : Bool) : Canonical (commitNow x0 x1 x2 x3 x4) := by
  unfold commitNow
  repeat' with_reducible first
      | assumption
      | apply commitLate_canon | apply autoLate_canon | apply selectSlot_canon | apply canon_if

theorem commitMedia_canon {x0 : State} (h : Canonical x0) (x1 : Nat) (x2 : Nat) (x3 : Nat) (x4 : Bool) (x5 : Int) (x6 : Nat) : Canonical (commitMedia x0 x1 x2 x3 x4 x5 x6) := by
  unfold commitMedia
  repeat' with_reducible first
      | assumption
      | apply selectSlot_canon | apply commitLate_canon | apply autoLate_canon | apply canon_if

theorem finishFrame_canon {x0 : State} (h : Canonical x0) (x1 : Nat) (x2 : Nat) (x3 : Nat) (x4 : Bool) (x5 : Option (Int × Nat)) : Canonical (finishFrame x0 x1 x2 x3 x4 x5) := by
  unfold finishFrame
  repeat' with_reducible first
      | assumption
      | apply countIncomplete_canon | apply setSlot_canon | apply commitMedia_canon | apply commitNow_canon
      | apply canon_if
      | simp -zeta only [canon_mk, canon_fold]
      | ((first | intro x | (lift_lets -underBinder; intro x)); first
        | refine canon_cut (x := x) ?_ ?_ <;> [subst x; (intro _; clear_value x)]
        | refine canon_cut1 (x := x) ?_ ?_ <;> [subst x; (intro _; clear_value x)]
        | clear_value x)
      | split

theorem finishVideo_canon {x0 : State} (h : Canonical x0) (x1 : Nat) (x2 : Nat) (x3 : Nat) (x4 : Int) : Canonical (finishVideo x0 x1 x2 x3 x4) := by
  unfold finishVideo
  repeat' with_reducible first
      | assumption
      | apply setRegF_canon | apply finishFrame_canon | apply canon_if
      | ((first | intro x | (lift_lets -underBinder; intro x)); first
        | refine canon_cut (x := x) ?_ ?_ <;> [subst x; (intro _; clear_value x)]
        | refine canon_cut1 (x := x) ?_ ?_ <;> [subst x; (intro _; clear_value x)]
        | clear_value x)
      | split

theorem finishCommit_canon {x0 : State} (h : Canonical x0) (x1 : Nat) (x2 : Nat) (x3 : Nat) (x4 : Nat) (x5 : Nat) : Canonical (finishCommit x0 x1 x2 x3 x4 x5) := by
  unfold finishCommit
  repeat' with_reducible first
      | assumption
      | apply finishFrame_canon | apply canon_if
      | simp -zeta only [canon_mk, canon_fold]

theorem dropCarried_canon {x0 : State} (h : Canonical x0) (x1 : Nat) (x2 : Nat) (x3 : Nat) (x4 : Nat) : Canonical (dropCarried x0 x1 x2 x3 x4) := by
  unfold dropCarried
  repeat' with_reducible first
      | assumption
      | apply poolRelease_canon | refine canon_foldl (fun _ _ _ => ?_) ?_
      | simp -zeta only [canon_mk, canon_fold]
      | ((first | intro x | (lift_lets -underBinder; intro x)); first
        | refine canon_cut (x := x) ?_ ?_ <;> [subst x; (intro _; clear_value x)]
        | refine canon_cut1 (x := x) ?_ ?_ <;> [subst x; (intro _; clear_value x)]
        | clear_value x)
      | split

theorem lostFrames_canon {x0 : State} (h : Canonical x0) (x1 : Nat) (x2 : Nat) (x3 : List Carried) : Canonical (lostFrames x0 x1 x2 x3) := by
  unfold lostFrames
  repeat' with_reducible first
      | assumption
      | apply setSlot_canon | apply finishVideo_canon | refine canon_foldl (fun _ _ _ => ?_) ?_
      | simp -zeta only [canon_mk, canon_fold]
      | ((first | intro x | (lift_lets -underBinder; intro x)); first
        | refine canon_cut (x := x) ?_ ?_ <;> [subst x; (intro _; clear_value x)]
        | refine canon_cut1 (x := x) ?_ ?_ <;> [subst x; (intro _; clear_value x)]
        | clear_value x)
      | split

theorem closeItem_canon {x0 : State} (h : Canonical x0) (x1 : OpenItem) (x2 : Nat) : Canonical (closeItem x0 x1 x2) := by
  unfold closeItem
  repeat' with_reducible first
      | assumption
      | apply enqueueIn_canon | apply dropCarried_canon | apply lostFrames_canon | apply raise_canon
      | apply count_canon
      | simp -zeta only [canon_mk, canon_fold]
      | ((first | intro x | (lift_lets -underBinder; intro x)); first
        | refine canon_cut (x := x) ?_ ?_ <;> [subst x; (intro _; clear_value x)]
        | refine canon_cut1 (x := x) ?_ ?_ <;> [subst x; (intro _; clear_value x)]
        | clear_value x)
      | split | refine canon_of_fst ‹_› ?_

theorem closeItems_canon {x0 : State} (h : Canonical x0) (x1 : Nat) (x2 : OpenItem → Bool) : Canonical (closeItems x0 x1 x2) := by
  unfold closeItems
  repeat' with_reducible first
      | assumption
      | apply closeItem_canon | refine canon_foldl (fun _ _ _ => ?_) ?_

theorem closeLast_canon {x0 : State} (h : Canonical x0) (x1 : OpenItem) : Canonical (closeLast x0 x1) := by
  unfold closeLast
  repeat' with_reducible first
      | assumption
      | apply closeItem_canon | apply closeItems_canon

theorem carryFrame_canon {x0 : State} (h : Canonical x0) (x1 : Nat) (x2 : Nat) (x3 : Nat) (x4 : Carried) (x5 : Bool) : Canonical (carryFrame x0 x1 x2 x3 x4 x5) := by
  unfold carryFrame
  repeat' with_reducible first
      | assumption
      | apply closeItems_canon | apply closeLast_canon | apply count_canon | apply canon_if
      | simp -zeta only [canon_mk, canon_fold]
      | ((first | intro x | (lift_lets -underBinder; intro x)); first
        | refine canon_cut (x := x) ?_ ?_ <;> [subst x; (intro _; clear_value x)]
        | refine canon_cut1 (x := x) ?_ ?_ <;> [subst x; (intro _; clear_value x)]
        | clear_value x)
      | split

theorem ingestItemClose_canon {x0 : State} (h : Canonical x0) (x1 : Nat) (x2 : Nat) : Canonical (ingestItemClose x0 x1 x2) := by
  unfold ingestItemClose
  repeat' with_reducible first
      | assumption
      | apply closeLast_canon | apply canon_if
      | split

theorem perferRegion_canon {x0 : State} (h : Canonical x0) (x1 : Nat) (x2 : Nat) (x3 : List Byte) : Canonical (perferRegion x0 x1 x2 x3) := by
  unfold perferRegion
  repeat' with_reducible first
      | assumption
      | apply count_canon | apply poolTake_canon | apply noBuf_canon | apply setSlotSt_canon
      | apply carryFrame_canon | apply canon_if
      | split | refine canon_of_fst ‹_› ?_ | refine canon_of_opt ‹_› ?_

theorem perferCommit_canon {x0 : State} (h : Canonical x0) (x1 : Nat) (x2 : Nat) (x3 : List Byte) : Canonical (perferCommit x0 x1 x2 x3) := by
  unfold perferCommit
  repeat' with_reducible first
      | assumption
      | apply count_canon | apply poolTake_canon | apply noBuf_canon | apply carryFrame_canon | apply canon_if
      | split | refine canon_of_fst ‹_› ?_ | refine canon_of_opt ‹_› ?_

theorem setStream_canon {x0 : State} (h : Canonical x0) (x1 : Nat) (x2 : StreamRt) : Canonical (State.setStream x0 x1 x2) := by
  unfold State.setStream
  repeat' with_reducible first
      | assumption
      | simp -zeta only [canon_mk, canon_fold]

theorem endFrame_canon {x0 : State} (h : Canonical x0) (x1 : Nat) : Canonical (endFrame x0 x1) := by
  unfold endFrame
  repeat' with_reducible first
      | assumption
      | apply setStream_canon | apply setSlot_canon | apply closeLast_canon | apply closeItem_canon
      | simp -zeta only [canon_mk, canon_fold]
      | ((first | intro x | (lift_lets -underBinder; intro x)); first
        | refine canon_cut (x := x) ?_ ?_ <;> [subst x; (intro _; clear_value x)]
        | refine canon_cut1 (x := x) ?_ ?_ <;> [subst x; (intro _; clear_value x)]
        | clear_value x)
      | split

theorem seqArrive_canon {x0 : State} (h : Canonical x0) (x1 : Nat) (x2 : Nat) (x3 : VFrame) : Canonical (seqArrive x0 x1 x2 x3) := by
  unfold seqArrive
  repeat' with_reducible first
      | assumption
      | apply count_canon | apply setSlot_canon | apply setStream_canon | apply canon_if

theorem videoWrite_canon {x0 : State} (h : Canonical x0) (x1 : Nat) (x2 : Nat) (x3 : Nat) (x4 : Nat) (x5 : Bool) (x6 : List Srd) : Canonical (videoWrite x0 x1 x2 x3 x4 x5 x6) := by
  unfold videoWrite
  repeat' with_reducible first
      | assumption
      | apply seqArrive_canon | apply poolTake_canon | apply setSlot_canon | apply noBuf_canon
      | apply carryFrame_canon | apply setStream_canon | apply canon_if
      | simp -zeta only [canon_mk, canon_fold]
      | ((first | intro x | (lift_lets -underBinder; intro x)); first
        | refine canon_cut (x := x) ?_ ?_ <;> [subst x; (intro _; clear_value x)]
        | refine canon_cut1 (x := x) ?_ ?_ <;> [subst x; (intro _; clear_value x)]
        | clear_value x)
      | split | refine canon_of_fst ‹_› ?_ | refine canon_of_opt ‹_› ?_

theorem videoDrop_canon {x0 : State} (h : Canonical x0) (x1 : Nat) (x2 : Nat) : Canonical (videoDrop x0 x1 x2) := by
  unfold videoDrop
  repeat' with_reducible first
      | assumption
      | apply poolTake_canon | apply noBuf_canon | apply poolRelease_canon
      | split | refine canon_of_fst ‹_› ?_ | refine canon_of_opt ‹_› ?_

theorem streamLost_canon {x0 : State} (h : Canonical x0) (x1 : Nat) (x2 : Nat) (x3 : Nat) (x4 : Nat) : Canonical (streamLost x0 x1 x2 x3 x4) := by
  unfold streamLost
  repeat' with_reducible first
      | assumption
      | apply seqArrive_canon | apply setSlot_canon | apply endFrame_canon | apply setStream_canon
      | apply noBuf_canon | apply canon_if
      | simp -zeta only [canon_mk, canon_fold]
      | split

theorem st2110Packet_canon {x0 : State} (h : Canonical x0) (x1 : Nat) (x2 : Nat) (x3 : Nat) (x4 : Nat) (x5 : Nat) (x6 : Bool) (x7 : List Srd) : Canonical (st2110Packet x0 x1 x2 x3 x4 x5 x6 x7) := by
  unfold st2110Packet
  repeat' with_reducible first
      | assumption
      | apply count_canon | apply setStream_canon | apply videoWrite_canon | apply videoDrop_canon
      | apply endFrame_canon | apply streamLost_canon | apply noBuf_canon | apply raise_canon
      | apply setLay_canon | apply setSlot_canon | apply canon_if
      | simp -zeta only [canon_mk, canon_fold]
      | split

theorem streamLoss_canon {x0 : State} (h : Canonical x0) (x1 : Nat) : Canonical (streamLoss x0 x1) := by
  unfold streamLoss
  repeat' with_reducible first
      | assumption
      | apply raise_canon | apply setStream_canon | apply endFrame_canon | apply canon_if

theorem streamOff_canon {x0 : State} (h : Canonical x0) (x1 : Nat) : Canonical (streamOff x0 x1) := by
  unfold streamOff
  repeat' with_reducible first
      | assumption
      | apply setStream_canon | apply endFrame_canon

theorem univStore_canon {x0 : State} (h : Canonical x0) (x1 : Nat) (x2 : List Byte) : Canonical (univStore x0 x1 x2) := by
  unfold univStore
  repeat' with_reducible first
      | assumption
      | apply setLay_canon | apply canon_if
      | simp -zeta only [canon_mk, canon_fold]

theorem setUnivSrcs_canon {x0 : State} (h : Canonical x0) (x1 : Nat) (x2 : UnivSrcs) : Canonical (setUnivSrcs x0 x1 x2) := by
  unfold setUnivSrcs
  repeat' with_reducible first
      | assumption
      | simp -zeta only [canon_mk, canon_fold]

theorem loseSources_canon {x0 : State} (h : Canonical x0) (x1 : Nat) (x2 : UnivSrc → Bool) : Canonical (loseSources x0 x1 x2) := by
  unfold loseSources
  repeat' with_reducible first
      | assumption
      | apply setUnivSrcs_canon | apply raise_canon | apply canon_if

theorem e131SourceTimeout_canon {x0 : State} (h : Canonical x0) (x1 : Nat) : Canonical (e131SourceTimeout x0 x1) := by
  unfold e131SourceTimeout
  repeat' with_reducible first
      | assumption
      | apply loseSources_canon

theorem e131Data_canon {x0 : State} (h : Canonical x0) (x1 : Nat) (x2 : Nat) (x3 : Option Nat) (x4 : Nat) (x5 : Nat) (x6 : Nat) (x7 : Nat) (x8 : Bool) (x9 : Bool) (x10 : Nat) (x11 : List Byte) : Canonical (e131Data x0 x1 x2 x3 x4 x5 x6 x7 x8 x9 x10 x11) := by
  unfold e131Data
  repeat' with_reducible first
      | assumption
      | apply e131SourceTimeout_canon | apply count_canon | apply poolTake_canon | apply noBuf_canon
      | apply poolRelease_canon | apply setUnivSrcs_canon | apply loseSources_canon | apply univStore_canon
      | apply canon_if | refine canon_foldl (fun _ _ _ => ?_) ?_
      | simp -zeta only [canon_mk, canon_fold]
      | ((first | intro x | (lift_lets -underBinder; intro x)); first
        | refine canon_cut (x := x) ?_ ?_ <;> [subst x; (intro _; clear_value x)]
        | refine canon_cut1 (x := x) ?_ ?_ <;> [subst x; (intro _; clear_value x)]
        | clear_value x)
      | split | refine canon_of_fst ‹_› ?_ | refine canon_of_opt ‹_› ?_

theorem e131Sync_canon {x0 : State} (h : Canonical x0) (x1 : Nat) (x2 : Nat) (x3 : Nat) : Canonical (e131Sync x0 x1 x2 x3) := by
  unfold e131Sync
  repeat' with_reducible first
      | assumption
      | apply poolTake_canon | apply noBuf_canon | apply poolRelease_canon | apply univStore_canon | apply canon_if
      | refine canon_foldl (fun _ _ _ => ?_) ?_
      | simp -zeta only [canon_mk, canon_fold]
      | ((first | intro x | (lift_lets -underBinder; intro x)); first
        | refine canon_cut (x := x) ?_ ?_ <;> [subst x; (intro _; clear_value x)])
      | split | refine canon_of_fst ‹_› ?_ | refine canon_of_opt ‹_› ?_

theorem e131SyncTimeout_canon {x0 : State} (h : Canonical x0) (x1 : Nat) : Canonical (e131SyncTimeout x0 x1) := by
  unfold e131SyncTimeout
  repeat' with_reducible first
      | assumption
      | apply raise_canon | apply canon_if
      | simp -zeta only [canon_mk, canon_fold]
      | split

theorem scatterDrop_canon {x0 : State} (h : Canonical x0) (x1 : Nat) : Canonical (scatterDrop x0 x1) := by
  unfold scatterDrop
  repeat' with_reducible first
      | assumption
      | apply raise_canon | apply setLay_canon

theorem scatterAbandon_canon {x0 : State} (h : Canonical x0) (x1 : Nat) (x2 : Nat) (x3 : Nat) : Canonical (scatterAbandon x0 x1 x2 x3) := by
  unfold scatterAbandon
  repeat' with_reducible first
      | assumption
      | apply refresh_canon | apply setFlow_canon | apply setLay_canon | apply scatterDrop_canon
      | apply setSlotSt_canon | refine canon_foldl (fun _ _ _ => ?_) ?_
      | simp -zeta only [canon_mk, canon_fold]

theorem scatterItems_canon {x0 : State} (h : Canonical x0) (x1 : Nat) (x2 : Nat) (x3 : Nat) (x4 : Nat) (x5 : Nat) (x6 : List (Nat × Nat)) : Canonical (scatterItems x0 x1 x2 x3 x4 x5 x6) := by
  induction x6 generalizing x0 x1 x2 x3 x4 x5 with
  | nil =>
    unfold scatterItems
    repeat' with_reducible first
        | assumption
  | cons y ys ih =>
    unfold scatterItems
    repeat' with_reducible first
        | assumption
        | apply enqueueIn_canon | apply scatterAbandon_canon | apply ih
        | simp -zeta only [canon_mk, canon_fold]
        | split | refine canon_of_fst ‹_› ?_

theorem scatterLayer_canon {x0 : State} (h : Canonical x0) (x1 : Nat) (x2 : Nat) (x3 : Nat) : Canonical (scatterLayer x0 x1 x2 x3) := by
  unfold scatterLayer
  repeat' with_reducible first
      | assumption
      | apply setLay_canon | apply scatterDrop_canon | apply scatterItems_canon | apply setSlot_canon
      | apply canon_if
      | simp -zeta only [canon_mk, canon_fold]
      | ((first | intro x | (lift_lets -underBinder; intro x)); first
        | refine canon_cut (x := x) ?_ ?_ <;> [subst x; (intro _; clear_value x)]
        | refine canon_cut1 (x := x) ?_ ?_ <;> [subst x; (intro _; clear_value x)]
        | clear_value x)
      | split

theorem e131Scatter_canon {x0 : State} (h : Canonical x0) (x1 : Nat) : Canonical (e131Scatter x0 x1) := by
  unfold e131Scatter
  repeat' with_reducible first
      | assumption
      | apply scatterLayer_canon | apply canon_if | refine canon_foldl (fun _ _ _ => ?_) ?_

theorem scatterWrite_canon {x0 : State} (h : Canonical x0) (x1 : Nat) (x2 : Nat) (x3 : Nat) (x4 : Nat) : Canonical (scatterWrite x0 x1 x2 x3 x4) := by
  unfold scatterWrite
  repeat' with_reducible first
      | assumption
      | apply layWrite_canon | refine canon_foldl (fun _ _ _ => ?_) ?_

theorem scatterEnd_canon {x0 : State} (h : Canonical x0) (x1 : Nat) (x2 : Nat) (x3 : Bool) : Canonical (scatterEnd x0 x1 x2 x3) := by
  unfold scatterEnd
  repeat' with_reducible first
      | assumption
      | apply finishFrame_canon | apply setLay_canon | apply canon_if
      | simp -zeta only [canon_mk, canon_fold]
      | split

theorem applyOp_canon {x0 : State} (h : Canonical x0) (x1 : Nat) (x2 : Nat) (x3 : Nat) (x4 : IngOp) : Canonical (applyOp x0 x1 x2 x3 x4) := by
  unfold applyOp
  repeat' with_reducible first
      | assumption
      | apply writeRows_canon | apply setSlot_canon | apply finishCommit_canon | apply finishVideo_canon
      | simp -zeta only [canon_mk, canon_fold]
      | ((first | intro x | (lift_lets -underBinder; intro x)); first
        | refine canon_cut (x := x) ?_ ?_ <;> [subst x; (intro _; clear_value x)])
      | split

theorem ingestFixComplete_canon {x0 : State} (h : Canonical x0) (x1 : Nat) : Canonical (ingestFixComplete x0 x1) := by
  unfold ingestFixComplete
  repeat' with_reducible first
      | assumption
      | apply completeItem_canon | apply scatterEnd_canon | apply scatterWrite_canon | apply applyOp_canon
      | apply dropCarried_canon | apply canon_if | refine canon_foldl (fun _ _ _ => ?_) ?_
      | split

theorem ingestDropped_canon {x0 : State} (h : Canonical x0) (x1 : Item) : Canonical (ingestDropped x0 x1) := by
  unfold ingestDropped
  repeat' with_reducible first
      | assumption
      | apply scatterEnd_canon | apply lostFrames_canon | apply dropCarried_canon | apply canon_if

theorem univWritten_canon {x0 : State} (h : Canonical x0) (x1 : Nat) (x2 : Nat) : Canonical (univWritten x0 x1 x2) := by
  unfold univWritten
  repeat' with_reducible first
      | assumption
      | apply canon_if
      | simp -zeta only [canon_mk, canon_fold]

theorem layerWritten_canon {x0 : State} (h : Canonical x0) (x1 : Nat) (x2 : Bool) : Canonical (layerWritten x0 x1 x2) := by
  unfold layerWritten
  have hc : ∀ (t : State) (g : Ing), Canonical t → Canonical { t with ing := g } := fun _ _ ht => ht
  have hd : ∀ (t : State) (p : Nat → Bool), Canonical t → Canonical { t with layMem := sdelIf t.layMem p } :=
    fun t p ht => ⟨ht.1, ht.2.1, ht.2.2.1, SMap.sparse_sdelIf ht.2.2.2.1 _, ht.2.2.2.2⟩
  split
  · exact setLay_canon h _ _
  · split
    · simp only []
      split
      · exact hd _ _ (hc _ _ (setLay_canon h x1 lay0))
      · exact hc _ _ (setLay_canon h x1 lay0)
    · exact h

theorem ingestReset_canon {x0 : State} (h : Canonical x0) : Canonical (ingestReset x0) := by
  unfold ingestReset
  repeat' with_reducible first
      | assumption
      | apply lostFrames_canon | apply dropCarried_canon | apply setSlot_canon | apply setStream_canon
      | apply endFrame_canon | apply count_canon | refine canon_foldl (fun _ _ _ => ?_) ?_
      | simp -zeta only [canon_mk, canon_fold]

theorem fstClrPort_canon {x0 : State} (h : Canonical x0) (x1 : Nat) : Canonical (fstClrPort x0 x1) := by
  unfold fstClrPort
  repeat' with_reducible first
      | assumption
      | apply setReg_canon | apply setRegF_canon | refine canon_foldl (fun _ _ _ => ?_) ?_

theorem egrWrite_canon {x0 : State} (h : Canonical x0) (x1 : Nat) (x2 : Nat) : Canonical (egrWrite x0 x1 x2) := by
  exact ⟨h.1, h.2.1, h.2.2.1, h.2.2.2.1, SMap.sparse_sput (SMap.sparse_sput h.2.2.2.2 _ _) _ _⟩

theorem renFold_canon {f : RenAcc → Nat → RenAcc} (hf : ∀ a k, Canonical a.s → Canonical (f a k).s) (l : List Nat) {a : RenAcc}
    (h : Canonical a.s) : Canonical (l.foldl f a).s := by
  induction l generalizing a with
  | nil => exact h
  | cons x l ih => exact ih (hf a x h)

theorem writeLamp_canon (egr : Nat) (eight : Bool) (xs : List (Nat × Nat)) : ∀ {a : RenAcc}, Canonical a.s → ∀ ep,
    Canonical (writeLamp egr ep eight xs a).s := by
  induction xs with
  | nil => exact fun h _ => h
  | cons y ys ih =>
    intro a h ep
    unfold writeLamp
    simp only []
    split
    · exact h
    · exact ih (a := { a with s := egrWrite a.s _ _, crc := _ }) (egrWrite_canon h _ _) _

theorem renderRun_canon (t : State) (c : RenCtx) (egr idx : Nat) {a : RenAcc} (h : Canonical a.s) :
    Canonical (renderRun t c egr idx a).s := by
  unfold renderRun
  simp only []
  split
  · exact h
  · split
    · exact h
    · split
      · exact h
      · split
        · exact h
        · refine renFold_canon (fun a k ha => ?_) _ h
          split
          · exact ha
          · exact writeLamp_canon _ _ _ ha _

theorem fstUe_canon {x0 : State} (h : Canonical x0) (x1 : Nat) (x2 : Nat) : Canonical (fstUe x0 x1 x2) := by
  unfold fstUe
  repeat' with_reducible first
      | assumption
      | apply setReg_canon | apply raise_canon | apply count_canon | apply canon_if
      | simp -zeta only [canon_mk, canon_fold]

theorem renderCounts_canon {x0 : State} (h : Canonical x0) (x1 : RenCnt) (x2 : Bool) (x3 : Nat) (x4 : Nat) : Canonical (renderCounts x0 x1 x2 x3 x4) := by
  unfold renderCounts
  repeat' with_reducible first
      | assumption
      | apply raise_canon | apply count_canon | apply fstUe_canon | apply canon_if

theorem renderItem_canon {x0 : State} (h : Canonical x0) (x1 : Item) (x2 : List (Nat × Nat × Nat)) (x3 : Ue) : Canonical (renderItem x0 x1 x2 x3).1 := by
  unfold renderItem
  simp only []
  split
  · exact renderCounts_canon h _ _ _ _
  · exact renderCounts_canon (renFold_canon (fun a k ha => renderRun_canon _ _ _ _ ha) _ h) _ _ _ _

theorem engDownNow_canon {x0 : State} (h : Canonical x0) (x1 : Nat) : Canonical (engDownNow x0 x1) := by
  unfold engDownNow
  repeat' with_reducible first
      | assumption
      | simp -zeta only [canon_mk, canon_fold]

theorem engFault_canon {x0 : State} (h : Canonical x0) (x1 : Nat) (x2 : Nat) : Canonical (engFault x0 x1 x2) := by
  unfold engFault
  repeat' with_reducible first
      | assumption
      | apply raise_canon | apply setReg_canon
      | simp -zeta only [canon_mk, canon_fold]

theorem engReset_canon {x0 : State} (h : Canonical x0) (x1 : Nat) (x2 : Nat) : Canonical (engReset x0 x1 x2) := by
  unfold engReset
  repeat' with_reducible first
      | assumption
      | apply engDownNow_canon | apply faultItem_canon | apply engFault_canon | apply canon_if
      | ((first | intro x | (lift_lets -underBinder; intro x)); first
        | refine canon_cut (x := x) ?_ ?_ <;> [subst x; (intro _; clear_value x)])
      | split

theorem engRst_canon {x0 : State} (h : Canonical x0) (x1 : Nat) : Canonical (engRst x0 x1) := by
  unfold engRst
  repeat' with_reducible first
      | assumption
      | apply engReset_canon | refine canon_foldl (fun _ _ _ => ?_) ?_

theorem engClr_canon {x0 : State} (h : Canonical x0) : Canonical (engClr x0) := by
  unfold engClr
  repeat' with_reducible first
      | assumption
      | apply setRegF_canon | apply setReg_canon

theorem cuffSend_canon {x0 : State} (h : Canonical x0) (x1 : Nat) (x2 : Nat) (x3 : List Byte) : Canonical (cuffSend x0 x1 x2 x3) := by
  unfold cuffSend
  repeat' with_reducible first
      | assumption
      | apply macSend_canon

theorem mirLag_canon {x0 : State} (h : Canonical x0) : Canonical (mirLag x0) := by
  unfold mirLag
  repeat' with_reducible first
      | assumption
      | apply setReg_canon

theorem streamSend_canon {x0 : State} (h : Canonical x0) (x1 : StreamMsg) : Canonical (streamSend x0 x1) := by
  unfold streamSend
  repeat' with_reducible first
      | assumption
      | apply cuffSend_canon | apply mirLag_canon | apply canon_if | apply canon_if1
      | refine canon_foldl (fun _ _ _ => ?_) ?_
      | simp -zeta only [canon_mk, canon_fold]

theorem mirWrite_canon {x0 : State} (h : Canonical x0) (x1 : Nat) (x2 : Word) : Canonical (mirWrite x0 x1 x2) := by
  unfold mirWrite
  repeat' with_reducible first
      | assumption
      | apply streamSend_canon | apply canon_if

theorem mirNode_canon {x0 : State} (h : Canonical x0) (x1 : Nat) (x2 : Nat) : Canonical (mirNode x0 x1 x2) := by
  unfold mirNode
  repeat' with_reducible first
      | assumption
      | apply mirWrite_canon | refine canon_foldl (fun _ _ _ => ?_) ?_

theorem sendDigest_canon {x0 : State} (h : Canonical x0) (x1 : Nat) (x2 : Nat) (x3 : Nat) (x4 : Option Nat) : Canonical (sendDigest x0 x1 x2 x3 x4) := by
  unfold sendDigest
  repeat' with_reducible first
      | assumption
      | apply cuffSend_canon

theorem shadowResult_canon {x0 : State} (h : Canonical x0) (x1 : Shadow) (x2 : Shadow) : Canonical (shadowResult x0 x1 x2) := by
  unfold shadowResult
  repeat' with_reducible first
      | assumption
      | apply count_canon | apply raise_canon | apply canon_if
      | simp -zeta only [canon_mk, canon_fold]
      | split

theorem shadowMatch_canon {x0 : State} (h : Canonical x0) (x1 : Shadow) (x2 : Bool) : Canonical (shadowMatch x0 x1 x2) := by
  unfold shadowMatch
  repeat' with_reducible first
      | assumption
      | apply shadowResult_canon | apply canon_if
      | simp -zeta only [canon_mk, canon_fold]
      | split

theorem shadowEnded_canon {x0 : State} (h : Canonical x0) (x1 : Nat) (x2 : Nat) (x3 : Nat) (x4 : Option Nat) (x5 : Bool) : Canonical (shadowEnded x0 x1 x2 x3 x4 x5) := by
  unfold shadowEnded
  repeat' with_reducible first
      | assumption
      | apply sendDigest_canon | apply shadowMatch_canon | apply canon_if

theorem showNext_canon {x0 : State} (h : Canonical x0) (x1 : Nat) : Canonical (showNext x0 x1) := by
  unfold showNext
  repeat' with_reducible first
      | assumption
      | apply setReg_canon

theorem startDomain_canon {x0 : State} (h : Canonical x0) (x1 : Nat) (x2 : Nat) : Canonical (startDomain x0 x1 x2) := by
  unfold startDomain
  repeat' with_reducible first
      | assumption
      | apply showNext_canon | apply setRegF_canon | apply setDom_canon
      | simp -zeta only [canon_mk, canon_fold]
      | split

theorem placeBridge_canon {x0 : State} (h : Canonical x0) (x1 : Nat) (x2 : Nat) : Canonical (placeBridge x0 x1 x2) := by
  unfold placeBridge
  repeat' with_reducible first
      | assumption
      | apply showNext_canon | apply setDom_canon | apply canon_if
      | simp -zeta only [canon_mk, canon_fold]
      | ((first | intro x | (lift_lets -underBinder; intro x)); first
        | refine canon_cut (x := x) ?_ ?_ <;> [subst x; (intro _; clear_value x)]
        | refine canon_cut1 (x := x) ?_ ?_ <;> [subst x; (intro _; clear_value x)]
        | clear_value x)
      | split

theorem setRail_canon {x0 : State} (h : Canonical x0) (x1 : Nat) (x2 : RailRt) : Canonical (State.setRail x0 x1 x2) := by
  unfold State.setRail
  repeat' with_reducible first
      | assumption
      | simp -zeta only [canon_mk, canon_fold]

theorem setStr_canon {x0 : State} (h : Canonical x0) (x1 : Nat) (x2 : StrRt) : Canonical (State.setStr x0 x1 x2) := by
  unfold State.setStr
  repeat' with_reducible first
      | assumption
      | simp -zeta only [canon_mk, canon_fold]

theorem setMx_canon {x0 : State} (h : Canonical x0) (x1 : Nat) (x2 : MxRt) : Canonical (State.setMx x0 x1 x2) := by
  unfold State.setMx
  repeat' with_reducible first
      | assumption
      | simp -zeta only [canon_mk, canon_fold]

theorem railMove_canon {x0 : State} (h : Canonical x0) : Canonical (railMove x0) := by
  unfold railMove
  repeat' with_reducible first
      | assumption
      | apply setRail_canon | refine canon_foldl (fun _ _ _ => ?_) ?_

theorem railUpdate1_canon {x0 : State} (h : Canonical x0) (x1 : Nat) : Canonical (railUpdate1 x0 x1) := by
  unfold railUpdate1
  repeat' with_reducible first
      | assumption
      | apply setRail_canon
      | simp -zeta only [canon_mk, canon_fold]
      | ((first | intro x | (lift_lets -underBinder; intro x)); first
        | refine canon_cut (x := x) ?_ ?_ <;> [subst x; (intro _; clear_value x)]
        | refine canon_cut1 (x := x) ?_ ?_ <;> [subst x; (intro _; clear_value x)]
        | clear_value x)
      | split

theorem railUpdate_canon {x0 : State} (h : Canonical x0) : Canonical (railUpdate x0) := by
  unfold railUpdate
  repeat' with_reducible first
      | assumption
      | apply railUpdate1_canon | refine canon_foldl (fun _ _ _ => ?_) ?_

theorem mxWrite_canon {x0 : State} (h : Canonical x0) (x1 : List (Nat × Word)) : Canonical (mxWrite x0 x1) := by
  unfold mxWrite
  repeat' with_reducible first
      | assumption
      | apply setReg_canon | refine canon_foldl (fun _ _ _ => ?_) ?_

theorem mxStop_canon {x0 : State} (h : Canonical x0) (x1 : Nat) : Canonical (mxStop x0 x1) := by
  unfold mxStop
  repeat' with_reducible first
      | assumption
      | apply setMx_canon | apply mxWrite_canon

theorem darkEnter_canon {x0 : State} (h : Canonical x0) (x1 : Nat) : Canonical (darkEnter x0 x1) := by
  unfold darkEnter
  repeat' with_reducible first
      | assumption
      | apply mxStop_canon | apply railMove_canon | apply railUpdate_canon | apply raise_canon | apply canon_if
      | simp -zeta only [canon_mk, canon_fold]

theorem applyWords_canon {x0 : State} (h : Canonical x0) (x1 : SMap Nat) : Canonical (applyWords x0 x1) := by
  unfold applyWords
  repeat' with_reducible first
      | assumption
      | refine canon_foldl (fun _ _ _ => ?_) ?_
      | simp -zeta only [canon_mk, canon_fold]
      | ((first | intro x | (lift_lets -underBinder; intro x)); first
        | refine canon_cut (x := x) ?_ ?_ <;> [subst x; (intro _; clear_value x)]
        | refine canon_cut1 (x := x) ?_ ?_ <;> [subst x; (intro _; clear_value x)]
        | clear_value x)

theorem lDeadline_canon {x0 : State} (h : Canonical x0) (x1 : Item) (x2 : Nat) (x3 : Nat) : Canonical (lDeadline x0 x1 x2 x3).1 := by
  unfold lDeadline
  repeat' with_reducible first
      | assumption
      | apply raise_canon | apply count_canon | apply canon_if | apply canon_if1

theorem imageApply_canon {x0 : State} (h : Canonical x0) (x1 : Nat) : Canonical (imageApply x0 x1) := by
  unfold imageApply
  repeat' with_reducible first
      | assumption
      | apply railMove_canon | apply applyWords_canon
      | simp -zeta only [canon_mk, canon_fold]
      | split

theorem imagesApply_canon {x0 : State} (h : Canonical x0) (x1 : Nat) : Canonical (imagesApply x0 x1) := by
  unfold imagesApply
  repeat' with_reducible first
      | assumption
      | apply imageApply_canon

theorem lStore_canon {x0 : State} (h : Canonical x0) (x1 : Nat) (x2 : SMap Nat) : Canonical (lStore x0 x1 x2) := by
  unfold lStore
  repeat' with_reducible first
      | assumption
      | apply railMove_canon | apply imagesApply_canon | apply applyWords_canon | apply raise_canon
      | apply count_canon | apply railUpdate_canon | apply canon_if | apply canon_if1
      | simp -zeta only [canon_mk, canon_fold]

theorem lPushRead_canon {x0 : State} (h : Canonical x0) : Canonical (lPushRead x0) := by
  unfold lPushRead
  repeat' with_reducible first
      | assumption
      | apply completeItem_canon | apply raise_canon | apply count_canon | apply abortCount_canon
      | apply lDeadline_canon | apply lStore_canon | apply canon_if | refine canon_foldl (fun _ _ _ => ?_) ?_
      | ((first | intro x | (lift_lets -underBinder; intro x)); first
        | refine canon_cut (x := x) ?_ ?_ <;> [subst x; (intro _; clear_value x)]
        | refine canon_cut1 (x := x) ?_ ?_ <;> [subst x; (intro _; clear_value x)]
        | clear_value x)
      | split | refine canon_of_fst ‹_› ?_

theorem newFactor_canon {x0 : State} (h : Canonical x0) : Canonical (newFactor x0) := by
  unfold newFactor
  repeat' with_reducible first
      | assumption
      | apply setReg_canon | apply raise_canon | apply canon_if

theorem mxCommit_canon {x0 : State} (h : Canonical x0) (x1 : Nat) (x2 : List (Nat × Word)) : Canonical (mxCommit x0 x1 x2) := by
  unfold mxCommit
  repeat' with_reducible first
      | assumption
      | apply mxWrite_canon | apply setMx_canon | apply raise_canon | apply count_canon | apply canon_if

theorem mxFrameLatch_canon {x0 : State} (h : Canonical x0) (x1 : Nat) : Canonical (mxFrameLatch x0 x1) := by
  unfold mxFrameLatch
  repeat' with_reducible first
      | assumption
      | apply setMx_canon | apply canon_if

theorem mxStartFrame_canon {x0 : State} (h : Canonical x0) (x1 : Nat) (x2 : Nat) (x3 : Nat) (x4 : Nat) (x5 : Bool) (x6 : Bool) : Canonical (mxStartFrame x0 x1 x2 x3 x4 x5 x6) := by
  unfold mxStartFrame
  repeat' with_reducible first
      | assumption
      | apply mxWrite_canon | apply setRegF_canon | apply setMx_canon | apply mxStop_canon
      | apply canon_if

theorem mxTick1_canon {x0 : State} (h : Canonical x0) (x1 : Nat) : Canonical (mxTick1 x0 x1) := by
  unfold mxTick1
  repeat' with_reducible first
      | assumption
      | apply mxStartFrame_canon | apply canon_if

theorem mxTick_canon {x0 : State} (h : Canonical x0) : Canonical (mxTick x0) := by
  unfold mxTick
  repeat' with_reducible first
      | assumption
      | apply mxTick1_canon

theorem mxFrameCut_canon {x0 : State} (h : Canonical x0) (x1 : Nat) : Canonical (mxFrameCut x0 x1) := by
  unfold mxFrameCut
  repeat' with_reducible first
      | assumption
      | apply raise_canon | apply setMx_canon | apply count_canon | apply canon_if

theorem driveRetime_canon {x0 : State} (h : Canonical x0) : Canonical (driveRetime x0) := by
  unfold driveRetime
  repeat' with_reducible first
      | assumption
      | apply setReg_canon | apply setMx_canon | apply canon_if | apply canon_if1
      | refine canon_foldl (fun _ _ _ => ?_) ?_
      | simp -zeta only [canon_mk, canon_fold]
      | split

theorem mxPresent_canon {x0 : State} (h : Canonical x0) (x1 : Nat) (x2 : Nat) (x3 : Nat) : Canonical (mxPresent x0 x1 x2 x3) := by
  unfold mxPresent
  repeat' with_reducible first
      | assumption
      | apply mxStop_canon | apply mxStartFrame_canon | apply setMx_canon | apply setReg_canon
      | apply canon_if

theorem storeMeas_canon {x0 : State} (h : Canonical x0) (x1 : DrvMeas) : Canonical (storeMeas x0 x1) := by
  unfold storeMeas
  repeat' with_reducible first
      | assumption
      | apply setReg_canon | apply setRegF_canon | refine canon_foldl (fun _ _ _ => ?_) ?_

theorem lWatchdog_canon {x0 : State} (h : Canonical x0) : Canonical (lWatchdog x0) := by
  unfold lWatchdog
  repeat' with_reducible first
      | assumption
      | apply raise_canon | apply darkEnter_canon | apply canon_if
      | simp -zeta only [canon_mk, canon_fold]

theorem darkLeave_canon {x0 : State} (h : Canonical x0) : Canonical (darkLeave x0) := by
  unfold darkLeave
  repeat' with_reducible first
      | assumption
      | apply canon_if | refine canon_foldl (fun _ _ _ => ?_) ?_
      | simp -zeta only [canon_mk, canon_fold]
      | ((first | intro x | (lift_lets -underBinder; intro x)); first
        | refine canon_cut (x := x) ?_ ?_ <;> [subst x; (intro _; clear_value x)]
        | refine canon_cut1 (x := x) ?_ ?_ <;> [subst x; (intro _; clear_value x)]
        | clear_value x)

theorem presentStrings_canon {x0 : State} (h : Canonical x0) : Canonical (presentStrings x0) := by
  unfold presentStrings
  repeat' with_reducible first
      | assumption
      | apply setStr_canon | apply canon_if | refine canon_foldl (fun _ _ _ => ?_) ?_

theorem drivePresentation_canon {x0 : State} (h : Canonical x0) (x1 : DrvMeas) : Canonical (drivePresentation x0 x1) := by
  unfold drivePresentation
  repeat' with_reducible first
      | assumption
      | apply mxFrameCut_canon | apply imagesApply_canon | apply railMove_canon | apply storeMeas_canon
      | apply darkLeave_canon | apply lWatchdog_canon | apply presentStrings_canon | apply mxPresent_canon
      | apply railUpdate_canon | apply newFactor_canon | apply canon_if
      | simp -zeta only [canon_mk, canon_fold]
      | split

theorem stringMeasurement_canon {x0 : State} (h : Canonical x0) (x1 : Nat) (x2 : Nat) (x3 : Nat) (x4 : Nat) (x5 : Nat) : Canonical (stringMeasurement x0 x1 x2 x3 x4 x5) := by
  unfold stringMeasurement
  repeat' with_reducible first
      | assumption
      | apply railMove_canon | apply setStr_canon | apply setRegF_canon | apply setRail_canon
      | apply raise_canon | apply count_canon | apply canon_if

theorem stringFault_canon {x0 : State} (h : Canonical x0) (x1 : Nat) (x2 : Bool) : Canonical (stringFault x0 x1 x2) := by
  unfold stringFault
  repeat' with_reducible first
      | assumption
      | apply railMove_canon | apply raise_canon | apply railUpdate_canon | apply setStr_canon | apply canon_if

theorem strFclr_canon {x0 : State} (h : Canonical x0) (x1 : Nat) (x2 : Nat) : Canonical (strFclr x0 x1 x2) := by
  unfold strFclr
  repeat' with_reducible first
      | assumption
      | apply setStr_canon | apply railMove_canon | apply canon_if | refine canon_foldl (fun _ _ _ => ?_) ?_

theorem railFault_canon {x0 : State} (h : Canonical x0) (x1 : Nat) : Canonical (railFault x0 x1) := by
  unfold railFault
  repeat' with_reducible first
      | assumption
      | apply railMove_canon | apply raise_canon | apply railUpdate_canon | apply setRail_canon | apply canon_if

theorem railClear_canon {x0 : State} (h : Canonical x0) (x1 : Nat) : Canonical (railClear x0 x1) := by
  unfold railClear
  repeat' with_reducible first
      | assumption
      | apply setRail_canon | apply railMove_canon | apply canon_if | refine canon_foldl (fun _ _ _ => ?_) ?_

theorem mxColumnFault_canon {x0 : State} (h : Canonical x0) (x1 : Nat) (x2 : Nat) (x3 : Bool) : Canonical (mxColumnFault x0 x1 x2 x3) := by
  unfold mxColumnFault
  repeat' with_reducible first
      | assumption
      | apply raise_canon | apply setRegB_canon | apply canon_if

theorem mxLineShort_canon {x0 : State} (h : Canonical x0) (x1 : Nat) (x2 : Nat) : Canonical (mxLineShort x0 x1 x2) := by
  unfold mxLineShort
  repeat' with_reducible first
      | assumption
      | apply setRegB_canon | apply raise_canon | apply mxStop_canon | apply canon_if

theorem mxSupplyFault_canon {x0 : State} (h : Canonical x0) : Canonical (mxSupplyFault x0) := by
  unfold mxSupplyFault
  repeat' with_reducible first
      | assumption
      | apply setRegB_canon | apply raise_canon | apply mxStop_canon

theorem mxClearCols_canon {x0 : State} (h : Canonical x0) (x1 : Nat) : Canonical (mxClearCols x0 x1) := by
  unfold mxClearCols
  repeat' with_reducible first
      | assumption
      | apply setReg_canon | refine canon_foldl (fun _ _ _ => ?_) ?_

theorem mxClearLines_canon {x0 : State} (h : Canonical x0) (x1 : Nat) : Canonical (mxClearLines x0 x1) := by
  unfold mxClearLines
  repeat' with_reducible first
      | assumption
      | apply setReg_canon

theorem drvClr_canon {x0 : State} (h : Canonical x0) : Canonical (drvClr x0) := by
  unfold drvClr
  repeat' with_reducible first
      | assumption
      | apply setReg_canon

theorem drvHolds_canon {x0 : State} (h : Canonical x0) : Canonical (drvHolds x0) := by
  unfold drvHolds
  repeat' with_reducible first
      | assumption
      | apply darkEnter_canon | apply canon_if

theorem drvReset_canon {x0 : State} (h : Canonical x0) : Canonical (drvReset x0) := by
  unfold drvReset
  repeat' with_reducible first
      | assumption
      | simp -zeta only [canon_mk, canon_fold]

theorem setSrf_canon {x0 : State} (h : Canonical x0) (x1 : Nat) (x2 : SrfRt) : Canonical (State.setSrf x0 x1 x2) := by
  unfold State.setSrf
  repeat' with_reducible first
      | assumption
      | simp -zeta only [canon_mk, canon_fold]

theorem srfEnable_canon {x0 : State} (h : Canonical x0) (x1 : Nat) : Canonical (srfEnable x0 x1) := by
  unfold srfEnable
  repeat' with_reducible first
      | assumption
      | apply setSrf_canon | apply setReg_canon
      | simp -zeta only [canon_mk, canon_fold]

theorem applyReg_canon {x0 : State} (h : Canonical x0) (x1 : Nat) (x2 : Word) : Canonical (applyReg x0 x1 x2) := by
  unfold applyReg
  repeat' with_reducible first
      | assumption
      | apply setEntW_canon | apply railMove_canon | apply setReg_canon | apply setSrf_canon
      | apply canon_if

theorem applyDue_canon {x0 : State} (h : Canonical x0) (x1 : Nat) (x2 : Nat) : Canonical (applyDue x0 x1 x2) := by
  unfold applyDue
  repeat' with_reducible first
      | assumption
      | apply applyReg_canon | apply canon_if | apply canon_if1 | refine canon_foldl (fun _ _ _ => ?_) ?_
      | simp -zeta only [canon_mk, canon_fold]
      | split

theorem applyPend_canon {x0 : State} (h : Canonical x0) (x1 : List (Nat × PendW)) : Canonical (applyPend x0 x1) := by
  unfold applyPend
  repeat' with_reducible first
      | assumption
      | apply applyReg_canon | refine canon_foldl (fun _ _ _ => ?_) ?_
      | simp -zeta only [canon_mk, canon_fold]

theorem applyEng_canon {x0 : State} (h : Canonical x0) (x1 : EngPend) (x2 : Option Nat) : Canonical (applyEng x0 x1 x2) := by
  unfold applyEng
  repeat' with_reducible first
      | assumption
      | apply canon_if
      | simp -zeta only [canon_mk, canon_fold]

theorem applyEngs_canon {x0 : State} (h : Canonical x0) (x1 : Nat) (x2 : Nat) (x3 : Option Nat) : Canonical (applyEngs x0 x1 x2 x3) := by
  unfold applyEngs
  repeat' with_reducible first
      | assumption
      | apply applyEng_canon | refine canon_foldl (fun _ _ _ => ?_) ?_

theorem applyTile_canon {x0 : State} (h : Canonical x0) (x1 : TilePend) : Canonical (applyTile x0 x1) := by
  unfold applyTile
  repeat' with_reducible first
      | assumption
      | simp -zeta only [canon_mk, canon_fold]

theorem applyTiles_canon {x0 : State} (h : Canonical x0) (x1 : Nat) (x2 : Nat) : Canonical (applyTiles x0 x1 x2) := by
  unfold applyTiles
  repeat' with_reducible first
      | assumption
      | apply applyTile_canon | refine canon_foldl (fun _ _ _ => ?_) ?_

theorem applySets_canon {x0 : State} (h : Canonical x0) (x1 : Nat) (x2 : Nat) (x3 : Nat) : Canonical (applySets x0 x1 x2 x3) := by
  unfold applySets
  repeat' with_reducible first
      | assumption
      | apply applyPend_canon | apply applyTiles_canon | apply applyEngs_canon | apply applyDue_canon
      | apply latchLayer_canon | apply canon_if | refine canon_foldl (fun _ _ _ => ?_) ?_

theorem stopDomain_canon {x0 : State} (h : Canonical x0) (x1 : Nat) (x2 : Nat) : Canonical (stopDomain x0 x1 x2) := by
  unfold stopDomain
  repeat' with_reducible first
      | assumption
      | apply flushList_canon | apply setDom_canon | apply applyPend_canon | apply applyTiles_canon
      | apply applyEngs_canon | apply setLay_canon | apply showSlot_canon | apply supersede_canon
      | apply darkEnter_canon | apply canon_if | refine canon_foldl (fun _ _ _ => ?_) ?_
      | simp -zeta only [canon_mk, canon_fold]
      | split

theorem addPend_canon {x0 : State} (h : Canonical x0) (x1 : List (Nat × Word)) (x2 : Nat) (x3 : Nat) (x4 : Nat) : Canonical (addPend x0 x1 x2 x3 x4) := by
  unfold addPend
  repeat' with_reducible first
      | assumption
      | apply canon_if | apply canon_if1 | refine canon_foldl (fun _ _ _ => ?_) ?_
      | simp -zeta only [canon_mk, canon_fold]
      | ((first | intro x | (lift_lets -underBinder; intro x)); first
        | refine canon_cut (x := x) ?_ ?_ <;> [subst x; (intro _; clear_value x)]
        | refine canon_cut1 (x := x) ?_ ?_ <;> [subst x; (intro _; clear_value x)]
        | (refine canon_fun (x := x) ?_; subst x)
        | clear_value x)

theorem commitLatched_canon {x0 : State} (h : Canonical x0) (x1 : Nat) (x2 : List (Nat × Word)) (x3 : Nat) (x4 : Nat) : Canonical (commitLatched x0 x1 x2 x3 x4) := by
  unfold commitLatched
  repeat' with_reducible first
      | assumption
      | apply applyReg_canon | apply addPend_canon | apply commitLate_canon | apply canon_if | apply canon_if1
      | refine canon_foldl (fun _ _ _ => ?_) ?_

theorem closeEpoch_canon {x0 : State} (h : Canonical x0) (x1 : Nat) (x2 : OpenEp) : Canonical (closeEpoch x0 x1 x2) := by
  unfold closeEpoch
  repeat' with_reducible first
      | assumption
      | apply setSrf_canon | apply canon_if

theorem setOpen_canon {x0 : State} (h : Canonical x0) (x1 : Nat) (x2 : OpenEp) : Canonical (setOpen x0 x1 x2) := by
  unfold setOpen
  repeat' with_reducible first
      | assumption
      | apply setSrf_canon | apply closeEpoch_canon | apply canon_if

theorem tellTile_canon {x0 : State} (h : Canonical x0) (x1 : Nat) (x2 : Nat) (x3 : Nat) : Canonical (tellTile x0 x1 x2 x3) := by
  unfold tellTile
  repeat' with_reducible first
      | assumption
      | simp -zeta only [canon_mk, canon_fold]
      | ((first | intro x | (lift_lets -underBinder; intro x)); first
        | refine canon_cut (x := x) ?_ ?_ <;> [subst x; (intro _; clear_value x)]
        | refine canon_cut1 (x := x) ?_ ?_ <;> [subst x; (intro _; clear_value x)]
        | clear_value x)

theorem missTile_canon {x0 : State} (h : Canonical x0) (x1 : Nat) (x2 : Nat) (x3 : Nat) : Canonical (missTile x0 x1 x2 x3) := by
  unfold missTile
  repeat' with_reducible first
      | assumption
      | apply raise_canon | apply count_canon | apply tellTile_canon | apply canon_if

theorem unhold_canon {x0 : State} (h : Canonical x0) (x1 : Nat) (x2 : Nat) (x3 : Nat) : Canonical (unhold x0 x1 x2 x3) := by
  unfold unhold
  repeat' with_reducible first
      | assumption
      | simp -zeta only [canon_mk, canon_fold]

theorem renderLost_canon {x0 : State} (h : Canonical x0) (x1 : Nat) (x2 : Nat) (x3 : Nat) (x4 : Bool) : Canonical (renderLost x0 x1 x2 x3 x4) := by
  unfold renderLost
  repeat' with_reducible first
      | assumption
      | apply unhold_canon | apply missTile_canon | apply setOpen_canon | apply shadowEnded_canon | apply canon_if
      | simp -zeta only [canon_mk, canon_fold]
      | split

theorem enqueueRenders_canon {x0 : State} (h : Canonical x0) (x1 : Nat) (x2 : EpochPt) : Canonical (enqueueRenders x0 x1 x2) := by
  unfold enqueueRenders
  repeat' with_reducible first
      | assumption
      | apply setSrf_canon | apply closeEpoch_canon | apply enqueueIn_canon | apply renderLost_canon
      | apply canon_if | apply canon_if1 | refine canon_foldl (fun _ _ _ => ?_) ?_

theorem enqueueChecks_canon {x0 : State} (h : Canonical x0) (x1 : Nat) (x2 : EpochPt) (x3 : Nat) : Canonical (enqueueChecks x0 x1 x2 x3) := by
  unfold enqueueChecks
  repeat' with_reducible first
      | assumption
      | apply enqueueIn_canon | apply canon_if | apply canon_if1 | refine canon_foldl (fun _ _ _ => ?_) ?_

theorem surfaceSteps_canon {x0 : State} (h : Canonical x0) (x1 : Nat) : Canonical (surfaceSteps x0 x1) := by
  unfold surfaceSteps
  repeat' with_reducible first
      | assumption
      | apply srfEnable_canon | apply setSrf_canon | apply raise_canon | apply count_canon
      | apply canon_if | refine canon_foldl (fun _ _ _ => ?_) ?_
      | simp -zeta only [canon_mk, canon_fold]
      | split

theorem bridgeLatch_canon {x0 : State} (h : Canonical x0) (x1 : Nat) (x2 : Bridge) : Canonical (bridgeLatch x0 x1 x2) := by
  unfold bridgeLatch
  repeat' with_reducible first
      | assumption
      | apply applyPend_canon | apply setDom_canon | apply raise_canon | apply setRegB_canon
      | apply canon_if | apply canon_if1 | refine canon_foldl (fun _ _ _ => ?_) ?_

theorem processLatch_canon {x0 : State} (h : Canonical x0) (x1 : Nat) (x2 : EpochPt) (x3 : Bool) (x4 : State → State)
    (hs : ∀ t, Canonical t → Canonical (x4 t)) : Canonical (processLatch x0 x1 x2 x3 x4) := by
  unfold processLatch
  repeat' with_reducible first
    | assumption
    | (intro x; refine canon_cut (x := x) ?_ ?_ <;> [subst x; (intro _; clear_value x)])
    | (intro x; clear_value x)
    | intro _
    | apply canon_if | apply bridgeLatch_canon | apply enqueueChecks_canon | apply enqueueRenders_canon
    | apply surfaceSteps_canon | apply showNext_canon | apply setDom_canon | apply setReg_canon
    | apply raise_canon | apply count_canon | apply hs
    | (lift_lets -underBinder; intro x; refine canon_cut (x := x) ?_ ?_ <;> [subst x; (intro _; clear_value x)])
    | (lift_lets -underBinder; intro x; clear_value x)
    | split

theorem latchUntil_canon {x0 : State} (h : Canonical x0) (x1 : Nat) (x2 : Nat) : Canonical (latchUntil x0 x1 x2) := by
  unfold latchUntil
  repeat' with_reducible first
      | assumption | intro _
      | apply processLatch_canon | apply applySets_canon | apply streamSend_canon | apply canon_if
      | split

theorem latchPoint_canon {x0 : State} (h : Canonical x0) (x1 : Nat) : Canonical (latchPoint x0 x1) := by
  unfold latchPoint
  repeat' with_reducible first
      | assumption
      | apply latchUntil_canon | apply canon_if

theorem commitRunning_canon {x0 : State} (h : Canonical x0) (x1 : Nat) (x2 : List (Nat × Word)) (x3 : Nat) (x4 : Nat) : Canonical (commitRunning x0 x1 x2 x3 x4) := by
  unfold commitRunning
  repeat' with_reducible first
      | assumption
      | apply stopDomain_canon | apply setReg_canon | apply driveRetime_canon | apply placeBridge_canon
      | apply addPend_canon | apply commitLate_canon | apply canon_if | apply canon_if1
      | refine canon_foldl (fun _ _ _ => ?_) ?_

theorem commitDomain_canon {x0 : State} (h : Canonical x0) (x1 : Nat) (x2 : List (Nat × Word)) (x3 : Nat) (x4 : Nat) : Canonical (commitDomain x0 x1 x2 x3 x4) := by
  unfold commitDomain
  repeat' with_reducible first
      | assumption
      | apply setReg_canon | apply startDomain_canon | apply flushList_canon | apply commitRunning_canon
      | apply latchPoint_canon | apply canon_if | apply canon_if1 | refine canon_foldl (fun _ _ _ => ?_) ?_
      | split

theorem commitTdm_canon {x0 : State} (h : Canonical x0) (x1 : List (Nat × Word)) (x2 : Nat) (x3 : Nat) : Canonical (commitTdm x0 x1 x2 x3) := by
  unfold commitTdm
  repeat' with_reducible first
      | assumption
      | apply commitDomain_canon | refine canon_foldl (fun _ _ _ => ?_) ?_

theorem renderPush_canon {x0 : State} (h : Canonical x0) (x1 : Nat) (x2 : Nat) (x3 : Nat) (x4 : List Word) (x5 : Nat) (x6 : Nat) (x7 : Option (Nat × Nat)) (x8 : Bool) : Canonical (renderPush x0 x1 x2 x3 x4 x5 x6 x7 x8) := by
  unfold renderPush
  repeat' with_reducible first
      | assumption
      | apply tellTile_canon | apply enqueueIn_canon | apply canon_if

theorem seenChange_canon {x0 : State} (h : Canonical x0) (x1 : Nat) (x2 : Bool) : Canonical (seenChange x0 x1 x2) := by
  unfold seenChange
  repeat' with_reducible first
      | assumption
      | apply raise_canon | apply setSrf_canon | apply canon_if

theorem changedLate_canon {x0 : State} (h : Canonical x0) (x1 : Nat) (x2 : Nat) (x3 : Bool) : Canonical (changedLate x0 x1 x2 x3) := by
  unfold changedLate
  repeat' with_reducible first
      | assumption
      | apply setOpen_canon | apply setSrf_canon | apply canon_if
      | simp -zeta only [canon_mk, canon_fold]
      | split

theorem renderDone_canon {x0 : State} (h : Canonical x0) (x1 : Item) (x2 : Nat) : Canonical (renderDone x0 x1 x2) := by
  unfold renderDone
  simp only []
  generalize hy : ({ x0 with ren := _ } : State) = y
  have h1 : Canonical y := by subst hy; exact h
  refine canon_if ?_ (canon_if (renderPush_canon h1 _ _ _ _ _ _ _ _) h1)
  split
  · exact shadowEnded_canon (setOpen_canon (renderPush_canon (seenChange_canon h1 _ _) _ _ _ _ _ _ _ _) _ _) _ _ _ _ _
  · have h2 := fun c => canon_if (c := srfLive y (x1.f 6 0 6) = true)
      (changedLate_canon (seenChange_canon h1 (x1.f 6 0 6) c) (x1.f 6 0 6) (x1.word 10).toNat c) h1
    split
    · exact renderPush_canon (unhold_canon (h2 _) _ _ _) _ _ _ _ _ _ _ _
    · exact h2 _

theorem hostRenderLost_canon {x0 : State} (h : Canonical x0) (x1 : Nat) (x2 : Nat) : Canonical (hostRenderLost x0 x1 x2) := by
  unfold hostRenderLost
  repeat' with_reducible first
      | assumption
      | apply missTile_canon | apply canon_if

theorem renderComplete_canon {x0 : State} (h : Canonical x0) (x1 : Nat) (x2 : Ue) : Canonical (renderComplete x0 x1 x2) := by
  unfold renderComplete
  repeat' with_reducible first
      | assumption
      | apply renderItem_canon | apply failItem_canon | apply completeItem_canon | apply renderDone_canon
      | apply canon_if
      | split | refine canon_of_fst ‹_› ?_

theorem cueArm_canon {x0 : State} (h : Canonical x0) (x1 : Nat) (x2 : Nat) (x3 : Nat) (x4 : Nat) : Canonical (cueArm x0 x1 x2 x3 x4) := by
  unfold cueArm
  repeat' with_reducible first
      | assumption
      | apply enqueueIn_canon | apply canon_if

theorem cueChain_canon {x0 : State} (h : Canonical x0) (x1 : Item) : Canonical (cueChain x0 x1) := by
  unfold cueChain
  repeat' with_reducible first
      | assumption
      | apply enqueueIn_canon | apply canon_if

theorem setChk_canon {x0 : State} (h : Canonical x0) (x1 : Nat) (x2 : ChkRt) : Canonical (State.setChk x0 x1 x2) := by
  unfold State.setChk
  repeat' with_reducible first
      | assumption
      | simp -zeta only [canon_mk, canon_fold]

theorem chkSkipped_canon {x0 : State} (h : Canonical x0) (x1 : Nat) (x2 : Nat) : Canonical (chkSkipped x0 x1 x2) := by
  unfold chkSkipped
  repeat' with_reducible first
      | assumption
      | apply raise_canon | apply setChk_canon

theorem chkCompare_canon {x0 : State} (h : Canonical x0) (x1 : Nat) (x2 : Nat) (x3 : Nat) : Canonical (chkCompare x0 x1 x2 x3) := by
  unfold chkCompare
  repeat' with_reducible first
      | assumption
      | apply setChk_canon | apply raise_canon | apply canon_if | apply canon_if1
      | simp -zeta only [canon_mk, canon_fold]
      | ((first | intro x | (lift_lets -underBinder; intro x)); first
        | refine canon_cut (x := x) ?_ ?_ <;> [subst x; (intro _; clear_value x)]
        | refine canon_cut1 (x := x) ?_ ?_ <;> [subst x; (intro _; clear_value x)]
        | clear_value x)
      | split

theorem echoRequest_canon {x0 : State} (h : Canonical x0) (x1 : Nat) (x2 : Nat) (x3 : Nat) (x4 : Nat) (x5 : Nat) : Canonical (echoRequest x0 x1 x2 x3 x4 x5) := by
  unfold echoRequest
  repeat' with_reducible first
      | assumption
      | apply setChk_canon | apply handFrame_canon

theorem checkComplete_canon {x0 : State} (h : Canonical x0) (x1 : Nat) : Canonical (checkComplete x0 x1) := by
  unfold checkComplete
  repeat' with_reducible first
      | assumption
      | apply failItem_canon | apply completeItem_canon | apply setChk_canon | apply chkSkipped_canon
      | apply chkCompare_canon | apply echoRequest_canon | apply canon_if | apply canon_if1
      | simp -zeta only [canon_mk, canon_fold]
      | split

theorem expPush_canon {x0 : State} (h : Canonical x0) (x1 : Nat) (x2 : Nat) (x3 : Nat) : Canonical (expPush x0 x1 x2 x3) := by
  unfold expPush
  repeat' with_reducible first
      | assumption
      | apply setChk_canon

theorem expFlush_canon {x0 : State} (h : Canonical x0) (x1 : Nat) : Canonical (expFlush x0 x1) := by
  unfold expFlush
  repeat' with_reducible first
      | assumption
      | apply setChk_canon

theorem echoRep_canon {x0 : State} (h : Canonical x0) (x1 : Nat) (x2 : Nat) (x3 : Nat) (x4 : Nat) (x5 : Nat) (x6 : Nat) : Canonical (echoRep x0 x1 x2 x3 x4 x5 x6) := by
  unfold echoRep
  repeat' with_reducible first
      | assumption
      | apply setChk_canon | apply raise_canon | apply reply_canon | apply count_canon | apply canon_if
      | simp -zeta only [canon_mk, canon_fold]
      | ((first | intro x | (lift_lets -underBinder; intro x)); first
        | refine canon_cut (x := x) ?_ ?_ <;> [subst x; (intro _; clear_value x)]
        | refine canon_cut1 (x := x) ?_ ?_ <;> [subst x; (intro _; clear_value x)]
        | (refine canon_fun (x := x) ?_; subst x)
        | clear_value x)
      | split

theorem echoTimeout_canon {x0 : State} (h : Canonical x0) (x1 : Nat) : Canonical (echoTimeout x0 x1) := by
  unfold echoTimeout
  repeat' with_reducible first
      | assumption
      | apply raise_canon | apply setChk_canon
      | simp -zeta only [canon_mk, canon_fold]
      | split

theorem chkExpired_canon {x0 : State} (h : Canonical x0) (x1 : Item) : Canonical (chkExpired x0 x1) := by
  unfold chkExpired
  repeat' with_reducible first
      | assumption
      | apply chkSkipped_canon

theorem tileWritten_canon {x0 : State} (h : Canonical x0) (x1 : Nat) (x2 : List Word) (x3 : Nat) : Canonical (tileWritten x0 x1 x2 x3) := by
  unfold tileWritten
  repeat' with_reducible first
      | assumption
      | apply setEnt_canon | apply applyTile_canon | apply canon_if
      | simp -zeta only [canon_mk, canon_fold]

theorem engWritten_canon {x0 : State} (h : Canonical x0) (x1 : Nat) (x2 : Nat) (x3 : List Word) (x4 : Nat) : Canonical (engWritten x0 x1 x2 x3 x4) := by
  unfold engWritten
  repeat' with_reducible first
      | assumption
      | apply setEnt_canon | apply applyEng_canon | apply canon_if
      | simp -zeta only [canon_mk, canon_fold]

theorem rectWritten_canon {x0 : State} (h : Canonical x0) (x1 : Nat) (x2 : List Word) : Canonical (rectWritten x0 x1 x2) := by
  unfold rectWritten
  repeat' with_reducible first
      | assumption
      | apply setChk_canon | apply setEnt_canon

theorem tdmReset_canon {x0 : State} (h : Canonical x0) : Canonical (tdmReset x0) := by
  unfold tdmReset
  repeat' with_reducible first
      | assumption
      | apply stopDomain_canon | apply flushList_canon | apply canon_if | refine canon_foldl (fun _ _ _ => ?_) ?_

theorem srfReset_canon {x0 : State} (h : Canonical x0) : Canonical (srfReset x0) := by
  unfold srfReset
  repeat' with_reducible first
      | assumption
      | simp -zeta only [canon_mk, canon_fold]

theorem chkReset_canon {x0 : State} (h : Canonical x0) : Canonical (chkReset x0) := by
  unfold chkReset
  repeat' with_reducible first
      | assumption
      | simp -zeta only [canon_mk, canon_fold]

end Sys2Proof.Machine
end

