-- ==== Sys2Proof/Laws/CanonBlocks.lean ====
section
/-! SUPPORT. The canonical form of the sparse stores is kept by every operation: time, metering, Hatband, Lining, pair, Gauntlet, update and self-calibration. One lemma for
each operation, named after it. -/

namespace Sys2Proof.Machine
open Sys2Proof

theorem servoFree_canon {x0 : State} (h : Canonical x0) : Canonical (servoFree x0) := by
  unfold servoFree
  repeat' with_reducible first
      | assumption
      | apply raise_canon | apply canon_if
      | simp -zeta only [canon_mk, canon_fold]

theorem clockTick_canon {x0 : State} (h : Canonical x0) : Canonical (clockTick x0) := by
  unfold clockTick
  repeat' with_reducible first
      | assumption
      | apply servoFree_canon | apply raise_canon | apply post_canon | apply canon_if | apply canon_if1
      | simp -zeta only [canon_mk, canon_fold]
      | ((first | intro x | (lift_lets -underBinder; intro x)); first
        | refine canon_cut (x := x) ?_ ?_ <;> [subst x; (intro _; clear_value x)]
        | refine canon_cut1 (x := x) ?_ ?_ <;> [subst x; (intro _; clear_value x)]
        | clear_value x)
      | split

theorem slewEnd_canon {x0 : State} (h : Canonical x0) : Canonical (slewEnd x0) := by
  unfold slewEnd
  repeat' with_reducible first
      | assumption
      | apply clockTick_canon | apply canon_if
      | split

theorem clkOp_canon {x0 : State} (h : Canonical x0) (x1 : ClkOp) : Canonical (clkOp x0 x1) := by
  unfold clkOp
  repeat' with_reducible first
      | assumption
      | simp -zeta only [canon_mk, canon_fold]

theorem secondsSync_canon {x0 : State} (h : Canonical x0) : Canonical (secondsSync x0) := by
  unfold secondsSync
  repeat' with_reducible first
      | assumption
      | apply canon_if
      | simp -zeta only [canon_mk, canon_fold]

theorem setPport_canon {x0 : State} (h : Canonical x0) (x1 : Nat) (x2 : PtpPort) : Canonical (State.setPport x0 x1 x2) := by
  unfold State.setPport
  repeat' with_reducible first
      | assumption
      | simp -zeta only [canon_mk, canon_fold]

theorem availNote_canon {x0 : State} (h : Canonical x0) : Canonical (availNote x0) := by
  unfold availNote
  repeat' with_reducible first
      | assumption
      | apply canon_if | refine canon_foldl (fun _ _ _ => ?_) ?_
      | simp -zeta only [canon_mk, canon_fold]
      | ((first | intro x | (lift_lets -underBinder; intro x)); first
        | refine canon_cut (x := x) ?_ ?_ <;> [subst x; (intro _; clear_value x)]
        | refine canon_cut1 (x := x) ?_ ?_ <;> [subst x; (intro _; clear_value x)]
        | clear_value x)

theorem useSource_canon {x0 : State} (h : Canonical x0) (x1 : Nat) : Canonical (useSource x0 x1) := by
  unfold useSource
  repeat' with_reducible first
      | assumption
      | apply raise_canon | apply canon_if
      | simp -zeta only [canon_mk, canon_fold]

theorem takeSource_canon {x0 : State} (h : Canonical x0) : Canonical (takeSource x0) := by
  unfold takeSource
  repeat' with_reducible first
      | assumption
      | apply useSource_canon | apply canon_if
      | split

theorem availTouch_canon {x0 : State} (h : Canonical x0) : Canonical (availTouch x0) := by
  unfold availTouch
  repeat' with_reducible first
      | assumption
      | apply takeSource_canon | apply availNote_canon

theorem setValid_canon {x0 : State} (h : Canonical x0) : Canonical (setValid x0) := by
  unfold setValid
  repeat' with_reducible first
      | assumption
      | apply raise_canon | apply startDomain_canon | apply availTouch_canon | apply canon_if
      | refine canon_foldl (fun _ _ _ => ?_) ?_
      | simp -zeta only [canon_mk, canon_fold]

theorem sourceChange_canon {x0 : State} (h : Canonical x0) : Canonical (sourceChange x0) := by
  unfold sourceChange
  repeat' with_reducible first
      | assumption
      | apply takeSource_canon | apply useSource_canon | apply canon_if
      | split

theorem sourceLoss_canon {x0 : State} (h : Canonical x0) : Canonical (sourceLoss x0).1 := by
  unfold sourceLoss
  repeat' with_reducible first
      | assumption
      | apply takeSource_canon | apply raise_canon | apply canon_if | apply canon_if1
      | simp -zeta only [canon_mk, canon_fold]

theorem holdExpired_canon {x0 : State} (h : Canonical x0) : Canonical (holdExpired x0) := by
  unfold holdExpired
  repeat' with_reducible first
      | assumption
      | apply raise_canon | apply canon_if
      | simp -zeta only [canon_mk, canon_fold]

theorem bigOffset_canon {x0 : State} (h : Canonical x0) (x1 : Int) : Canonical (bigOffset x0 x1) := by
  unfold bigOffset
  repeat' with_reducible first
      | assumption
      | apply raise_canon | apply canon_if

theorem servoState_canon {x0 : State} (h : Canonical x0) (x1 : Nat) (x2 : Nat) : Canonical (servoState x0 x1 x2) := by
  unfold servoState
  repeat' with_reducible first
      | assumption
      | apply setValid_canon | apply raise_canon | apply canon_if
      | simp -zeta only [canon_mk, canon_fold]

theorem servoTake_canon {x0 : State} (h : Canonical x0) (x1 : Option Nat) : Canonical (servoTake x0 x1).1 := by
  unfold servoTake
  repeat' with_reducible first
      | assumption
      | apply setReg_canon | apply servoState_canon | apply bigOffset_canon | apply canon_if | apply canon_if1
      | simp -zeta only [canon_mk, canon_fold]
      | split

theorem measured_canon {x0 : State} (h : Canonical x0) (x1 : Nat) (x2 : Int) : Canonical (measured x0 x1 x2) := by
  unfold measured
  repeat' with_reducible first
      | assumption
      | apply canon_if
      | simp -zeta only [canon_mk, canon_fold]

theorem ptpTouch1_canon {x0 : State} (h : Canonical x0) (x1 : Nat) : Canonical (ptpTouch1 x0 x1) := by
  unfold ptpTouch1
  repeat' with_reducible first
      | assumption
      | apply setPport_canon | apply canon_if

theorem bmcU_canon {x0 : State} (h : Canonical x0) : Canonical (bmcU x0) := by
  unfold bmcU
  repeat' with_reducible first
      | assumption
      | apply setPport_canon | apply canon_if | refine canon_foldl (fun _ _ _ => ?_) ?_
      | simp -zeta only [canon_mk, canon_fold]
      | ((first | intro x | (lift_lets -underBinder; intro x)); first
        | refine canon_cut (x := x) ?_ ?_ <;> [subst x; (intro _; clear_value x)]
        | refine canon_cut1 (x := x) ?_ ?_ <;> [subst x; (intro _; clear_value x)]
        | (refine canon_fun (x := x) ?_; subst x)
        | clear_value x)
      | split

theorem bmcH_canon {x0 : State} (h : Canonical x0) : Canonical (bmcH x0) := by
  unfold bmcH
  repeat' with_reducible first
      | assumption
      | apply setPport_canon | apply canon_if | refine canon_foldl (fun _ _ _ => ?_) ?_
      | simp -zeta only [canon_mk, canon_fold]
      | ((first | intro x | (lift_lets -underBinder; intro x)); first
        | refine canon_cut (x := x) ?_ ?_ <;> [subst x; (intro _; clear_value x)]
        | refine canon_cut1 (x := x) ?_ ?_ <;> [subst x; (intro _; clear_value x)]
        | (refine canon_fun (x := x) ?_; subst x)
        | clear_value x)
      | split

theorem gmShow_canon {x0 : State} (h : Canonical x0) : Canonical (gmShow x0) := by
  unfold gmShow
  repeat' with_reducible first
      | assumption
      | apply setReg_canon | apply raise_canon | apply canon_if

theorem gmTouch_canon {x0 : State} (h : Canonical x0) : Canonical (gmTouch x0) := by
  unfold gmTouch
  repeat' with_reducible first
      | assumption
      | apply gmShow_canon | apply canon_if

theorem ptpSettle_canon {x0 : State} (h : Canonical x0) : Canonical (ptpSettle x0) := by
  unfold ptpSettle
  repeat' with_reducible first
      | assumption
      | apply gmTouch_canon | apply availTouch_canon | apply bmcH_canon | apply bmcU_canon

theorem ptpTouch_canon {x0 : State} (h : Canonical x0) : Canonical (ptpTouch x0) := by
  unfold ptpTouch
  repeat' with_reducible first
      | assumption
      | apply ptpSettle_canon | apply ptpTouch1_canon | refine canon_foldl (fun _ _ _ => ?_) ?_

theorem ptpBad_canon {x0 : State} (h : Canonical x0) (x1 : Nat) : Canonical (ptpBad x0 x1) := by
  unfold ptpBad
  repeat' with_reducible first
      | assumption
      | apply setPport_canon

theorem ptpSendEv_canon {x0 : State} (h : Canonical x0) (x1 : Nat) (x2 : List Byte) (x3 : Option (Nat × Nat)) : Canonical (ptpSendEv x0 x1 x2 x3) := by
  unfold ptpSendEv
  repeat' with_reducible first
      | assumption
      | apply macSendPtp_canon | apply draw_canon | apply canon_if

theorem ptpSend_canon {x0 : State} (h : Canonical x0) (x1 : Nat) (x2 : List Byte) : Canonical (ptpSend x0 x1 x2) := by
  unfold ptpSend
  repeat' with_reducible first
      | assumption
      | apply ptpSendEv_canon

theorem ptpReceive_canon {x0 : State} (h : Canonical x0) (x1 : Nat) (x2 : Nat) (x3 : PtpMsg) : Canonical (ptpReceive x0 x1 x2 x3) := by
  unfold ptpReceive
  repeat' with_reducible first
      | assumption
      | apply ptpBad_canon | apply ptpSend_canon | apply ptpSettle_canon | apply setPport_canon
      | apply measured_canon | apply answered_canon | apply canon_if
      | simp -zeta only [canon_mk, canon_fold]
      | split

theorem ptpSyncSend_canon {x0 : State} (h : Canonical x0) (x1 : Nat) : Canonical (ptpSyncSend x0 x1) := by
  unfold ptpSyncSend
  repeat' with_reducible first
      | assumption
      | apply setPport_canon | apply ptpSendEv_canon | apply canon_if

theorem ptpLeft_canon {x0 : State} (h : Canonical x0) (x1 : Nat) (x2 : Nat) (x3 : Nat) (x4 : Nat) : Canonical (ptpLeft x0 x1 x2 x3 x4) := by
  unfold ptpLeft
  repeat' with_reducible first
      | assumption
      | apply ptpSend_canon | apply setPport_canon | apply canon_if
      | simp -zeta only [canon_mk, canon_fold]
      | split

theorem ptpAnnounceSend_canon {x0 : State} (h : Canonical x0) (x1 : Nat) : Canonical (ptpAnnounceSend x0 x1) := by
  unfold ptpAnnounceSend
  repeat' with_reducible first
      | assumption
      | apply setPport_canon | apply ptpSend_canon | apply canon_if

theorem ptpDelayReqSend_canon {x0 : State} (h : Canonical x0) (x1 : Nat) : Canonical (ptpDelayReqSend x0 x1) := by
  unfold ptpDelayReqSend
  repeat' with_reducible first
      | assumption
      | apply setPport_canon | apply ptpSendEv_canon | apply canon_if

theorem announceTimeout_canon {x0 : State} (h : Canonical x0) (x1 : Nat) : Canonical (announceTimeout x0 x1) := by
  unfold announceTimeout
  repeat' with_reducible first
      | assumption
      | apply raise_canon | apply ptpSettle_canon | apply setPport_canon | apply canon_if

theorem servoMeasurement_canon {x0 : State} (h : Canonical x0) (x1 : Option Nat) : Canonical (servoMeasurement x0 x1).1 := by
  unfold servoMeasurement
  repeat' with_reducible first
      | assumption
      | apply servoTake_canon | apply announceTimeout_canon | apply canon_if

theorem ppsOut_canon {x0 : State} (h : Canonical x0) : Canonical (ppsOut x0) := by
  unfold ppsOut
  repeat' with_reducible first
      | assumption
      | apply canon_if
      | simp -zeta only [canon_mk, canon_fold]

theorem ppsLost_canon {x0 : State} (h : Canonical x0) : Canonical (ppsLost x0) := by
  unfold ppsLost
  repeat' with_reducible first
      | assumption
      | apply availTouch_canon | apply raise_canon | apply canon_if
      | simp -zeta only [canon_mk, canon_fold]
      | split

theorem ppsInEdge_canon {x0 : State} (h : Canonical x0) (x1 : Nat) (x2 : Bool) : Canonical (ppsInEdge x0 x1 x2) := by
  unfold ppsInEdge
  repeat' with_reducible first
      | assumption
      | apply ppsLost_canon | apply setReg_canon | apply measured_canon | apply availTouch_canon
      | apply canon_if
      | simp -zeta only [canon_mk, canon_fold]

theorem domFollow_canon {x0 : State} (h : Canonical x0) (x1 : Nat) : Canonical (domFollow x0 x1) := by
  unfold domFollow
  repeat' with_reducible first
      | assumption
      | apply driveRetime_canon | apply showNext_canon | apply setDom_canon | apply startDomain_canon
      | apply canon_if | refine canon_foldl (fun _ _ _ => ?_) ?_

theorem srcLost_canon {x0 : State} (h : Canonical x0) (x1 : Nat) : Canonical (srcLost x0 x1) := by
  unfold srcLost
  repeat' with_reducible first
      | assumption
      | apply raise_canon | apply canon_if

theorem ltcMissing_canon {x0 : State} (h : Canonical x0) : Canonical (ltcMissing x0) := by
  unfold ltcMissing
  repeat' with_reducible first
      | assumption
      | apply srcLost_canon | apply raise_canon | apply canon_if
      | simp -zeta only [canon_mk, canon_fold]
      | ((first | intro x | (lift_lets -underBinder; intro x)); first
        | refine canon_cut (x := x) ?_ ?_ <;> [subst x; (intro _; clear_value x)]
        | refine canon_cut1 (x := x) ?_ ?_ <;> [subst x; (intro _; clear_value x)]
        | clear_value x)
      | split

theorem ltcFrame_canon {x0 : State} (h : Canonical x0) (x1 : Nat) (x2 : Nat) (x3 : Nat) (x4 : Nat) (x5 : Nat) : Canonical (ltcFrame x0 x1 x2 x3 x4 x5) := by
  unfold ltcFrame
  repeat' with_reducible first
      | assumption
      | apply ltcMissing_canon | apply setRegF_canon | apply setReg_canon | apply srcLost_canon
      | apply raise_canon | apply domFollow_canon | apply restart_canon | apply canon_if | apply canon_if1
      | simp -zeta only [canon_mk, canon_fold]
      | ((first | intro x | (lift_lets -underBinder; intro x)); first
        | refine canon_cut (x := x) ?_ ?_ <;> [subst x; (intro _; clear_value x)]
        | refine canon_cut1 (x := x) ?_ ?_ <;> [subst x; (intro _; clear_value x)]
        | (refine canon_fun (x := x) ?_; subst x)
        | clear_value x)
      | split

theorem wclkMissing_canon {x0 : State} (h : Canonical x0) : Canonical (wclkMissing x0) := by
  unfold wclkMissing
  repeat' with_reducible first
      | assumption
      | apply srcLost_canon | apply raise_canon | apply canon_if
      | simp -zeta only [canon_mk, canon_fold]
      | ((first | intro x | (lift_lets -underBinder; intro x)); first
        | refine canon_cut (x := x) ?_ ?_ <;> [subst x; (intro _; clear_value x)]
        | refine canon_cut1 (x := x) ?_ ?_ <;> [subst x; (intro _; clear_value x)]
        | clear_value x)
      | split

theorem wclkEdge_canon {x0 : State} (h : Canonical x0) (x1 : Nat) : Canonical (wclkEdge x0 x1) := by
  unfold wclkEdge
  repeat' with_reducible first
      | assumption
      | apply wclkMissing_canon | apply srcLost_canon | apply raise_canon | apply domFollow_canon | apply canon_if
      | apply canon_if1
      | simp -zeta only [canon_mk, canon_fold]
      | ((first | intro x | (lift_lets -underBinder; intro x)); first
        | refine canon_cut (x := x) ?_ ?_ <;> [subst x; (intro _; clear_value x)]
        | refine canon_cut1 (x := x) ?_ ?_ <;> [subst x; (intro _; clear_value x)]
        | (refine canon_fun (x := x) ?_; subst x)
        | clear_value x)
      | split

theorem tioWritten_canon {x0 : State} (h : Canonical x0) : Canonical (tioWritten x0) := by
  unfold tioWritten
  repeat' with_reducible first
      | assumption
      | apply srcLost_canon | apply availTouch_canon | apply ppsOut_canon | apply canon_if
      | simp -zeta only [canon_mk, canon_fold]

theorem setMset_canon {x0 : State} (h : Canonical x0) (x1 : Nat) (x2 : MtrSet) : Canonical (State.setMset x0 x1 x2) := by
  unfold State.setMset
  repeat' with_reducible first
      | assumption
      | simp -zeta only [canon_mk, canon_fold]

theorem gapFlags_canon {x0 : State} (h : Canonical x0) (x1 : Nat) (x2 : Nat) (x3 : Bool) : Canonical (gapFlags x0 x1 x2 x3) := by
  unfold gapFlags
  repeat' with_reducible first
      | assumption
      | apply canon_if | refine canon_foldl (fun _ _ _ => ?_) ?_
      | simp -zeta only [canon_mk, canon_fold]
      | ((first | intro x | (lift_lets -underBinder; intro x)); first
        | refine canon_cut (x := x) ?_ ?_ <;> [subst x; (intro _; clear_value x)]
        | refine canon_cut1 (x := x) ?_ ?_ <;> [subst x; (intro _; clear_value x)]
        | clear_value x)

theorem appendGap_canon {x0 : State} (h : Canonical x0) (x1 : Nat) (x2 : Nat) (x3 : Bool) : Canonical (appendGap x0 x1 x2 x3) := by
  unfold appendGap
  repeat' with_reducible first
      | assumption
      | apply gapFlags_canon | apply linSubmit_canon | apply raise_canon | apply canon_if | apply canon_if1
      | simp -zeta only [canon_mk, canon_fold]

theorem bufferSet_canon {x0 : State} (h : Canonical x0) (x1 : Nat) (x2 : Quant) : Canonical (bufferSet x0 x1 x2) := by
  unfold bufferSet
  repeat' with_reducible first
      | assumption
      | apply setMset_canon | apply raise_canon | apply count_canon | apply canon_if

theorem closeLost_canon {x0 : State} (h : Canonical x0) (x1 : Nat) : Canonical (closeLost x0 x1) := by
  unfold closeLost
  repeat' with_reducible first
      | assumption
      | apply appendGap_canon | apply canon_if | refine canon_foldl (fun _ _ _ => ?_) ?_
      | simp -zeta only [canon_mk, canon_fold]
      | split

theorem meaUpdate_canon {x0 : State} (h : Canonical x0) (x1 : MtrSample) (x2 : Nat) : Canonical (meaUpdate x0 x1 x2) := by
  unfold meaUpdate
  repeat' with_reducible first
      | assumption
      | apply setReg_canon | apply setRegB_canon | apply canon_if | apply canon_if1
      | refine canon_foldl (fun _ _ _ => ?_) ?_

theorem neutralCheck_canon {x0 : State} (h : Canonical x0) : Canonical (neutralCheck x0) := by
  unfold neutralCheck
  repeat' with_reducible first
      | assumption
      | apply raise_canon | apply canon_if | refine canon_foldl (fun _ _ _ => ?_) ?_
      | simp -zeta only [canon_mk, canon_fold]
      | split

theorem meterStart_canon {x0 : State} (h : Canonical x0) (x1 : Nat) : Canonical (meterStart x0 x1) := by
  unfold meterStart
  repeat' with_reducible first
      | assumption
      | apply appendGap_canon | apply canon_if
      | simp -zeta only [canon_mk, canon_fold]
      | ((first | intro x | (lift_lets -underBinder; intro x)); first
        | refine canon_cut (x := x) ?_ ?_ <;> [subst x; (intro _; clear_value x)]
        | refine canon_cut1 (x := x) ?_ ?_ <;> [subst x; (intro _; clear_value x)]
        | clear_value x)
      | split

theorem freqLost_canon {x0 : State} (h : Canonical x0) : Canonical (freqLost x0) := by
  unfold freqLost
  repeat' with_reducible first
      | assumption
      | apply raise_canon | apply setRegB_canon | apply canon_if
      | simp -zeta only [canon_mk, canon_fold]

theorem takeSample_canon {x0 : State} (h : Canonical x0) (x1 : MtrSample) (x2 : Nat) : Canonical (takeSample x0 x1 x2) := by
  exact h

theorem quantumChecks_canon {x0 : State} (h : Canonical x0) : Canonical (quantumChecks x0) := by
  unfold quantumChecks
  repeat' with_reducible first
      | assumption
      | apply raise_canon | apply neutralCheck_canon | apply freqLost_canon | apply canon_if
      | simp -zeta only [canon_mk, canon_fold]
      | ((first | intro x | (lift_lets -underBinder; intro x)); first
        | refine canon_cut (x := x) ?_ ?_ <;> [subst x; (intro _; clear_value x)]
        | refine canon_cut1 (x := x) ?_ ?_ <;> [subst x; (intro _; clear_value x)]
        | clear_value x)

theorem closeGap_canon {x0 : State} (h : Canonical x0) (x1 : Nat) : Canonical (closeGap x0 x1) := by
  unfold closeGap
  repeat' with_reducible first
      | assumption
      | apply appendGap_canon
      | simp -zeta only [canon_mk, canon_fold]
      | split

theorem quantFlags_canon {x0 : State} (h : Canonical x0) (x1 : Nat) (x2 : Nat) (x3 : Bool) (x4 : Bool) (x5 : Bool) (x6 : Bool) : Canonical (quantFlags x0 x1 x2 x3 x4 x5 x6) := by
  unfold quantFlags
  repeat' with_reducible first
      | assumption
      | apply canon_if
      | simp -zeta only [canon_mk, canon_fold]
      | ((first | intro x | (lift_lets -underBinder; intro x)); first
        | refine canon_cut (x := x) ?_ ?_ <;> [subst x; (intro _; clear_value x)]
        | refine canon_cut1 (x := x) ?_ ?_ <;> [subst x; (intro _; clear_value x)]
        | clear_value x)

theorem mirAcc_canon {x0 : State} (h : Canonical x0) : Canonical (mirAcc x0) := by
  unfold mirAcc
  repeat' with_reducible first
      | assumption
      | apply streamSend_canon | apply canon_if
      | simp -zeta only [canon_mk, canon_fold]

theorem meterQuantum_canon {x0 : State} (h : Canonical x0) (x1 : MtrSample) : Canonical (meterQuantum x0 x1) := by
  unfold meterQuantum
  repeat' with_reducible first
      | assumption
      | apply quantumChecks_canon | apply takeSample_canon | apply quantFlags_canon | apply meaUpdate_canon
      | apply mirAcc_canon | apply closeLost_canon | apply closeGap_canon | apply meterStart_canon
      | apply bufferSet_canon | apply canon_if | apply canon_if1 | refine canon_foldl (fun _ _ _ => ?_) ?_
      | simp -zeta only [canon_mk, canon_fold]

theorem cycleEnergies_canon {x0 : State} (h : Canonical x0) (x1 : Nat) (x2 : List (Nat × Nat)) : Canonical (cycleEnergies x0 x1 x2) := by
  unfold cycleEnergies
  repeat' with_reducible first
      | assumption
      | apply setMset_canon | apply canon_if
      | simp -zeta only [canon_mk, canon_fold]

theorem lineCycle_canon {x0 : State} (h : Canonical x0) : Canonical (lineCycle x0) := by
  unfold lineCycle
  repeat' with_reducible first
      | assumption
      | apply freqLost_canon | apply cycleEnergies_canon | apply canon_if | apply canon_if1
      | simp -zeta only [canon_mk, canon_fold]
      | split

theorem foldEnqueue1_canon {x0 : State} (h : Canonical x0) (x1 : Nat) : Canonical (foldEnqueue1 x0 x1) := by
  unfold foldEnqueue1
  repeat' with_reducible first
      | assumption
      | apply enqueueIn_canon | apply canon_if | apply canon_if1
      | ((first | intro x | (lift_lets -underBinder; intro x)); first
        | refine canon_cut (x := x) ?_ ?_ <;> [subst x; (intro _; clear_value x)]
        | refine canon_cut1 (x := x) ?_ ?_ <;> [subst x; (intro _; clear_value x)]
        | clear_value x)
      | split

theorem foldEnqueue_canon {x0 : State} (h : Canonical x0) : Canonical (foldEnqueue x0) := by
  unfold foldEnqueue
  repeat' with_reducible first
      | assumption
      | apply foldEnqueue1_canon | refine canon_foldl (fun _ _ _ => ?_) ?_

theorem accAdd_canon {x0 : State} (h : Canonical x0) (x1 : Nat) (x2 : Nat) : Canonical (accAdd x0 x1 x2) := by
  unfold accAdd
  repeat' with_reducible first
      | assumption
      | apply raise_canon | apply count_canon | apply canon_if | refine canon_foldl (fun _ _ _ => ?_) ?_
      | simp -zeta only [canon_mk, canon_fold]

theorem saveStep_canon {x0 : State} (h : Canonical x0) (x1 : Quant) : Canonical (saveStep x0 x1) := by
  unfold saveStep
  repeat' with_reducible first
      | assumption
      | apply canon_if
      | simp -zeta only [canon_mk, canon_fold]

theorem foldQuant_canon {x0 : State} (h : Canonical x0) (x1 : Nat) (x2 : Quant) : Canonical (foldQuant x0 x1 x2) := by
  unfold foldQuant
  repeat' with_reducible first
      | assumption
      | apply saveStep_canon | apply setMset_canon | apply accAdd_canon | apply canon_if | apply canon_if1
      | refine canon_foldl (fun _ _ _ => ?_) ?_
      | simp -zeta only [canon_mk, canon_fold]

theorem intervalClose_canon {x0 : State} (h : Canonical x0) : Canonical (intervalClose x0) := by
  unfold intervalClose
  repeat' with_reducible first
      | assumption
      | apply linSubmit_canon | apply setMset_canon | apply canon_if | apply canon_if1
      | refine canon_foldl (fun _ _ _ => ?_) ?_
      | simp -zeta only [canon_mk, canon_fold]

theorem intervalsClose_canon {x1 : State} (h : Canonical x1) (x0 : Nat) : Canonical (intervalsClose x0 x1) := by
  induction x0 generalizing x1 with
  | zero =>
    unfold intervalsClose
    repeat' with_reducible first
        | assumption
  | succ k ih =>
    unfold intervalsClose
    repeat' with_reducible first
        | assumption
        | apply intervalClose_canon | apply canon_if | apply ih

theorem foldComplete_canon {x0 : State} (h : Canonical x0) : Canonical (foldComplete x0) := by
  unfold foldComplete
  repeat' with_reducible first
      | assumption
      | apply foldQuant_canon | apply setMset_canon | apply completeItem_canon | apply intervalsClose_canon
      | refine canon_foldl (fun _ _ _ => ?_) ?_
      | simp -zeta only [canon_mk, canon_fold]
      | split

theorem energySave_canon {x0 : State} (h : Canonical x0) : Canonical (energySave x0) := by
  unfold energySave
  repeat' with_reducible first
      | assumption
      | apply linSubmit_canon | apply raise_canon | apply canon_if | apply canon_if1
      | refine canon_foldl (fun _ _ _ => ?_) ?_
      | simp -zeta only [canon_mk, canon_fold]
      | ((first | intro x | (lift_lets -underBinder; intro x)); first
        | refine canon_cut (x := x) ?_ ?_ <;> [subst x; (intro _; clear_value x)]
        | refine canon_cut1 (x := x) ?_ ?_ <;> [subst x; (intro _; clear_value x)]
        | clear_value x)
      | split

theorem meterFreeze_canon {x0 : State} (h : Canonical x0) : Canonical (meterFreeze x0) := by
  unfold meterFreeze
  repeat' with_reducible first
      | assumption
      | apply canon_if
      | simp -zeta only [canon_mk, canon_fold]
      | ((first | intro x | (lift_lets -underBinder; intro x)); first
        | refine canon_cut (x := x) ?_ ?_ <;> [subst x; (intro _; clear_value x)]
        | refine canon_cut1 (x := x) ?_ ?_ <;> [subst x; (intro _; clear_value x)]
        | clear_value x)

theorem pulseEmit_canon {x0 : State} (h : Canonical x0) (x1 : Nat) : Canonical (pulseEmit x0 x1) := by
  unfold pulseEmit
  repeat' with_reducible first
      | assumption
      | apply canon_if
      | simp -zeta only [canon_mk, canon_fold]

theorem sealClose_canon {x0 : State} (h : Canonical x0) : Canonical (sealClose x0) := by
  unfold sealClose
  repeat' with_reducible first
      | assumption
      | apply setRegF_canon | apply setRegB_canon | apply raise_canon | apply linSubmit_canon
      | apply canon_if | apply canon_if1
      | simp -zeta only [canon_mk, canon_fold]

theorem sealOpen_canon {x0 : State} (h : Canonical x0) : Canonical (sealOpen x0) := by
  unfold sealOpen
  repeat' with_reducible first
      | assumption
      | apply raise_canon | apply setRegB_canon | apply canon_if

theorem snapTake_canon {x0 : State} (h : Canonical x0) (x1 : Nat) : Canonical (snapTake x0 x1) := by
  unfold snapTake
  repeat' with_reducible first
      | assumption
      | refine canon_foldl (fun _ _ _ => ?_) ?_
      | simp -zeta only [canon_mk, canon_fold]
      | ((first | intro x | (lift_lets -underBinder; intro x)); first
        | refine canon_cut (x := x) ?_ ?_ <;> [subst x; (intro _; clear_value x)]
        | refine canon_cut1 (x := x) ?_ ?_ <;> [subst x; (intro _; clear_value x)]
        | clear_value x)

theorem meterReset_canon {x0 : State} (h : Canonical x0) : Canonical (meterReset x0) := by
  unfold meterReset
  repeat' with_reducible first
      | assumption
      | apply count_canon | apply canon_if | apply canon_if1 | refine canon_foldl (fun _ _ _ => ?_) ?_
      | simp -zeta only [canon_mk, canon_fold]

theorem energyRestore_canon {x0 : State} (h : Canonical x0) (x1 : LRec) (x2 : Bool) : Canonical (energyRestore x0 x1 x2) := by
  unfold energyRestore
  repeat' with_reducible first
      | assumption
      | simp -zeta only [canon_mk, canon_fold]
      | ((first | intro x | (lift_lets -underBinder; intro x)); first
        | refine canon_cut (x := x) ?_ ?_ <;> [subst x; (intro _; clear_value x)]
        | refine canon_cut1 (x := x) ?_ ?_ <;> [subst x; (intro _; clear_value x)]
        | clear_value x)

theorem setHbp_canon {x0 : State} (h : Canonical x0) (x1 : Nat) (x2 : HbPort) : Canonical (State.setHbp x0 x1 x2) := by
  unfold State.setHbp
  repeat' with_reducible first
      | assumption
      | simp -zeta only [canon_mk, canon_fold]

theorem setAddrState_canon {x0 : State} (h : Canonical x0) (x1 : Nat) : Canonical (setAddrState x0 x1) := by
  unfold setAddrState
  repeat' with_reducible first
      | assumption
      | apply setRegF_canon

theorem setRingState_canon {x0 : State} (h : Canonical x0) (x1 : Nat) : Canonical (setRingState x0 x1) := by
  unfold setRingState
  repeat' with_reducible first
      | assumption
      | apply setRegF_canon

theorem ryuOut_canon {x0 : State} (h : Canonical x0) (x1 : Nat) (x2 : Ryu) : Canonical (ryuOut x0 x1 x2) := by
  unfold ryuOut
  repeat' with_reducible first
      | assumption
      | apply macSend_canon

theorem noteSeen_canon {x0 : State} (h : Canonical x0) (x1 : Nat) (x2 : Ryu) : Canonical (noteSeen x0 x1 x2) := by
  unfold noteSeen
  repeat' with_reducible first
      | assumption
      | simp -zeta only [canon_mk, canon_fold]
      | ((first | intro x | (lift_lets -underBinder; intro x)); first
        | refine canon_cut (x := x) ?_ ?_ <;> [subst x; (intro _; clear_value x)]
        | refine canon_cut1 (x := x) ?_ ?_ <;> [subst x; (intro _; clear_value x)]
        | clear_value x)

theorem ryuOriginate_canon {x0 : State} (h : Canonical x0) (x1 : Nat) (x2 : Ryu) : Canonical (ryuOriginate x0 x1 x2) := by
  unfold ryuOriginate
  repeat' with_reducible first
      | assumption
      | apply ryuOut_canon | apply noteSeen_canon
      | split

theorem nextId_canon {x0 : State} (h : Canonical x0) : Canonical (nextId x0) := by
  unfold nextId
  repeat' with_reducible first
      | assumption
      | simp -zeta only [canon_mk, canon_fold]

theorem ryuNew_canon {x0 : State} (h : Canonical x0) (x1 : Nat) (x2 : Nat) (x3 : Nat) (x4 : List Byte) : Canonical (ryuNew x0 x1 x2 x3 x4) := by
  unfold ryuNew
  repeat' with_reducible first
      | assumption
      | apply ryuOriginate_canon | apply nextId_canon

theorem ryuNbr_canon {x0 : State} (h : Canonical x0) (x1 : Nat) (x2 : Nat) (x3 : List Byte) : Canonical (ryuNbr x0 x1 x2 x3) := by
  unfold ryuNbr
  repeat' with_reducible first
      | assumption
      | apply ryuOut_canon | apply nextId_canon | apply canon_if

theorem ryuArrive_canon {x0 : State} (h : Canonical x0) (x1 : Nat) (x2 : Ryu) : Canonical (ryuArrive x0 x1 x2).1 := by
  unfold ryuArrive
  repeat' with_reducible first
      | assumption
      | apply count_canon | apply noteSeen_canon | apply ryuOut_canon | apply canon_if | apply canon_if1

theorem ringSave_canon {x0 : State} (h : Canonical x0) : Canonical (ringSave x0) := by
  unfold ringSave
  repeat' with_reducible first
      | assumption
      | apply linSubmit_canon

theorem sendAnnounce_canon {x0 : State} (h : Canonical x0) : Canonical (sendAnnounce x0) := by
  unfold sendAnnounce
  repeat' with_reducible first
      | assumption
      | apply ryuNew_canon | apply canon_if
      | simp -zeta only [canon_mk, canon_fold]

theorem ringTouch_canon {x0 : State} (h : Canonical x0) : Canonical (ringTouch x0) := by
  unfold ringTouch
  repeat' with_reducible first
      | assumption
      | apply setRegF_canon | apply sendAnnounce_canon | apply setRegB_canon | apply canon_if

theorem setRing_canon {x0 : State} (h : Canonical x0) (x1 : Nat) (x2 : Nat) (x3 : Nat) (x4 : Bool) : Canonical (setRing x0 x1 x2 x3 x4) := by
  unfold setRing
  repeat' with_reducible first
      | assumption
      | apply setEnt_canon | apply ringSave_canon | apply ringTouch_canon | apply raise_canon | apply canon_if

theorem noteRing_canon {x0 : State} (h : Canonical x0) (x1 : Nat) (x2 : Nat) : Canonical (noteRing x0 x1 x2) := by
  unfold noteRing
  repeat' with_reducible first
      | assumption
      | apply canon_if
      | simp -zeta only [canon_mk, canon_fold]

theorem takeAddr_canon {x0 : State} (h : Canonical x0) (x1 : Nat) : Canonical (takeAddr x0 x1) := by
  unfold takeAddr
  repeat' with_reducible first
      | assumption
      | apply setRegF_canon | apply noteRing_canon | apply setRing_canon | apply sendAnnounce_canon
      | apply raise_canon | apply ringTouch_canon | apply ringSave_canon
      | simp -zeta only [canon_mk, canon_fold]

theorem enterJoining_canon {x0 : State} (h : Canonical x0) : Canonical (enterJoining x0) := by
  unfold enterJoining
  repeat' with_reducible first
      | assumption
      | apply setAddrState_canon
      | simp -zeta only [canon_mk, canon_fold]
      | ((first | intro x | (lift_lets -underBinder; intro x)); first
        | refine canon_cut (x := x) ?_ ?_ <;> [subst x; (intro _; clear_value x)])

theorem joinIf_canon {x0 : State} (h : Canonical x0) : Canonical (joinIf x0) := by
  unfold joinIf
  repeat' with_reducible first
      | assumption
      | apply enterJoining_canon | apply canon_if

theorem dropAddr_canon {x0 : State} (h : Canonical x0) : Canonical (dropAddr x0) := by
  unfold dropAddr
  repeat' with_reducible first
      | assumption
      | apply ringTouch_canon | apply setRegB_canon | apply setAddrState_canon | apply setRegF_canon

theorem demote_canon {x0 : State} (h : Canonical x0) : Canonical (demote x0) := by
  unfold demote
  repeat' with_reducible first
      | assumption
      | apply enterJoining_canon | apply ringSave_canon | apply raise_canon | apply dropAddr_canon

theorem joinAnswer_canon {x0 : State} (h : Canonical x0) (x1 : Nat) (x2 : Nat) (x3 : Bool) : Canonical (joinAnswer x0 x1 x2 x3).1 := by
  unfold joinAnswer
  repeat' with_reducible first
      | assumption
      | apply noteRing_canon | apply setRing_canon | apply canon_if | apply canon_if1

theorem hbEval_canon {x0 : State} (h : Canonical x0) (x1 : Nat) : Canonical (hbEval x0 x1) := by
  unfold hbEval
  repeat' with_reducible first
      | assumption
      | apply setRegF_canon | apply setHbp_canon | apply raise_canon | apply joinIf_canon
      | apply setRingState_canon | apply ryuNew_canon | apply canon_if

theorem hbTouch_canon {x0 : State} (h : Canonical x0) : Canonical (hbTouch x0) := by
  unfold hbTouch
  repeat' with_reducible first
      | assumption
      | apply hbEval_canon | apply canon_if

theorem helloSend_canon {x0 : State} (h : Canonical x0) (x1 : Nat) : Canonical (helloSend x0 x1) := by
  unfold helloSend
  repeat' with_reducible first
      | assumption
      | apply ryuNbr_canon | apply setHbp_canon | apply canon_if

theorem helloRx_canon {x0 : State} (h : Canonical x0) (x1 : Nat) (x2 : Nat) (x3 : Nat) (x4 : Nat) (x5 : Bool) : Canonical (helloRx x0 x1 x2 x3 x4 x5) := by
  unfold helloRx
  repeat' with_reducible first
      | assumption
      | apply count_canon | apply hbEval_canon | apply setHbp_canon | apply setRegF_canon
      | apply setReg_canon | apply canon_if

theorem helloLoss_canon {x0 : State} (h : Canonical x0) (x1 : Nat) : Canonical (helloLoss x0 x1) := by
  unfold helloLoss
  repeat' with_reducible first
      | assumption
      | apply hbEval_canon | apply canon_if

theorem breakRx_canon {x0 : State} (h : Canonical x0) (x1 : Nat) (x2 : Nat) : Canonical (breakRx x0 x1 x2) := by
  unfold breakRx
  repeat' with_reducible first
      | assumption
      | apply setRegF_canon | apply raise_canon | apply setRingState_canon | apply canon_if

theorem lapRx_canon {x0 : State} (h : Canonical x0) (x1 : Nat) (x2 : Ryu) : Canonical (lapRx x0 x1 x2) := by
  unfold lapRx
  repeat' with_reducible first
      | assumption
      | apply raise_canon | apply setRingState_canon | apply canon_if
      | simp -zeta only [canon_mk, canon_fold]

theorem dropSvc_canon {x0 : State} (h : Canonical x0) : Canonical (dropSvc x0) := by
  unfold dropSvc
  repeat' with_reducible first
      | assumption
      | apply raise_canon | apply setRegB_canon | apply setRegF_canon

theorem duplicate_canon {x0 : State} (h : Canonical x0) (x1 : Nat) (x2 : Nat) (x3 : Nat) (x4 : Nat) (x5 : Bool) : Canonical (duplicate x0 x1 x2 x3 x4 x5) := by
  unfold duplicate
  repeat' with_reducible first
      | assumption
      | apply noteRing_canon | apply setRing_canon | apply demote_canon | apply dropSvc_canon | apply canon_if

theorem annRx_canon {x0 : State} (h : Canonical x0) (x1 : Nat) (x2 : Nat) (x3 : Nat) : Canonical (annRx x0 x1 x2 x3) := by
  unfold annRx
  repeat' with_reducible first
      | assumption
      | apply duplicate_canon | apply ringTouch_canon | apply noteRing_canon | apply setRing_canon | apply canon_if
      | simp -zeta only [canon_mk, canon_fold]

theorem announceNow_canon {x0 : State} (h : Canonical x0) : Canonical (announceNow x0) := by
  unfold announceNow
  repeat' with_reducible first
      | assumption
      | apply setRing_canon | apply sendAnnounce_canon | apply canon_if

theorem svcRole_canon {x0 : State} (h : Canonical x0) : Canonical (svcRole x0) := by
  unfold svcRole
  repeat' with_reducible first
      | assumption
      | apply setRegB_canon | apply announceNow_canon | apply canon_if
      | simp -zeta only [canon_mk, canon_fold]

theorem takeSvc_canon {x0 : State} (h : Canonical x0) (x1 : Nat) : Canonical (takeSvc x0 x1) := by
  unfold takeSvc
  repeat' with_reducible first
      | assumption
      | apply svcRole_canon | apply noteRing_canon | apply setRing_canon | apply setRegF_canon

theorem annSvcRx_canon {x0 : State} (h : Canonical x0) (x1 : Nat) (x2 : Nat) (x3 : Nat) (x4 : Nat) : Canonical (annSvcRx x0 x1 x2 x3 x4) := by
  unfold annSvcRx
  repeat' with_reducible first
      | assumption
      | apply duplicate_canon | apply noteRing_canon | apply setRing_canon | apply setRegF_canon
      | apply canon_if
      | simp -zeta only [canon_mk, canon_fold]

theorem svcNoroom_canon {x0 : State} (h : Canonical x0) : Canonical (svcNoroom x0) := by
  unfold svcNoroom
  repeat' with_reducible first
      | assumption
      | apply raise_canon
      | simp -zeta only [canon_mk, canon_fold]

theorem joinSend_canon {x0 : State} (h : Canonical x0) : Canonical (joinSend x0) := by
  unfold joinSend
  repeat' with_reducible first
      | assumption
      | apply ryuNew_canon | apply joinAnswer_canon | apply svcNoroom_canon | apply takeSvc_canon | apply canon_if
      | apply canon_if1
      | simp -zeta only [canon_mk, canon_fold]

theorem joinRx_canon {x0 : State} (h : Canonical x0) (x1 : Nat) (x2 : Nat) (x3 : Bool) : Canonical (joinRx x0 x1 x2 x3) := by
  unfold joinRx
  repeat' with_reducible first
      | assumption
      | apply joinAnswer_canon | apply ryuNew_canon | apply canon_if

theorem assignRx_canon {x0 : State} (h : Canonical x0) (x1 : Nat) (x2 : Nat) (x3 : Bool) : Canonical (assignRx x0 x1 x2 x3) := by
  unfold assignRx
  repeat' with_reducible first
      | assumption
      | apply svcNoroom_canon | apply takeSvc_canon | apply setAddrState_canon | apply raise_canon
      | apply takeAddr_canon | apply canon_if
      | simp -zeta only [canon_mk, canon_fold]

theorem selfAssign_canon {x0 : State} (h : Canonical x0) : Canonical (selfAssign x0) := by
  unfold selfAssign
  repeat' with_reducible first
      | assumption
      | apply takeAddr_canon | apply canon_if
      | ((first | intro x | (lift_lets -underBinder; intro x)); first
        | refine canon_cut (x := x) ?_ ?_ <;> [subst x; (intro _; clear_value x)]
        | refine canon_cut1 (x := x) ?_ ?_ <;> [subst x; (intro _; clear_value x)]
        | clear_value x)
      | split

theorem announceSend_canon {x0 : State} (h : Canonical x0) : Canonical (announceSend x0) := by
  unfold announceSend
  repeat' with_reducible first
      | assumption
      | apply announceNow_canon | apply canon_if

theorem presentExpire_canon {x0 : State} (h : Canonical x0) (x1 : Nat) : Canonical (presentExpire x0 x1) := by
  unfold presentExpire
  repeat' with_reducible first
      | assumption
      | apply setRing_canon | apply canon_if

theorem joinWritten_canon {x0 : State} (h : Canonical x0) : Canonical (joinWritten x0) := by
  unfold joinWritten
  repeat' with_reducible first
      | assumption
      | apply joinIf_canon | apply ryuNew_canon | apply ringSave_canon | apply setRing_canon | apply dropAddr_canon
      | apply setAddrState_canon | apply canon_if
      | simp -zeta only [canon_mk, canon_fold]
      | ((first | intro x | (lift_lets -underBinder; intro x)); first
        | refine canon_cut (x := x) ?_ ?_ <;> [subst x; (intro _; clear_value x)])

theorem leaveRx_canon {x0 : State} (h : Canonical x0) (x1 : Nat) (x2 : Nat) : Canonical (leaveRx x0 x1 x2) := by
  unfold leaveRx
  repeat' with_reducible first
      | assumption
      | apply setRing_canon | apply canon_if

theorem forgetEntry_canon {x0 : State} (h : Canonical x0) (x1 : Nat) : Canonical (forgetEntry x0 x1) := by
  unfold forgetEntry
  repeat' with_reducible first
      | assumption
      | apply setRing_canon

theorem forgetSend_canon {x0 : State} (h : Canonical x0) (x1 : Nat) : Canonical (forgetSend x0 x1) := by
  unfold forgetSend
  repeat' with_reducible first
      | assumption
      | apply forgetEntry_canon | apply ryuNew_canon

theorem evqTouch_canon {x0 : State} (h : Canonical x0) : Canonical (evqTouch x0) := by
  unfold evqTouch
  repeat' with_reducible first
      | assumption
      | apply setReg_canon

theorem eventSend_canon {x0 : State} (h : Canonical x0) : Canonical (eventSend x0) := by
  unfold eventSend
  repeat' with_reducible first
      | assumption
      | apply ryuNew_canon
      | simp -zeta only [canon_mk, canon_fold]
      | split

theorem eventRx_canon {x0 : State} (h : Canonical x0) (x1 : EvRx) : Canonical (eventRx x0 x1) := by
  unfold eventRx
  repeat' with_reducible first
      | assumption
      | apply raise_canon | apply count_canon | apply evqTouch_canon | apply canon_if
      | simp -zeta only [canon_mk, canon_fold]

theorem eventPop_canon {x0 : State} (h : Canonical x0) : Canonical (eventPop x0) := by
  unfold eventPop
  repeat' with_reducible first
      | assumption
      | apply evqTouch_canon
      | simp -zeta only [canon_mk, canon_fold]

theorem hbClr_canon {x0 : State} (h : Canonical x0) (x1 : Nat) : Canonical (hbClr x0 x1) := by
  unfold hbClr
  repeat' with_reducible first
      | assumption
      | apply setReg_canon | refine canon_foldl (fun _ _ _ => ?_) ?_

theorem raSend_canon {x0 : State} (h : Canonical x0) (x1 : Nat) (x2 : Nat) (x3 : Bool) : Canonical (raSend x0 x1 x2 x3) := by
  unfold raSend
  repeat' with_reducible first
      | assumption
      | apply ryuOriginate_canon | apply nextId_canon | apply setBreg_canon | apply canon_if
      | simp -zeta only [canon_mk, canon_fold]

theorem raDone_canon {x0 : State} (h : Canonical x0) (x1 : Nat) (x2 : Nat) : Canonical (raDone x0 x1 x2) := by
  unfold raDone
  repeat' with_reducible first
      | assumption
      | apply setBreg_canon
      | simp -zeta only [canon_mk, canon_fold]
      | ((first | intro x | (lift_lets -underBinder; intro x)); first
        | refine canon_cut (x := x) ?_ ?_ <;> [subst x; (intro _; clear_value x)]
        | refine canon_cut1 (x := x) ?_ ?_ <;> [subst x; (intro _; clear_value x)]
        | clear_value x)

theorem raReply_canon {x0 : State} (h : Canonical x0) (x1 : Nat) (x2 : Nat) (x3 : Nat) (x4 : List Word) : Canonical (raReply x0 x1 x2 x3 x4) := by
  unfold raReply
  repeat' with_reducible first
      | assumption
      | apply raise_canon | apply count_canon | apply setBreg_canon | apply raDone_canon | apply canon_if
      | refine canon_foldl (fun _ _ _ => ?_) ?_
      | split

theorem raTimeout_canon {x0 : State} (h : Canonical x0) (x1 : Nat) (x2 : Nat) : Canonical (raTimeout x0 x1 x2) := by
  unfold raTimeout
  repeat' with_reducible first
      | assumption
      | apply raDone_canon | apply canon_if
      | split

theorem raLeft_canon {x0 : State} (h : Canonical x0) (x1 : List Byte) : Canonical (raLeft x0 x1) := by
  unfold raLeft
  repeat' with_reducible first
      | assumption
      | apply raDone_canon | apply canon_if
      | split

theorem updSegments_canon {x0 : State} (h : Canonical x0) (x1 : Nat) (x2 : Nat) (x3 : Nat) (x4 : List Byte) : Canonical (updSegments x0 x1 x2 x3 x4) := by
  unfold updSegments
  repeat' with_reducible first
      | assumption
      | apply ryuNbr_canon | refine canon_foldl (fun _ _ _ => ?_) ?_

theorem updSendChunk_canon {x0 : State} (h : Canonical x0) (x1 : Nat) (x2 : Nat) (x3 : Nat) (x4 : List Byte) : Canonical (updSendChunk x0 x1 x2 x3 x4) := by
  unfold updSendChunk
  repeat' with_reducible first
      | assumption
      | apply updSegments_canon | apply canon_if
      | simp -zeta only [canon_mk, canon_fold]
      | ((first | intro x | (lift_lets -underBinder; intro x)); first
        | refine canon_cut (x := x) ?_ ?_ <;> [subst x; (intro _; clear_value x)])

theorem updSegRx_canon {x0 : State} (h : Canonical x0) (x1 : Nat) (x2 : Nat) (x3 : Nat) (x4 : Nat) (x5 : List Byte) : Canonical (updSegRx x0 x1 x2 x3 x4 x5).1 := by
  unfold updSegRx
  repeat' with_reducible first
      | assumption
      | apply canon_if | apply canon_if1
      | simp -zeta only [canon_mk, canon_fold]

theorem updAckSend_canon {x0 : State} (h : Canonical x0) (x1 : Nat) (x2 : Nat) (x3 : Nat) (x4 : Nat) : Canonical (updAckSend x0 x1 x2 x3 x4) := by
  unfold updAckSend
  repeat' with_reducible first
      | assumption
      | apply ryuNbr_canon

theorem updAckRx_canon {x0 : State} (h : Canonical x0) (x1 : Nat) (x2 : Nat) (x3 : Nat) : Canonical (updAckRx x0 x1 x2 x3) := by
  unfold updAckRx
  repeat' with_reducible first
      | assumption
      | simp -zeta only [canon_mk, canon_fold]

theorem updAckTimeout_canon {x0 : State} (h : Canonical x0) (x1 : Nat) (x2 : Nat) (x3 : Nat) : Canonical (updAckTimeout x0 x1 x2 x3) := by
  unfold updAckTimeout
  repeat' with_reducible first
      | assumption
      | apply count_canon | apply raise_canon | apply updAckRx_canon | apply updSegments_canon | apply canon_if
      | simp -zeta only [canon_mk, canon_fold]
      | ((first | intro x | (lift_lets -underBinder; intro x)); first
        | refine canon_cut (x := x) ?_ ?_ <;> [subst x; (intro _; clear_value x)])
      | split

theorem hbSoftReset_canon {x0 : State} (h : Canonical x0) (x1 : Nat) : Canonical (hbSoftReset x0 x1) := by
  unfold hbSoftReset
  repeat' with_reducible first
      | assumption
      | apply canon_if
      | simp -zeta only [canon_mk, canon_fold]
      | ((first | intro x | (lift_lets -underBinder; intro x)); first
        | refine canon_cut (x := x) ?_ ?_ <;> [subst x; (intro _; clear_value x)]
        | refine canon_cut1 (x := x) ?_ ?_ <;> [subst x; (intro _; clear_value x)]
        | clear_value x)

theorem hbReset_canon {x0 : State} (h : Canonical x0) : Canonical (hbReset x0) := by
  unfold hbReset
  repeat' with_reducible first
      | assumption
      | apply abortCount_canon | apply raDone_canon | refine canon_foldl (fun _ _ _ => ?_) ?_
      | simp -zeta only [canon_mk, canon_fold]
      | ((first | intro x | (lift_lets -underBinder; intro x)); first
        | refine canon_cut (x := x) ?_ ?_ <;> [subst x; (intro _; clear_value x)])

theorem ringRestore_canon {x0 : State} (h : Canonical x0) : Canonical (ringRestore x0) := by
  unfold ringRestore
  repeat' with_reducible first
      | assumption
      | apply setRegF_canon | apply setEnt_canon | apply canon_if
      | refine canon_foldl (fun _ _ _ => ?_) ?_
      | split

theorem appendEnqueue_canon {x0 : State} (h : Canonical x0) : Canonical (appendEnqueue x0) := by
  unfold appendEnqueue
  repeat' with_reducible first
      | assumption
      | apply enqueueIn_canon | apply streamSend_canon | apply canon_if | apply canon_if1
      | simp -zeta only [canon_mk, canon_fold]
      | ((first | intro x | (lift_lets -underBinder; intro x)); first
        | refine canon_cut (x := x) ?_ ?_ <;> [subst x; (intro _; clear_value x)])
      | split

theorem setSect_canon {x0 : State} (h : Canonical x0) (x1 : Nat) (x2 : Sector) : Canonical (setSect x0 x1 x2) := by
  unfold setSect
  repeat' with_reducible first
      | assumption
      | simp -zeta only [canon_mk, canon_fold]

theorem openNew_canon {x0 : State} (h : Canonical x0) (x1 : Nat) : Canonical (openNew x0 x1) := by
  unfold openNew
  repeat' with_reducible first
      | assumption
      | apply setSect_canon | refine canon_foldl (fun _ _ _ => ?_) ?_
      | simp -zeta only [canon_mk, canon_fold]
      | ((first | intro x | (lift_lets -underBinder; intro x)); first
        | refine canon_cut (x := x) ?_ ?_ <;> [subst x; (intro _; clear_value x)]
        | refine canon_cut1 (x := x) ?_ ?_ <;> [subst x; (intro _; clear_value x)]
        | clear_value x)

theorem openFull_canon {x0 : State} (h : Canonical x0) : Canonical (openFull x0) := by
  unfold openFull
  repeat' with_reducible first
      | assumption
      | apply setSect_canon
      | simp -zeta only [canon_mk, canon_fold]
      | split

theorem opt_if {α : Type} {c : Prop} [Decidable c] {o p : Option α} {y : α} {q : Prop} (ho : o = some y → q) (hp : p = some y → q) :
    (if c then o else p) = some y → q := by
  split <;> assumption

theorem placeFor_canon {x0 : State} (h : Canonical x0) (x1 : LRec) : ∀ y ∈ (placeFor x0 x1), Canonical y.1 := by
  intro y hy
  have hp : ∀ (z : State × Nat), some z = some y → Canonical z.1 → Canonical y.1 := fun z e hz => by
    rw [← Option.some.inj e]; exact hz
  revert hy
  unfold placeFor
  simp only [Option.mem_def]
  with_reducible refine opt_if (fun hy => hp _ hy h) ?_
  split
  · exact fun hy => by cases hy
  · exact fun hy => hp _ hy (openNew_canon (openFull_canon h) _)

theorem program_canon {x0 : State} (h : Canonical x0) (x1 : LRec) (x2 : Bool) : ∀ y ∈ (program x0 x1 x2), Canonical y := by
  have hc : ∀ g (t : State), Canonical t → Canonical { t with lin := g } := fun _ _ h => h
  have hs : ∀ (t : State) i x, Canonical t → Canonical (setSect t i x) := fun t i x h => setSect_canon h i x
  intro y hy
  have hp : ∀ (z : State), some z = some y → Canonical z → Canonical y := fun z e hz => by
    rw [← Option.some.inj e]; exact hz
  revert hy
  unfold program
  simp only [Option.mem_def]
  split
  · exact fun hy => by cases hy
  · exact fun hy => hp _ hy (hc _ _ (hs _ _ _ (placeFor_canon h _ _ ‹_›)))

theorem retireOpen_canon {x0 : State} (h : Canonical x0) : Canonical (retireOpen x0) := by
  unfold retireOpen
  repeat' with_reducible first
      | assumption
      | apply setSect_canon | apply raise_canon
      | simp -zeta only [canon_mk, canon_fold]
      | split

theorem appendTry_canon {x0 : State} (h : Canonical x0) (x1 : LRec) (x2 : Nat) : Canonical (appendTry x0 x1 x2).1 := by
  unfold appendTry
  split
  · split
    · exact program_canon h _ _ _ ‹_›
    · exact h
  · split
    · exact h
    · have h1 := program_canon h _ _ _ ‹_›
      split
      · exact program_canon h1 _ _ _ ‹_›
      · exact h1
  · split
    · exact h
    · have h1 := program_canon h _ _ _ ‹_›
      split
      · exact h1
      · have h2 := program_canon h1 _ _ _ ‹_›
        have h3 := retireOpen_canon h2
        simp only []
        split
        · exact program_canon h3 _ _ _ ‹_›
        · exact h3

theorem ackSend_canon {x0 : State} (h : Canonical x0) : Canonical (ackSend x0) := by
  unfold ackSend
  repeat' with_reducible first
      | assumption
      | apply cuffSend_canon
      | split

theorem recDurable_canon {x0 : State} (h : Canonical x0) (x1 : LRec) : Canonical (recDurable x0 x1) := by
  unfold recDurable
  repeat' with_reducible first
      | assumption
      | apply ackSend_canon | apply setReg_canon | apply canon_if
      | simp -zeta only [canon_mk, canon_fold]
      | ((first | intro x | (lift_lets -underBinder; intro x)); first
        | refine canon_cut (x := x) ?_ ?_ <;> [subst x; (intro _; clear_value x)]
        | refine canon_cut1 (x := x) ?_ ?_ <;> [subst x; (intro _; clear_value x)]
        | clear_value x)

theorem appendLost_canon {x0 : State} (h : Canonical x0) (x1 : LRec) : Canonical (appendLost x0 x1) := by
  unfold appendLost
  repeat' with_reducible first
      | assumption
      | apply raise_canon | apply canon_if
      | simp -zeta only [canon_mk, canon_fold]
      | ((first | intro x | (lift_lets -underBinder; intro x)); first
        | refine canon_cut (x := x) ?_ ?_ <;> [subst x; (intro _; clear_value x)]
        | refine canon_cut1 (x := x) ?_ ?_ <;> [subst x; (intro _; clear_value x)]
        | clear_value x)

theorem goAsync_canon {x0 : State} (h : Canonical x0) : Canonical (goAsync x0) := by
  unfold goAsync
  repeat' with_reducible first
      | assumption
      | apply raise_canon | apply canon_if
      | simp -zeta only [canon_mk, canon_fold]

theorem waitOver_canon {x0 : State} (h : Canonical x0) (x1 : Nat) : Canonical (waitOver x0 x1) := by
  unfold waitOver
  repeat' with_reducible first
      | assumption
      | apply goAsync_canon | apply canon_if
      | simp -zeta only [canon_mk, canon_fold]

theorem appendSettle_canon {x0 : State} (h : Canonical x0) : Canonical (appendSettle x0) := by
  unfold appendSettle
  repeat' with_reducible first
      | assumption
      | apply completeItem_canon | apply waitOver_canon | apply canon_if
      | split

theorem appendComplete_canon {x0 : State} (h : Canonical x0) (x1 : Nat) : Canonical (appendComplete x0 x1) := by
  unfold appendComplete
  repeat' with_reducible first
      | assumption
      | apply appendTry_canon | apply failItem_canon | apply raise_canon | apply appendLost_canon
      | apply linFail_canon | apply recDurable_canon | apply completeItem_canon | apply canon_if | apply canon_if1
      | simp -zeta only [canon_mk, canon_fold]
      | ((first | intro x | (lift_lets -underBinder; intro x)); first
        | refine canon_cut (x := x) ?_ ?_ <;> [subst x; (intro _; clear_value x)])
      | split

theorem appendDropped_canon {x0 : State} (h : Canonical x0) (x1 : Drop) (x2 : Item) : Canonical (appendDropped x0 x1 x2) := by
  unfold appendDropped
  repeat' with_reducible first
      | assumption
      | apply appendLost_canon
      | simp -zeta only [canon_mk, canon_fold]
      | ((first | intro x | (lift_lets -underBinder; intro x)); first
        | refine canon_cut (x := x) ?_ ?_ <;> [subst x; (intro _; clear_value x)]
        | refine canon_cut1 (x := x) ?_ ?_ <;> [subst x; (intro _; clear_value x)]
        | clear_value x)
      | split

theorem ckptBegin_canon {x0 : State} (h : Canonical x0) : Canonical (ckptBegin x0) := by
  unfold ckptBegin
  simp only []
  exact canon_if h h

theorem ckptStart_canon {x0 : State} (h : Canonical x0) : Canonical (ckptStart x0) := by
  unfold ckptStart
  repeat' with_reducible first
      | assumption
      | apply ckptBegin_canon | apply canon_if

theorem ckptComplete_canon {x0 : State} (h : Canonical x0) (x1 : Bool) : Canonical (ckptComplete x0 x1) := by
  unfold ckptComplete
  repeat' with_reducible first
      | assumption
      | apply raise_canon | apply count_canon | apply canon_if
      | simp -zeta only [canon_mk, canon_fold]
      | split

theorem sectorErase_canon {x0 : State} (h : Canonical x0) (x1 : Nat) (x2 : Nat) : Canonical (sectorErase x0 x1 x2) := by
  unfold sectorErase
  repeat' with_reducible first
      | assumption
      | apply raise_canon | apply setSect_canon | apply canon_if

theorem linPfail_canon {x0 : State} (h : Canonical x0) : Canonical (linPfail x0) := by
  unfold linPfail
  repeat' with_reducible first
      | assumption
      | apply raise_canon | apply linFail_canon | apply appendLost_canon | apply count_canon | apply canon_if
      | refine canon_foldl (fun _ _ _ => ?_) ?_
      | simp -zeta only [canon_mk, canon_fold]
      | split

theorem slotsHeld_canon {x0 : State} (h : Canonical x0) (x1 : List Bool) : Canonical (slotsHeld x0 x1) := by
  unfold slotsHeld
  repeat' with_reducible first
      | assumption
      | apply canon_if
      | simp -zeta only [canon_mk, canon_fold]

theorem bareSector_canon {x0 : State} (h : Canonical x0) (x1 : Nat) : Canonical (bareSector x0 x1) := by
  unfold bareSector
  repeat' with_reducible first
      | assumption
      | apply setSect_canon | apply canon_if

theorem scanCrc_canon {x0 : State} (h : Canonical x0) (x1 : List (Nat × Nat)) : Canonical (scanCrc x0 x1) := by
  unfold scanCrc
  repeat' with_reducible first
      | assumption
      | apply setSect_canon | apply raise_canon | apply count_canon | apply canon_if | apply canon_if1
      | refine canon_foldl (fun _ _ _ => ?_) ?_

theorem tornTail_canon {x0 : State} (h : Canonical x0) (x1 : Bool) : Canonical (tornTail x0 x1) := by
  unfold tornTail
  repeat' with_reducible first
      | assumption
      | apply raise_canon | apply setSect_canon | apply canon_if
      | simp -zeta only [canon_mk, canon_fold]
      | split

theorem linReplay_canon {x0 : State} (h : Canonical x0) (x1 : ReplayScan) (x2 : Bool) : Canonical (linReplay x0 x1 x2) := by
  unfold linReplay
  repeat' with_reducible first
      | assumption
      | apply bareSector_canon | apply slotsHeld_canon | apply tornTail_canon | apply scanCrc_canon
      | apply openFull_canon | apply setReg_canon | apply raise_canon | apply linPfail_canon | apply canon_if
      | apply canon_if1 | refine canon_foldl (fun _ _ _ => ?_) ?_
      | simp -zeta only [canon_mk, canon_fold]

theorem ackWritten_canon {x0 : State} (h : Canonical x0) : Canonical (ackWritten x0) := by
  unfold ackWritten
  repeat' with_reducible first
      | assumption
      | simp -zeta only [canon_mk, canon_fold]

theorem linRead_canon {x0 : State} (h : Canonical x0) (x1 : Nat) : Canonical (linRead x0 x1) := by
  unfold linRead
  repeat' with_reducible first
      | assumption
      | apply setBreg_canon | refine canon_foldl (fun _ _ _ => ?_) ?_

theorem renewResv_canon {x0 : State} (h : Canonical x0) : Canonical (renewResv x0) := by
  unfold renewResv
  repeat' with_reducible first
      | assumption
      | apply linSubmit_canon | apply canon_if | apply canon_if1
      | simp -zeta only [canon_mk, canon_fold]
      | ((first | intro x | (lift_lets -underBinder; intro x)); first
        | refine canon_cut (x := x) ?_ ?_ <;> [subst x; (intro _; clear_value x)])

theorem takeEpoch_canon {x0 : State} (h : Canonical x0) : Canonical (takeEpoch x0).1 := by
  unfold takeEpoch
  repeat' with_reducible first
      | assumption
      | apply raise_canon | apply renewResv_canon | apply setReg_canon | apply canon_if | apply canon_if1

theorem resyncReq_canon {x0 : State} (h : Canonical x0) : Canonical (resyncReq x0) := by
  unfold resyncReq
  repeat' with_reducible first
      | assumption
      | apply cuffSend_canon
      | simp -zeta only [canon_mk, canon_fold]

theorem showWaiting_canon {x0 : State} (h : Canonical x0) : Canonical (showWaiting x0) := by
  unfold showWaiting
  repeat' with_reducible first
      | assumption
      | apply selectSlot_canon | apply setLay_canon | apply canon_if | refine canon_foldl (fun _ _ _ => ?_) ?_

theorem setRole_canon {x0 : State} (h : Canonical x0) (x1 : Role) : Canonical (setRole x0 x1) := by
  unfold setRole
  repeat' with_reducible first
      | assumption
      | apply ptpTouch_canon | apply svcRole_canon | apply showWaiting_canon | apply raise_canon | apply canon_if
      | simp -zeta only [canon_mk, canon_fold]

theorem blocked_canon {x0 : State} (h : Canonical x0) : Canonical (blocked x0) := by
  unfold blocked
  repeat' with_reducible first
      | assumption
      | apply raise_canon | apply canon_if

theorem enterStandby_canon {x0 : State} (h : Canonical x0) : Canonical (enterStandby x0) := by
  unfold enterStandby
  repeat' with_reducible first
      | assumption
      | apply dropQueue_canon | apply blocked_canon | apply resyncReq_canon | apply setRole_canon | apply canon_if
      | refine canon_foldl (fun _ _ _ => ?_) ?_
      | simp -zeta only [canon_mk, canon_fold]

theorem setTkover_canon {x0 : State} (h : Canonical x0) (x1 : Nat) (x2 : Nat) : Canonical (setTkover x0 x1 x2) := by
  unfold setTkover
  repeat' with_reducible first
      | assumption
      | apply setReg_canon

theorem becomeActive_canon {x0 : State} (h : Canonical x0) : Canonical (becomeActive x0) := by
  unfold becomeActive
  repeat' with_reducible first
      | assumption
      | apply setRole_canon | apply setGap_canon | apply count_canon | refine canon_foldl (fun _ _ _ => ?_) ?_
      | simp -zeta only [canon_mk, canon_fold]

theorem serve_canon {x0 : State} (h : Canonical x0) : Canonical (serve x0).1 := by
  unfold serve
  repeat' with_reducible first
      | assumption
      | apply takeEpoch_canon | apply becomeActive_canon | apply canon_if | apply canon_if1

theorem fencedOut_canon {x0 : State} (h : Canonical x0) : Canonical (fencedOut x0) := by
  unfold fencedOut
  repeat' with_reducible first
      | assumption
      | apply dropQueue_canon | apply raise_canon | apply enterStandby_canon | apply setTkover_canon | apply canon_if
      | refine canon_foldl (fun _ _ _ => ?_) ?_
      | simp -zeta only [canon_mk, canon_fold]

theorem replyFence_canon {x0 : State} (h : Canonical x0) (x1 : Nat) (x2 : Nat) : Canonical (replyFence x0 x1 x2) := by
  unfold replyFence
  repeat' with_reducible first
      | assumption
      | apply fencedOut_canon | apply raise_canon | apply canon_if

theorem bindWritten_canon {x0 : State} (h : Canonical x0) : Canonical (bindWritten x0) := by
  unfold bindWritten
  repeat' with_reducible first
      | assumption
      | apply setReg_canon | apply renewResv_canon | apply setRole_canon | apply canon_if
      | simp -zeta only [canon_mk, canon_fold]
      | ((first | intro x | (lift_lets -underBinder; intro x)); first
        | refine canon_cut (x := x) ?_ ?_ <;> [subst x; (intro _; clear_value x)])
      | split

theorem hbCuffSend_canon {x0 : State} (h : Canonical x0) : Canonical (hbCuffSend x0) := by
  unfold hbCuffSend
  repeat' with_reducible first
      | assumption
      | apply cuffSend_canon | apply canon_if
      | simp -zeta only [canon_mk, canon_fold]

theorem hbRingSend_canon {x0 : State} (h : Canonical x0) : Canonical (hbRingSend x0) := by
  unfold hbRingSend
  repeat' with_reducible first
      | assumption
      | apply ryuNew_canon | apply canon_if
      | simp -zeta only [canon_mk, canon_fold]
      | ((first | intro x | (lift_lets -underBinder; intro x)); first
        | refine canon_cut (x := x) ?_ ?_ <;> [subst x; (intro _; clear_value x)]
        | refine canon_cut1 (x := x) ?_ ?_ <;> [subst x; (intro _; clear_value x)]
        | clear_value x)
      | split

theorem heartbeatSend_canon {x0 : State} (h : Canonical x0) : Canonical (heartbeatSend x0) := by
  unfold heartbeatSend
  repeat' with_reducible first
      | assumption
      | apply renewResv_canon | apply hbRingSend_canon | apply hbCuffSend_canon | apply canon_if

theorem heartbeatRx_canon {x0 : State} (h : Canonical x0) (x1 : Bool) (x2 : Nat) (x3 : Nat) (x4 : Nat) : Canonical (heartbeatRx x0 x1 x2 x3 x4) := by
  unfold heartbeatRx
  repeat' with_reducible first
      | assumption
      | apply setReg_canon | apply raise_canon | apply renewResv_canon | apply enterStandby_canon
      | apply serve_canon | apply fencedOut_canon | apply canon_if | apply canon_if1
      | simp -zeta only [canon_mk, canon_fold]
      | ((first | intro x | (lift_lets -underBinder; intro x)); first
        | refine canon_cut (x := x) ?_ ?_ <;> [subst x; (intro _; clear_value x)]
        | refine canon_cut1 (x := x) ?_ ?_ <;> [subst x; (intro _; clear_value x)]
        | (refine canon_fun (x := x) ?_; subst x)
        | clear_value x)
      | split

theorem heartbeatForeign_canon {x0 : State} (h : Canonical x0) : Canonical (heartbeatForeign x0) := by
  unfold heartbeatForeign
  repeat' with_reducible first
      | assumption
      | apply count_canon

theorem seekTimeout_canon {x0 : State} (h : Canonical x0) : Canonical (seekTimeout x0) := by
  unfold seekTimeout
  repeat' with_reducible first
      | assumption
      | apply serve_canon | apply raise_canon | apply canon_if

theorem streamIn_canon {x0 : State} (h : Canonical x0) (x1 : Nat) : Canonical (streamIn x0 x1).1 := by
  unfold streamIn
  repeat' with_reducible first
      | assumption
      | apply resyncReq_canon | apply canon_if | apply canon_if1
      | simp -zeta only [canon_mk, canon_fold]
      | ((first | intro x | (lift_lets -underBinder; intro x)); first
        | refine canon_cut (x := x) ?_ ?_ <;> [subst x; (intro _; clear_value x)]
        | refine canon_cut1 (x := x) ?_ ?_ <;> [subst x; (intro _; clear_value x)]
        | (refine canon_fun (x := x) ?_; subst x))
      | split

theorem mirrorRecord_canon {x0 : State} (h : Canonical x0) (x1 : Nat) (x2 : LRec) : Canonical (mirrorRecord x0 x1 x2) := by
  unfold mirrorRecord
  repeat' with_reducible first
      | assumption
      | apply linSubmit_canon | apply canon_if | apply canon_if1
      | simp -zeta only [canon_mk, canon_fold]
      | ((first | intro x | (lift_lets -underBinder; intro x)); first
        | refine canon_cut (x := x) ?_ ?_ <;> [subst x; (intro _; clear_value x)]
        | refine canon_cut1 (x := x) ?_ ?_ <;> [subst x; (intro _; clear_value x)])

theorem mirrorAcc_canon {x0 : State} (h : Canonical x0) (x1 : List Word) : Canonical (mirrorAcc x0 x1) := by
  unfold mirrorAcc
  repeat' with_reducible first
      | assumption
      | simp -zeta only [canon_mk, canon_fold]

theorem mirrorReject_canon {x0 : State} (h : Canonical x0) : Canonical (mirrorReject x0) := by
  unfold mirrorReject
  repeat' with_reducible first
      | assumption
      | apply raise_canon | apply count_canon
      | simp -zeta only [canon_mk, canon_fold]

theorem resyncEnd_canon {x0 : State} (h : Canonical x0) (x1 : Nat) : Canonical (resyncEnd x0 x1) := by
  unfold resyncEnd
  repeat' with_reducible first
      | assumption
      | apply raise_canon | apply canon_if
      | simp -zeta only [canon_mk, canon_fold]

theorem layerFollow_canon {x0 : State} (h : Canonical x0) (x1 : Nat) (x2 : EpochPt) (x3 : EpLayer) : Canonical (layerFollow x0 x1 x2 x3) := by
  unfold layerFollow
  repeat' with_reducible first
      | assumption
      | apply setLay_canon | apply showSlot_canon | apply supersede_canon | apply count_canon
      | apply canon_if | refine canon_foldl (fun _ _ _ => ?_) ?_
      | simp -zeta only [canon_mk, canon_fold]
      | ((first | intro x | (lift_lets -underBinder; intro x)); first
        | refine canon_cut (x := x) ?_ ?_ <;> [subst x; (intro _; clear_value x)]
        | refine canon_cut1 (x := x) ?_ ?_ <;> [subst x; (intro _; clear_value x)]
        | (refine canon_fun (x := x) ?_; subst x)
        | clear_value x)
      | split

theorem standbySets_canon {x0 : State} (h : Canonical x0) (x1 : Nat) (x2 : EpochPt) (x3 : Bool) (x4 : List EpLayer) : Canonical (standbySets x0 x1 x2 x3 x4) := by
  unfold standbySets
  repeat' with_reducible first
      | assumption
      | apply applyPend_canon | apply applyTiles_canon | apply applyEngs_canon | apply setLay_canon
      | apply showSlot_canon | apply supersede_canon | apply layerFollow_canon
      | refine canon_foldl (fun _ _ _ => ?_) ?_
      | simp -zeta only [canon_mk, canon_fold]
      | ((first | intro x | (lift_lets -underBinder; intro x)); first
        | refine canon_cut (x := x) ?_ ?_ <;> [subst x; (intro _; clear_value x)]
        | refine canon_cut1 (x := x) ?_ ?_ <;> [subst x; (intro _; clear_value x)]
        | (refine canon_fun (x := x) ?_; subst x)
        | clear_value x)
      | split

theorem pruneShadow_canon {x0 : State} (h : Canonical x0) (x1 : Nat) (x2 : Nat) : Canonical (pruneShadow x0 x1 x2) := by
  unfold pruneShadow
  repeat' with_reducible first
      | assumption
      | simp -zeta only [canon_mk, canon_fold]
      | ((first | intro x | (lift_lets -underBinder; intro x)); first
        | refine canon_cut (x := x) ?_ ?_ <;> [subst x; (intro _; clear_value x)]
        | refine canon_cut1 (x := x) ?_ ?_ <;> [subst x; (intro _; clear_value x)]
        | (refine canon_fun (x := x) ?_; subst x)
        | clear_value x)

theorem epochTimeout_canon {x0 : State} (h : Canonical x0) (x1 : Nat) : Canonical (epochTimeout x0 x1) := by
  unfold epochTimeout
  repeat' with_reducible first
      | assumption | intro _
      | apply processLatch_canon | apply pruneShadow_canon | apply standbySets_canon | apply canon_if
      | simp -zeta only [canon_mk, canon_fold]
      | split

theorem catchUp_canon {x0 : State} (h : Canonical x0) (x1 : Nat) : Canonical (catchUp x0 x1) := by
  unfold catchUp
  repeat' with_reducible first
      | assumption | intro _
      | apply processLatch_canon | apply pruneShadow_canon | apply standbySets_canon
      | refine canon_foldl (fun _ _ _ => ?_) ?_
      | split

theorem partnerLoss_canon {x0 : State} (h : Canonical x0) : Canonical (partnerLoss x0) := by
  unfold partnerLoss
  repeat' with_reducible first
      | assumption
      | apply catchUp_canon | apply serve_canon | apply setTkover_canon | apply raise_canon | apply canon_if
      | apply canon_if1
      | simp -zeta only [canon_mk, canon_fold]
      | ((first | intro x | (lift_lets -underBinder; intro x)); first
        | refine canon_cut (x := x) ?_ ?_ <;> [subst x; (intro _; clear_value x)]
        | refine canon_cut1 (x := x) ?_ ?_ <;> [subst x; (intro _; clear_value x)]
        | clear_value x)
      | split

theorem epochRx_canon {x0 : State} (h : Canonical x0) (x1 : Nat) (x2 : Nat) (x3 : List EpLayer) : Canonical (epochRx x0 x1 x2 x3) := by
  unfold epochRx
  repeat' with_reducible first
      | assumption | intro _
      | apply epochTimeout_canon | apply processLatch_canon | apply pruneShadow_canon | apply standbySets_canon
      | apply canon_if | apply canon_if1
      | simp -zeta only [canon_mk, canon_fold]

theorem digestRx_canon {x0 : State} (h : Canonical x0) (x1 : Nat) (x2 : List (Nat × Nat × Bool × Nat)) : Canonical (digestRx x0 x1 x2) := by
  unfold digestRx
  repeat' with_reducible first
      | assumption
      | apply shadowMatch_canon | apply canon_if | apply canon_if1 | refine canon_foldl (fun _ _ _ => ?_) ?_

theorem calmCheck_canon {x0 : State} (h : Canonical x0) : Canonical (calmCheck x0) := by
  unfold calmCheck
  repeat' with_reducible first
      | assumption
      | apply canon_if
      | simp -zeta only [canon_mk, canon_fold]

theorem ackRx_canon {x0 : State} (h : Canonical x0) (x1 : Nat) : Canonical (ackRx x0 x1) := by
  unfold ackRx
  repeat' with_reducible first
      | assumption
      | apply appendSettle_canon | apply calmCheck_canon | apply mirLag_canon | apply canon_if
      | simp -zeta only [canon_mk, canon_fold]

theorem ackTimeout_canon {x0 : State} (h : Canonical x0) : Canonical (ackTimeout x0) := by
  unfold ackTimeout
  repeat' with_reducible first
      | assumption
      | apply appendSettle_canon | apply goAsync_canon | apply canon_if

theorem sendWrites_canon {x1 : State} (h : Canonical x1) (x0 : Nat) (x2 : List (Nat × Word)) : Canonical (sendWrites x0 x1 x2) := by
  induction x0 generalizing x1 x2 with
  | zero =>
    unfold sendWrites
    repeat' with_reducible first
        | assumption
  | succ k ih =>
    unfold sendWrites
    repeat' with_reducible first
        | assumption
        | apply streamSend_canon | apply ih
        | split

theorem resyncRx_canon {x0 : State} (h : Canonical x0) (x1 : Nat) : Canonical (resyncRx x0 x1) := by
  unfold resyncRx
  repeat' with_reducible first
      | assumption
      | apply sendWrites_canon | apply streamSend_canon | apply resyncEnd_canon | apply canon_if
      | refine canon_foldl (fun _ _ _ => ?_) ?_
      | split

theorem yieldSend_canon {x0 : State} (h : Canonical x0) (x1 : Nat) (x2 : Nat) (x3 : Nat) : Canonical (yieldSend x0 x1 x2 x3) := by
  unfold yieldSend
  repeat' with_reducible first
      | assumption
      | apply cuffSend_canon

theorem yieldStart_canon {x0 : State} (h : Canonical x0) (x1 : Nat) : Canonical (yieldStart x0 x1) := by
  unfold yieldStart
  repeat' with_reducible first
      | assumption
      | apply yieldSend_canon | apply canon_if | apply canon_if1
      | simp -zeta only [canon_mk, canon_fold]

theorem yieldBlocked_canon {x0 : State} (h : Canonical x0) (x1 : Nat) : Canonical (yieldBlocked x0 x1) := by
  unfold yieldBlocked
  repeat' with_reducible first
      | assumption
      | apply raise_canon
      | simp -zeta only [canon_mk, canon_fold]

theorem yieldRx_canon {x0 : State} (h : Canonical x0) (x1 : Nat) (x2 : Nat) (x3 : Nat) : Canonical (yieldRx x0 x1 x2 x3) := by
  unfold yieldRx
  repeat' with_reducible first
      | assumption
      | apply raise_canon | apply cuffSend_canon | apply yieldStart_canon | apply canon_if
      | simp -zeta only [canon_mk, canon_fold]
      | split

theorem yieldTimeout_canon {x0 : State} (h : Canonical x0) : Canonical (yieldTimeout x0) := by
  unfold yieldTimeout
  repeat' with_reducible first
      | assumption
      | apply yieldBlocked_canon | apply canon_if
      | split

theorem yieldAck_canon {x0 : State} (h : Canonical x0) (x1 : Nat) : Canonical (yieldAck x0 x1) := by
  unfold yieldAck
  repeat' with_reducible first
      | assumption
      | apply yieldTimeout_canon | apply yieldBlocked_canon | apply canon_if
      | simp -zeta only [canon_mk, canon_fold]
      | ((first | intro x | (lift_lets -underBinder; intro x)); first
        | refine canon_cut (x := x) ?_ ?_ <;> [subst x; (intro _; clear_value x)])
      | split

theorem yieldRetry_canon {x0 : State} (h : Canonical x0) : Canonical (yieldRetry x0) := by
  unfold yieldRetry
  repeat' with_reducible first
      | assumption
      | apply yieldStart_canon | apply canon_if
      | simp -zeta only [canon_mk, canon_fold]
      | split

theorem catchUpActive_canon {x0 : State} (h : Canonical x0) (x1 : Nat) : Canonical (catchUpActive x0 x1) := by
  unfold catchUpActive
  repeat' with_reducible first
      | assumption
      | apply latchUntil_canon | refine canon_foldl (fun _ _ _ => ?_) ?_

theorem handover_canon {x0 : State} (h : Canonical x0) : Canonical (handover x0) := by
  unfold handover
  repeat' with_reducible first
      | assumption
      | apply enterStandby_canon | apply setTkover_canon | apply catchUpActive_canon | apply serve_canon
      | apply catchUp_canon | apply canon_if | apply canon_if1
      | simp -zeta only [canon_mk, canon_fold]
      | split

theorem fitTouch_canon {x0 : State} (h : Canonical x0) : Canonical (fitTouch x0) := by
  unfold fitTouch
  repeat' with_reducible first
      | assumption
      | apply canon_if
      | simp -zeta only [canon_mk, canon_fold]

theorem reclaim_canon {x0 : State} (h : Canonical x0) : Canonical (reclaim x0) := by
  unfold reclaim
  repeat' with_reducible first
      | assumption
      | apply yieldSend_canon | apply canon_if | apply canon_if1
      | simp -zeta only [canon_mk, canon_fold]
      | split

theorem diagFail_canon {x0 : State} (h : Canonical x0) (x1 : Nat) : Canonical (diagFail x0 x1) := by
  unfold diagFail
  repeat' with_reducible first
      | assumption
      | apply raise_canon | apply yieldStart_canon | apply darkEnter_canon | apply canon_if
      | simp -zeta only [canon_mk, canon_fold]

theorem diagPass_canon {x0 : State} (h : Canonical x0) (x1 : Nat) : Canonical (diagPass x0 x1) := by
  unfold diagPass
  repeat' with_reducible first
      | assumption
      | apply canon_if
      | simp -zeta only [canon_mk, canon_fold]
      | split

theorem diagTouch_canon {x0 : State} (h : Canonical x0) : Canonical (diagTouch x0) := by
  unfold diagTouch
  repeat' with_reducible first
      | assumption
      | apply canon_if | refine canon_foldl (fun _ _ _ => ?_) ?_
      | simp -zeta only [canon_mk, canon_fold]

theorem uplinkDown_canon {x0 : State} (h : Canonical x0) : Canonical (uplinkDown x0) := by
  unfold uplinkDown
  repeat' with_reducible first
      | assumption
      | apply canon_if
      | simp -zeta only [canon_mk, canon_fold]

theorem healthExpiry_canon {x0 : State} (h : Canonical x0) : Canonical (healthExpiry x0) := by
  unfold healthExpiry
  repeat' with_reducible first
      | assumption
      | apply canon_if
      | simp -zeta only [canon_mk, canon_fold]
      | ((first | intro x | (lift_lets -underBinder; intro x)); first
        | refine canon_cut (x := x) ?_ ?_ <;> [subst x; (intro _; clear_value x)]
        | refine canon_cut1 (x := x) ?_ ?_ <;> [subst x; (intro _; clear_value x)]
        | (refine canon_fun (x := x) ?_; subst x)
        | clear_value x)

theorem mirClr_canon {x0 : State} (h : Canonical x0) : Canonical (mirClr x0) := by
  unfold mirClr
  repeat' with_reducible first
      | assumption
      | apply setReg_canon

theorem keyTouch_canon {x0 : State} (h : Canonical x0) : Canonical (keyTouch x0) := by
  unfold keyTouch
  repeat' with_reducible first
      | assumption
      | apply setReg_canon

theorem putSlot_canon {x0 : State} (h : Canonical x0) (x1 : Nat) (x2 : Option (List Byte)) : Canonical (putSlot x0 x1 x2) := by
  unfold putSlot
  repeat' with_reducible first
      | assumption
      | apply keyTouch_canon
      | simp -zeta only [canon_mk, canon_fold]

theorem installSak_canon {x0 : State} (h : Canonical x0) (x1 : Nat) (x2 : Nat) : Canonical (installSak x0 x1 x2) := by
  unfold installSak
  repeat' with_reducible first
      | assumption
      | apply setMac_canon | apply count_canon | apply setRegF_canon | apply canon_if
      | simp -zeta only [canon_mk, canon_fold]

theorem dropSak_canon {x0 : State} (h : Canonical x0) (x1 : Nat) : Canonical (dropSak x0 x1) := by
  unfold dropSak
  repeat' with_reducible first
      | assumption
      | apply setMac_canon

theorem keyRead_canon {x0 : State} (h : Canonical x0) (x1 : Nat) : Canonical (keyRead x0 x1) := by
  unfold keyRead
  repeat' with_reducible first
      | assumption
      | apply setBreg_canon | refine canon_foldl (fun _ _ _ => ?_) ?_

theorem keyWrite_canon {x0 : State} (h : Canonical x0) (x1 : Nat) : Canonical (keyWrite x0 x1) := by
  unfold keyWrite
  repeat' with_reducible first
      | assumption
      | apply putSlot_canon | apply installSak_canon | apply canon_if

theorem keyErase_canon {x0 : State} (h : Canonical x0) (x1 : Nat) : Canonical (keyErase x0 x1) := by
  unfold keyErase
  repeat' with_reducible first
      | assumption
      | apply putSlot_canon | apply dropSak_canon | apply canon_if

theorem startSak_canon {x0 : State} (h : Canonical x0) (x1 : Nat) (x2 : Nat) (x3 : Nat) : Canonical (startSak x0 x1 x2 x3) := by
  unfold startSak
  repeat' with_reducible first
      | assumption
      | apply installSak_canon | apply putSlot_canon | apply draw_canon | apply macSend_canon

theorem sakRekey_canon {x0 : State} (h : Canonical x0) (x1 : Nat) (x2 : Nat) : Canonical (sakRekey x0 x1 x2) := by
  unfold sakRekey
  repeat' with_reducible first
      | assumption
      | apply setRegB_canon | apply startSak_canon | apply canon_if
      | ((first | intro x | (lift_lets -underBinder; intro x)); first
        | refine canon_cut (x := x) ?_ ?_ <;> [subst x; (intro _; clear_value x)]
        | refine canon_cut1 (x := x) ?_ ?_ <;> [subst x; (intro _; clear_value x)]
        | clear_value x)
      | split

theorem setGfrz_canon {x0 : State} (h : Canonical x0) (x1 : Bool) : Canonical (setGfrz x0 x1) := by
  unfold setGfrz
  repeat' with_reducible first
      | assumption
      | apply setRegB_canon | apply canon_if | refine canon_foldl (fun _ _ _ => ?_) ?_

theorem levelEffects_canon {x0 : State} (h : Canonical x0) (x1 : Nat) : Canonical (levelEffects x0 x1) := by
  unfold levelEffects
  repeat' with_reducible first
      | assumption
      | apply setGfrz_canon | apply keyTouch_canon | apply removeSas_canon | apply canon_if
      | refine canon_foldl (fun _ _ _ => ?_) ?_
      | simp -zeta only [canon_mk, canon_fold]

theorem lowerLevel_canon {x0 : State} (h : Canonical x0) (x1 : Nat) : Canonical (lowerLevel x0 x1) := by
  unfold lowerLevel
  repeat' with_reducible first
      | assumption
      | apply raise_canon | apply setGfrz_canon | apply canon_if
      | simp -zeta only [canon_mk, canon_fold]

theorem alarmSubmit_canon {x0 : State} (h : Canonical x0) (x1 : AlarmE) : Canonical (alarmSubmit x0 x1).1 := by
  unfold alarmSubmit
  repeat' with_reducible first
      | assumption
      | apply linSubmit_canon | apply canon_if | apply canon_if1

theorem alarmLog_canon {x0 : State} (h : Canonical x0) (x1 : Nat) (x2 : Nat) (x3 : Nat) : Canonical (alarmLog x0 x1 x2 x3) := by
  unfold alarmLog
  repeat' with_reducible first
      | assumption
      | apply alarmSubmit_canon | apply raise_canon | apply canon_if | apply canon_if1
      | simp -zeta only [canon_mk, canon_fold]
      | ((first | intro x | (lift_lets -underBinder; intro x)); first
        | refine canon_cut (x := x) ?_ ?_ <;> [subst x; (intro _; clear_value x)])

theorem alarmResend_canon {x0 : State} (h : Canonical x0) : Canonical (alarmResend x0) := by
  unfold alarmResend
  have hf : ∀ (l : List AlarmE) (r : State × List AlarmE), Canonical r.1 →
      Canonical (l.foldr (fun e a => let x := alarmSubmit a.1 e; (x.1, x.2 :: a.2)) r).1 := by
    intro l r hr
    induction l with
    | nil => exact hr
    | cons e l ih => exact alarmSubmit_canon ih e
  have hc : ∀ g (t : State), Canonical t → Canonical { t with gnt := g } := fun _ _ h => h
  exact hc _ _ (hf _ _ h)

theorem trip1_canon {x0 : State} (h : Canonical x0) (x1 : Nat) (x2 : Nat) : Canonical (trip1 x0 x1 x2) := by
  unfold trip1
  repeat' with_reducible first
      | assumption
      | apply setRegB_canon | apply alarmLog_canon | apply levelEffects_canon | apply raise_canon
      | apply canon_if
      | simp -zeta only [canon_mk, canon_fold]

theorem trip_canon {x0 : State} (h : Canonical x0) (x1 : Nat) (x2 : Nat) : Canonical (trip x0 x1 x2) := by
  unfold trip
  repeat' with_reducible first
      | assumption
      | apply trip1_canon | apply canon_if
      | simp -zeta only [canon_mk, canon_fold]

theorem sensorSample_canon {x0 : State} (h : Canonical x0) (x1 : Nat) : Canonical (sensorSample x0 x1) := by
  unfold sensorSample
  repeat' with_reducible first
      | assumption
      | apply setRegF_canon | apply trip_canon | apply canon_if | refine canon_foldl (fun _ _ _ => ?_) ?_
      | simp -zeta only [canon_mk, canon_fold]

theorem glitchTrip_canon {x0 : State} (h : Canonical x0) (x1 : Nat) (x2 : Bool) : Canonical (glitchTrip x0 x1 x2) := by
  unfold glitchTrip
  repeat' with_reducible first
      | assumption
      | apply setRegB_canon | apply trip_canon | apply canon_if

theorem cmdGo_canon {x0 : State} (h : Canonical x0) (x1 : Nat) : Canonical (cmdGo x0 x1) := by
  unfold cmdGo
  repeat' with_reducible first
      | assumption
      | apply setReg_canon
      | simp -zeta only [canon_mk, canon_fold]

theorem cmdEnd_canon {x0 : State} (h : Canonical x0) (x1 : Nat) (x2 : Nat) : Canonical (cmdEnd x0 x1 x2) := by
  unfold cmdEnd
  repeat' with_reducible first
      | assumption
      | apply draw_canon | apply setReg_canon | apply raise_canon | apply alarmLog_canon
      | apply trip1_canon | apply canon_if | apply canon_if1 | refine canon_foldl (fun _ _ _ => ?_) ?_
      | simp -zeta only [canon_mk, canon_fold]

theorem cmdRun_canon {x0 : State} (h : Canonical x0) (x1 : Nat) (x2 : State → List Byte → State)
    (he : ∀ t b, Canonical t → Canonical (x2 t b)) : Canonical (cmdRun x0 x1 x2) := by
  unfold cmdRun
  split
  · split
    · exact cmdEnd_canon (he _ _ h) _ _
    · exact h
  · exact h

theorem cmdFail_canon {x0 : State} (h : Canonical x0) : Canonical (cmdFail x0) := by
  unfold cmdFail
  repeat' with_reducible first
      | assumption
      | apply cmdEnd_canon | apply canon_if
      | split

theorem setPolicy_canon {x0 : State} (h : Canonical x0) : Canonical (setPolicy x0) := by
  unfold setPolicy
  repeat' with_reducible first
      | assumption | intro _
      | apply cmdRun_canon | apply setReg_canon | refine canon_foldl (fun _ _ _ => ?_) ?_
      | simp -zeta only [canon_mk, canon_fold]
      | ((first | intro x | (lift_lets -underBinder; intro x)); first
        | refine canon_cut (x := x) ?_ ?_ <;> [subst x; (intro _; clear_value x)])

theorem setLevel_canon {x0 : State} (h : Canonical x0) : Canonical (setLevel x0) := by
  unfold setLevel
  repeat' with_reducible first
      | assumption | intro _
      | apply cmdRun_canon | apply lowerLevel_canon

theorem unsealMeter_canon {x0 : State} (h : Canonical x0) : Canonical (unsealMeter x0) := by
  unfold unsealMeter
  repeat' with_reducible first
      | assumption | intro _
      | apply cmdRun_canon | apply sealOpen_canon

theorem disarm_canon {x0 : State} (h : Canonical x0) : Canonical (disarm x0) := by
  unfold disarm
  repeat' with_reducible first
      | assumption | intro _
      | apply cmdRun_canon
      | simp -zeta only [canon_mk, canon_fold]

theorem setPubkey_canon {x0 : State} (h : Canonical x0) : Canonical (setPubkey x0) := by
  unfold setPubkey
  repeat' with_reducible first
      | assumption | intro _
      | apply cmdRun_canon | apply putSlot_canon

theorem provision_canon {x0 : State} (h : Canonical x0) : Canonical (provision x0) := by
  unfold provision
  repeat' with_reducible first
      | assumption | intro _
      | apply cmdRun_canon | apply putSlot_canon | apply draw_canon | apply lowerLevel_canon | apply canon_if
      | simp -zeta only [canon_mk, canon_fold]
      | ((first | intro x | (lift_lets -underBinder; intro x)); first
        | refine canon_cut (x := x) ?_ ?_ <;> [subst x; (intro _; clear_value x)])

theorem cellLow_canon {x0 : State} (h : Canonical x0) : Canonical (cellLow x0) := by
  unfold cellLow
  repeat' with_reducible first
      | assumption
      | apply raise_canon

theorem cellFail_canon {x0 : State} (h : Canonical x0) : Canonical (cellFail x0) := by
  unfold cellFail
  repeat' with_reducible first
      | assumption
      | apply keyTouch_canon | apply canon_if | refine canon_foldl (fun _ _ _ => ?_) ?_
      | simp -zeta only [canon_mk, canon_fold]

theorem cellLostReset_canon {x0 : State} (h : Canonical x0) : Canonical (cellLostReset x0) := by
  unfold cellLostReset
  repeat' with_reducible first
      | assumption
      | apply raise_canon | apply alarmLog_canon | apply levelEffects_canon | apply canon_if
      | simp -zeta only [canon_mk, canon_fold]

theorem updStat_canon {x0 : State} (h : Canonical x0) (x1 : Nat) (x2 : Nat) : Canonical (updStat x0 x1 x2) := by
  unfold updStat
  repeat' with_reducible first
      | assumption
      | apply setReg_canon

theorem updProg_canon {x0 : State} (h : Canonical x0) : Canonical (updProg x0) := by
  unfold updProg
  repeat' with_reducible first
      | assumption
      | apply setReg_canon

theorem chunkStore_canon {x0 : State} (h : Canonical x0) (x1 : Nat) (x2 : List Byte) : Canonical (chunkStore x0 x1 x2) := by
  unfold chunkStore
  repeat' with_reducible first
      | assumption
      | apply setReg_canon | apply raise_canon | apply updProg_canon | apply canon_if
      | simp -zeta only [canon_mk, canon_fold]

theorem updSeg_canon {x0 : State} (h : Canonical x0) (x1 : Nat) (x2 : Nat) (x3 : Nat) (x4 : Nat) (x5 : List Byte) : Canonical (updSeg x0 x1 x2 x3 x4 x5) := by
  unfold updSeg
  repeat' with_reducible first
      | assumption
      | apply updSegRx_canon | apply updAckSend_canon | apply updSendChunk_canon | apply chunkStore_canon
      | apply canon_if | apply canon_if1
      | ((first | intro x | (lift_lets -underBinder; intro x)); first
        | refine canon_cut (x := x) ?_ ?_ <;> [subst x; (intro _; clear_value x)]
        | refine canon_cut1 (x := x) ?_ ?_ <;> [subst x; (intro _; clear_value x)])
      | split

theorem updSubmit_canon {x0 : State} (h : Canonical x0) (x1 : Nat) : Canonical (updSubmit x0 x1) := by
  unfold updSubmit
  repeat' with_reducible first
      | assumption
      | apply updSendChunk_canon | apply updStat_canon | apply chunkStore_canon | apply raise_canon
      | refine canon_foldl (fun _ _ _ => ?_) ?_
      | ((first | intro x | (lift_lets -underBinder; intro x)); first
        | refine canon_cut (x := x) ?_ ?_ <;> [subst x; (intro _; clear_value x)]
        | refine canon_cut1 (x := x) ?_ ?_ <;> [subst x; (intro _; clear_value x)]
        | (refine canon_fun (x := x) ?_; subst x)
        | clear_value x)
      | split

theorem clearStaging_canon {x0 : State} (h : Canonical x0) : Canonical (clearStaging x0) := by
  unfold clearStaging
  have hc : Canonical { x0 with tabs := x0.tabs.filter (fun e => e.1 / 0x100000000 != tUPDB), upd := { x0.upd with chunks := [] } } :=
    ⟨h.1, h.2.1, SMap.wf_filter h.2.2.1 _, h.2.2.2⟩
  exact updProg_canon (setReg_canon (setReg_canon hc _ _) _ _)

theorem updApply_canon {x0 : State} (h : Canonical x0) : Canonical (updApply x0) := by
  unfold updApply
  repeat' with_reducible first
      | assumption
      | apply raise_canon | apply updStat_canon | apply canon_if
      | simp -zeta only [canon_mk, canon_fold]

theorem applyStop_canon {x0 : State} (h : Canonical x0) : Canonical (applyStop x0) := by
  unfold applyStop
  repeat' with_reducible first
      | assumption
      | simp -zeta only [canon_mk, canon_fold]

theorem applyFail_canon {x0 : State} (h : Canonical x0) : Canonical (applyFail x0) := by
  unfold applyFail
  repeat' with_reducible first
      | assumption
      | apply raise_canon | apply applyStop_canon

theorem applyComplete_canon {x0 : State} (h : Canonical x0) (x1 : Nat) : Canonical (applyComplete x0 x1) := by
  unfold applyComplete
  repeat' with_reducible first
      | assumption
      | apply applyFail_canon | apply updStat_canon | apply raise_canon | apply canon_if
      | simp -zeta only [canon_mk, canon_fold]
      | split

theorem updTouch_canon {x0 : State} (h : Canonical x0) : Canonical (updTouch x0) := by
  unfold updTouch
  repeat' with_reducible first
      | assumption
      | apply applyFail_canon | apply raise_canon | apply updStat_canon | apply applyStop_canon | apply canon_if

theorem updCancel_canon {x0 : State} (h : Canonical x0) : Canonical (updCancel x0) := by
  unfold updCancel
  repeat' with_reducible first
      | assumption
      | apply clearStaging_canon | apply updStat_canon
      | simp -zeta only [canon_mk, canon_fold]

theorem updActivate_canon {x0 : State} (h : Canonical x0) : Canonical (updActivate x0) := by
  unfold updActivate
  repeat' with_reducible first
      | assumption
      | apply updStat_canon | apply canon_if
      | simp -zeta only [canon_mk, canon_fold]

theorem pauseStart_canon {x0 : State} (h : Canonical x0) : Canonical (pauseStart x0) := by
  unfold pauseStart
  repeat' with_reducible first
      | assumption
      | apply linSubmit_canon
      | simp -zeta only [canon_mk, canon_fold]

theorem activationStart_canon {x0 : State} (h : Canonical x0) : Canonical (activationStart x0) := by
  unfold activationStart
  repeat' with_reducible first
      | assumption
      | apply yieldStart_canon | apply raise_canon | apply updStat_canon | apply pauseStart_canon | apply canon_if
      | simp -zeta only [canon_mk, canon_fold]
      | split

theorem pauseOver_canon {x0 : State} (h : Canonical x0) : Canonical (pauseOver x0) := by
  unfold pauseOver
  repeat' with_reducible first
      | assumption
      | apply setGfrz_canon | apply canon_if

theorem imageRuns_canon {x0 : State} (h : Canonical x0) (x1 : Nat) : Canonical (imageRuns x0 x1) := by
  unfold imageRuns
  repeat' with_reducible first
      | assumption
      | apply setReg_canon
      | simp -zeta only [canon_mk, canon_fold]

theorem activated_canon {x0 : State} (h : Canonical x0) : Canonical (activated x0) := by
  unfold activated
  repeat' with_reducible first
      | assumption
      | apply imageRuns_canon | apply raise_canon | apply clearStaging_canon | apply pauseOver_canon | apply canon_if
      | simp -zeta only [canon_mk, canon_fold]
      | split

theorem activationRevert_canon {x0 : State} (h : Canonical x0) : Canonical (activationRevert x0) := by
  unfold activationRevert
  repeat' with_reducible first
      | assumption
      | apply pauseOver_canon | apply updStat_canon | apply linSubmit_canon | apply canon_if | apply canon_if1
      | simp -zeta only [canon_mk, canon_fold]
      | split

theorem pathHold_canon {x0 : State} (h : Canonical x0) (x1 : Nat) : Canonical (pathHold x0 x1) := by
  unfold pathHold
  repeat' with_reducible first
      | assumption
      | simp -zeta only [canon_mk, canon_fold]

theorem calRes_canon {x0 : State} (h : Canonical x0) (x1 : Nat) : Canonical (calRes x0 x1) := by
  unfold calRes
  repeat' with_reducible first
      | assumption
      | apply linSubmit_canon | apply setQty_canon

theorem calAbandon_canon {x0 : State} (h : Canonical x0) (x1 : Nat) : Canonical (calAbandon x0 x1) := by
  unfold calAbandon
  repeat' with_reducible first
      | assumption
      | apply raise_canon | apply setQty_canon | apply idle_canon | apply canon_if

theorem calDropped_canon {x0 : State} (h : Canonical x0) (x1 : Item) : Canonical (calDropped x0 x1) := by
  unfold calDropped
  repeat' with_reducible first
      | assumption
      | apply calAbandon_canon | apply canon_if

theorem calNext_canon {x0 : State} (h : Canonical x0) (x1 : Nat) (x2 : Nat) (x3 : Int) (x4 : Nat) : Canonical (calNext x0 x1 x2 x3 x4) := by
  unfold calNext
  repeat' with_reducible first
      | assumption
      | apply enqueueIn_canon | apply calAbandon_canon | apply canon_if

theorem calTry_canon {x0 : State} (h : Canonical x0) (x1 : Nat) (x2 : Bool) : Canonical (calTry x0 x1 x2) := by
  unfold calTry
  repeat' with_reducible first
      | assumption
      | apply enqueueIn_canon | apply setQty_canon | apply canon_if

theorem calMake_canon {x0 : State} (h : Canonical x0) (x1 : Nat) : Canonical (calMake x0 x1) := by
  unfold calMake
  repeat' with_reducible first
      | assumption
      | apply setQty_canon | apply canon_if

theorem calDue_canon {x0 : State} (h : Canonical x0) (x1 : Nat) (x2 : Bool) : Canonical (calDue x0 x1 x2) := by
  unfold calDue
  repeat' with_reducible first
      | assumption
      | apply calMake_canon | apply calTry_canon | apply setQty_canon | apply canon_if

theorem calHeat_canon {x0 : State} {x1 : State} (h : Canonical x0) (h1 : Canonical x1) : Canonical (calHeat x0 x1) := by
  unfold calHeat
  repeat' with_reducible first
      | assumption
      | apply setQty_canon | apply canon_if | refine canon_foldl (fun _ _ _ => ?_) ?_

theorem calFirst_canon {x0 : State} (h : Canonical x0) : Canonical (calFirst x0) := by
  unfold calFirst
  repeat' with_reducible first
      | assumption
      | apply setQty_canon | apply canon_if | refine canon_foldl (fun _ _ _ => ?_) ?_

theorem sclAll_canon {x0 : State} (h : Canonical x0) : Canonical (sclAll x0) := by
  unfold sclAll
  repeat' with_reducible first
      | assumption
      | apply calTry_canon | apply calMake_canon | refine canon_foldl (fun _ _ _ => ?_) ?_

theorem sclOne_canon {x0 : State} (h : Canonical x0) (x1 : Nat) : Canonical (sclOne x0 x1) := by
  unfold sclOne
  repeat' with_reducible first
      | assumption
      | apply calTry_canon | apply calMake_canon

theorem calJudge_canon {x0 : State} (h : Canonical x0) (x1 : Nat) : Canonical (calJudge x0 x1) := by
  unfold calJudge
  repeat' with_reducible first
      | assumption
      | apply raise_canon | apply setQty_canon | apply calRes_canon | apply calNext_canon | apply idle_canon
      | apply canon_if

theorem calTap_canon {x0 : State} (h : Canonical x0) (x1 : Nat) (x2 : Item) : Canonical (calTap x0 x1 x2) := by
  unfold calTap
  repeat' with_reducible first
      | assumption
      | apply pathHold_canon | apply raise_canon | apply calRes_canon | apply setQty_canon | apply calNext_canon
      | apply idle_canon | apply canon_if

theorem calStepComplete_canon {x0 : State} (h : Canonical x0) (x1 : Option Int) : Canonical (calStepComplete x0 x1) := by
  unfold calStepComplete
  repeat' with_reducible first
      | assumption
      | apply failItem_canon | apply completeItem_canon | apply calNext_canon | apply setQty_canon
      | apply calJudge_canon | apply calTap_canon | apply canon_if
      | simp -zeta only [canon_mk, canon_fold]
      | ((first | intro x | (lift_lets -underBinder; intro x)); first
        | refine canon_cut (x := x) ?_ ?_ <;> [subst x; (intro _; clear_value x)]
        | refine canon_cut1 (x := x) ?_ ?_ <;> [subst x; (intro _; clear_value x)]
        | clear_value x)
      | split

theorem calRestore_canon {x0 : State} (h : Canonical x0) : Canonical (calRestore x0) := by
  unfold calRestore
  repeat' with_reducible first
      | assumption
      | apply setQty_canon | refine canon_foldl (fun _ _ _ => ?_) ?_
      | simp -zeta only [canon_mk, canon_fold]
      | split

theorem post_canon {x0 : State} (h : Canonical x0) (x1 : Nat) (x2 : Nat) : Canonical (post x0 x1 x2) := by
  unfold post
  repeat' with_reducible first
      | assumption
      | apply setReg_canon | apply calFirst_canon | apply canon_if

theorem testEnqueue_canon {x0 : State} (h : Canonical x0) (x1 : Nat) : Canonical (testEnqueue x0 x1) := by
  unfold testEnqueue
  repeat' with_reducible first
      | assumption
      | apply enqueueIn_canon | apply canon_if | apply canon_if1
      | simp -zeta only [canon_mk, canon_fold]
      | ((first | intro x | (lift_lets -underBinder; intro x)); first
        | refine canon_cut (x := x) ?_ ?_ <;> [subst x; (intro _; clear_value x)]
        | refine canon_cut1 (x := x) ?_ ?_ <;> [subst x; (intro _; clear_value x)]
        | clear_value x)

theorem testComplete_canon {x0 : State} (h : Canonical x0) (x1 : Nat) (x2 : Nat) : Canonical (testComplete x0 x1 x2).1 := by
  unfold testComplete
  repeat' with_reducible first
      | assumption
      | apply setRegF_canon | apply completeItem_canon | apply failItem_canon | apply raise_canon
      | apply count_canon | apply canon_if | apply canon_if1
      | simp -zeta only [canon_mk, canon_fold]
      | split

theorem scrubTick_canon {x0 : State} (h : Canonical x0) : Canonical (scrubTick x0) := by
  unfold scrubTick
  repeat' with_reducible first
      | assumption
      | apply setReg_canon | apply canon_if

theorem scrubError_canon {x0 : State} (h : Canonical x0) (x1 : Nat) (x2 : Bool) : Canonical (scrubError x0 x1 x2) := by
  unfold scrubError
  repeat' with_reducible first
      | assumption
      | apply setReg_canon | apply fstUe_canon | apply count_canon | apply raise_canon | apply canon_if
      | simp -zeta only [canon_mk, canon_fold]

theorem passDone_canon {x0 : State} (h : Canonical x0) : Canonical (passDone x0) := by
  unfold passDone
  repeat' with_reducible first
      | assumption
      | apply raise_canon | apply setReg_canon | apply canon_if
      | simp -zeta only [canon_mk, canon_fold]

end Sys2Proof.Machine
end

