-- ==== Sys2Proof/Laws/CanonBus.lean ====
section
/-! SUPPORT. The canonical form of the sparse stores is kept by every operation: supply and resets, the control bus, frame reception and what follows a step. One lemma for
each operation, named after it. -/

namespace Sys2Proof.Machine
open Sys2Proof

theorem deviceReset_canon {x0 : State} (h : Canonical x0) (x1 : Nat) (x2 : Nat) : Canonical (deviceReset x0 x1 x2) := by
  unfold deviceReset
  repeat' with_reducible first
      | assumption
      | apply count_canon | apply setRegF_canon | apply trip1_canon | apply cellLostReset_canon
      | apply setGfrz_canon | apply rstLow_canon | apply canon_if | apply canon_if1
      | refine canon_foldl (fun _ _ _ => ?_) ?_ | exact canonM_reset h _
      | simp -zeta only [canon_mk, canon_fold]

theorem release_canon {x0 : State} (h : Canonical x0) : Canonical (release x0) := by
  unfold release
  repeat' with_reducible first
      | assumption
      | simp -zeta only [canon_mk, canon_fold]

theorem letGo_canon {x0 : State} (h : Canonical x0) (x1 : Int) : Canonical (letGo x0 x1) := by
  unfold letGo
  repeat' with_reducible first
      | assumption
      | apply release_canon | apply canon_if
      | simp -zeta only [canon_mk, canon_fold]

theorem restart_canon {x0 : State} (h : Canonical x0) (x1 : Nat) : Canonical (restart x0 x1) := by
  unfold restart
  repeat' with_reducible first
      | assumption
      | apply letGo_canon | apply deviceReset_canon

theorem secureBoot_canon {x0 : State} (h : Canonical x0) : Canonical (secureBoot x0) := by
  unfold secureBoot
  repeat' with_reducible first
      | assumption
      | apply setReg_canon | apply imageRuns_canon | apply canon_if

theorem islandStart_canon {x0 : State} (h : Canonical x0) : Canonical (islandStart x0) := by
  unfold islandStart
  repeat' with_reducible first
      | assumption
      | apply secureBoot_canon | apply raise_canon | apply canon_if
      | simp -zeta only [canon_mk, canon_fold]
      | split

theorem supplyBand_canon {x0 : State} (h : Canonical x0) (x1 : Nat) (x2 : Nat) (x3 : Nat) : Canonical (supplyBand x0 x1 x2 x3) := by
  unfold supplyBand
  repeat' with_reducible first
      | assumption
      | apply setReg_canon | apply raise_canon | apply canon_if
      | simp -zeta only [canon_mk, canon_fold]

theorem powerSteps_canon {x0 : State} (h : Canonical x0) : Canonical (powerSteps x0) := by
  unfold powerSteps
  repeat' with_reducible first
      | assumption
      | apply meterFreeze_canon | apply darkEnter_canon | apply linPfail_canon | apply applyFail_canon
      | apply canon_if

theorem powerFail_canon {x0 : State} (h : Canonical x0) (x1 : Nat) : Canonical (powerFail x0 x1) := by
  unfold powerFail
  repeat' with_reducible first
      | assumption
      | apply setRegF_canon | apply powerSteps_canon | apply count_canon | apply setReg_canon
      | apply canon_if
      | simp -zeta only [canon_mk, canon_fold]
      | split

theorem powerFailWarning_canon {x0 : State} (h : Canonical x0) (x1 : Nat) (x2 : Nat) : Canonical (powerFailWarning x0 x1 x2) := by
  unfold powerFailWarning
  repeat' with_reducible first
      | assumption
      | apply powerFail_canon | apply canon_if

theorem overvoltageCut_canon {x0 : State} (h : Canonical x0) (x1 : Nat) (x2 : Nat) : Canonical (overvoltageCut x0 x1 x2) := by
  unfold overvoltageCut
  repeat' with_reducible first
      | assumption
      | apply powerFail_canon | apply canon_if

theorem lastRecord_canon {x0 : State} (h : Canonical x0) (x1 : Nat) : Canonical (lastRecord x0 x1) := by
  unfold lastRecord
  repeat' with_reducible first
      | assumption
      | apply setRegF_canon | apply setRegB_canon

theorem powerOffEnd_canon {x0 : State} (h : Canonical x0) : Canonical (powerOffEnd x0) := by
  unfold powerOffEnd
  repeat' with_reducible first
      | assumption
      | apply deviceReset_canon | apply lastRecord_canon | apply canon_if
      | split

theorem logicPowerLoss_canon {x0 : State} (h : Canonical x0) : Canonical (logicPowerLoss x0) := by
  unfold logicPowerLoss
  repeat' with_reducible first
      | assumption
      | apply deviceReset_canon | apply lastRecord_canon | apply canon_if
      | simp -zeta only [canon_mk, canon_fold]
      | split

theorem powerOn_canon {x0 : State} (h : Canonical x0) (x1 : Nat) (x2 : Nat) (x3 : Bool) (x4 : Int) : Canonical (powerOn x0 x1 x2 x3 x4) := by
  unfold powerOn
  repeat' with_reducible first
      | assumption
      | apply deviceReset_canon | apply letGo_canon | apply canon_if

theorem thermalRestartCheck_canon {x0 : State} (h : Canonical x0) (x1 : Int) : Canonical (thermalRestartCheck x0 x1) := by
  unfold thermalRestartCheck
  repeat' with_reducible first
      | assumption
      | apply letGo_canon | apply canon_if
      | split

theorem rstLow_canon {x0 : State} (h : Canonical x0) (x1 : Nat) : Canonical (rstLow x0 x1) := by
  unfold rstLow
  repeat' with_reducible first
      | assumption
      | apply lastRecord_canon | apply deviceReset_canon | apply canon_if
      | simp -zeta only [canon_mk, canon_fold]
      | split

theorem rstHigh_canon {x0 : State} (h : Canonical x0) (x1 : Int) : Canonical (rstHigh x0 x1) := by
  unfold rstHigh
  repeat' with_reducible first
      | assumption
      | apply letGo_canon | apply rstLow_canon | apply canon_if
      | simp -zeta only [canon_mk, canon_fold]

theorem orderlyStart_canon {x0 : State} (h : Canonical x0) (x1 : Nat) : Canonical (orderlyStart x0 x1) := by
  unfold orderlyStart
  repeat' with_reducible first
      | assumption
      | apply setReg_canon | apply restart_canon | apply powerSteps_canon | apply canon_if
      | simp -zeta only [canon_mk, canon_fold]

theorem orderlyTouch_canon {x0 : State} (h : Canonical x0) : Canonical (orderlyTouch x0) := by
  unfold orderlyTouch
  repeat' with_reducible first
      | assumption
      | apply restart_canon | apply lastRecord_canon | apply canon_if
      | split

theorem devReset_canon {x0 : State} (h : Canonical x0) (x1 : Nat) : Canonical (devReset x0 x1) := by
  unfold devReset
  repeat' with_reducible first
      | assumption
      | apply orderlyStart_canon | apply restart_canon | apply canon_if

theorem firmwareWatchdog_canon {x0 : State} (h : Canonical x0) : Canonical (firmwareWatchdog x0) := by
  unfold firmwareWatchdog
  repeat' with_reducible first
      | assumption
      | apply orderlyStart_canon | apply restart_canon | apply lastRecord_canon | apply canon_if
      | split

theorem cageOvercurrent_canon {x0 : State} (h : Canonical x0) (x1 : Nat) (x2 : Nat) (x3 : Nat) : Canonical (cageOvercurrent x0 x1 x2 x3) := by
  unfold cageOvercurrent
  repeat' with_reducible first
      | assumption
      | apply linkGoesDown_canon | apply raise_canon | apply setRegB_canon | apply canon_if

theorem holdupMeasure_canon {x0 : State} (h : Canonical x0) (x1 : Nat) (x2 : Nat) : Canonical (holdupMeasure x0 x1 x2) := by
  unfold holdupMeasure
  repeat' with_reducible first
      | assumption
      | apply setReg_canon | apply raise_canon | apply canon_if
      | simp -zeta only [canon_mk, canon_fold]

theorem tempReg_canon {x0 : State} (h : Canonical x0) (x1 : Nat) (x2 : Bool) (x3 : Int) : Canonical (tempReg x0 x1 x2 x3) := by
  unfold tempReg
  repeat' with_reducible first
      | assumption
      | apply setReg_canon

theorem tripTouch_canon {x0 : State} (h : Canonical x0) : Canonical (tripTouch x0) := by
  unfold tripTouch
  repeat' with_reducible first
      | assumption
      | apply canon_if
      | simp -zeta only [canon_mk, canon_fold]
      | ((first | intro x | (lift_lets -underBinder; intro x)); first
        | refine canon_cut (x := x) ?_ ?_ <;> [subst x; (intro _; clear_value x)]
        | refine canon_cut1 (x := x) ?_ ?_ <;> [subst x; (intro _; clear_value x)]
        | clear_value x)

theorem thermSample_canon {x0 : State} (h : Canonical x0) (x1 : Temps) : Canonical (thermSample x0 x1) := by
  unfold thermSample
  repeat' with_reducible first
      | assumption
      | apply tempReg_canon | apply tripTouch_canon | apply calHeat_canon | apply raise_canon | apply canon_if
      | simp -zeta only [canon_mk, canon_fold]
      | split

theorem thermalTrip_canon {x0 : State} (h : Canonical x0) : Canonical (thermalTrip x0) := by
  unfold thermalTrip
  repeat' with_reducible first
      | assumption
      | apply powerFail_canon | apply canon_if
      | split

theorem sensorFail_canon {x0 : State} (h : Canonical x0) (x1 : Temps) (x2 : Nat) : Canonical (sensorFail x0 x1 x2) := by
  unfold sensorFail
  repeat' with_reducible first
      | assumption
      | apply raise_canon | apply thermSample_canon | apply canon_if

theorem thmClr_canon {x0 : State} (h : Canonical x0) : Canonical (thmClr x0) := by
  unfold thmClr
  repeat' with_reducible first
      | assumption
      | apply setRegF_canon

theorem blockReset_canon {x0 : State} (h : Canonical x0) (x1 : Nat) (x2 : Bool) : Canonical (blockReset x0 x1 x2) := by
  unfold blockReset
  repeat' with_reducible first
      | assumption
      | apply evtTouch_canon | apply canon_if | exact canonM_block h _ _ _
      | simp -zeta only [canon_mk, canon_fold]

theorem energySeed_canon {x0 : State} (h : Canonical x0) : Canonical (energySeed x0) := by
  unfold energySeed
  repeat' with_reducible first
      | assumption
      | apply energyRestore_canon | apply canon_if
      | split

theorem meterCalRestore_canon {x0 : State} (h : Canonical x0) : Canonical (meterCalRestore x0) := by
  unfold meterCalRestore
  repeat' with_reducible first
      | assumption
      | apply setRegF_canon | apply setEnt_canon | apply setReg_canon | apply canon_if
      | refine canon_foldl (fun _ _ _ => ?_) ?_
      | simp -zeta only [canon_mk, canon_fold]
      | split

theorem seqAbort_canon {x0 : State} (h : Canonical x0) (x1 : Nat) (x2 : Nat) : Canonical (seqAbort x0 x1 x2) := by
  unfold seqAbort
  repeat' with_reducible first
      | assumption
      | apply setReg_canon | apply setRegB_canon | apply raise_canon | apply canon_if
      | simp -zeta only [canon_mk, canon_fold]
      | split

theorem lockHoldExpiry_canon {x0 : State} (h : Canonical x0) (x1 : Nat) : Canonical (lockHoldExpiry x0 x1) := by
  unfold lockHoldExpiry
  repeat' with_reducible first
      | assumption
      | apply seqAbort_canon | apply canon_if
      | split

theorem locksDue_canon {x0 : State} (h : Canonical x0) : Canonical (locksDue x0) := by
  unfold locksDue
  repeat' with_reducible first
      | assumption
      | apply lockHoldExpiry_canon | refine canon_foldl (fun _ _ _ => ?_) ?_

theorem reply_canon {x0 : State} (h : Canonical x0) (x1 : Nat) (x2 : Nat) (x3 : List Word) : Canonical (reply x0 x1 x2 x3) := by
  unfold reply
  repeat' with_reducible first
      | assumption
      | simp -zeta only [canon_mk, canon_fold]

theorem islandFault_canon {x0 : State} (h : Canonical x0) (x1 : Svc) : Canonical (islandFault x0 x1) := by
  unfold islandFault
  repeat' with_reducible first
      | assumption
      | apply faultItem_canon | apply engFault_canon | apply engDownNow_canon
      | split

theorem macReset_canon {x0 : State} (h : Canonical x0) (x1 : Nat) : Canonical (macReset x0 x1) := by
  unfold macReset
  repeat' with_reducible first
      | assumption
      | apply setMac_canon | apply macDropAll_canon

theorem islandBlock_canon {x0 : State} (h : Canonical x0) (x1 : Nat) : Canonical (islandBlock x0 x1) := by
  unfold islandBlock
  repeat' with_reducible first
      | assumption
      | apply htkReset_canon | apply macReset_canon | apply ingestReset_canon | apply hbReset_canon
      | apply meterReset_canon | apply setRegB_canon | apply drvReset_canon
      | refine canon_foldl (fun _ _ _ => ?_) ?_
      | split

theorem islandReset_canon {x0 : State} (h : Canonical x0) (x1 : Nat) : Canonical (islandReset x0 x1) := by
  unfold islandReset
  repeat' with_reducible first
      | assumption
      | apply locksDue_canon | apply reply_canon | apply abortCount_canon | apply seqAbort_canon
      | apply islandFault_canon | apply blockReset_canon | apply islandBlock_canon | apply railUpdate_canon
      | apply hbTouch_canon | apply ptpTouch_canon | apply canon_if | refine canon_foldl (fun _ _ _ => ?_) ?_
      | simp -zeta only [canon_mk, canon_fold]

theorem islRst_canon {x0 : State} (h : Canonical x0) (x1 : Nat) : Canonical (islRst x0 x1) := by
  unfold islRst
  repeat' with_reducible first
      | assumption
      | apply islandReset_canon | refine canon_foldl (fun _ _ _ => ?_) ?_

theorem fenceTimeout_canon {x0 : State} (h : Canonical x0) (x1 : Nat) (x2 : FenceAge) : Canonical (fenceTimeout x0 x1 x2) := by
  unfold fenceTimeout
  repeat' with_reducible first
      | assumption
      | apply islandReset_canon | apply raise_canon | apply count_canon | apply setRegF_canon
      | apply canon_if | refine canon_foldl (fun _ _ _ => ?_) ?_
      | simp -zeta only [canon_mk, canon_fold]

theorem orphanReply_canon {x0 : State} (h : Canonical x0) (x1 : Nat) : Canonical (orphanReply x0 x1) := by
  unfold orphanReply
  repeat' with_reducible first
      | assumption
      | apply count_canon | apply canon_if

theorem dropEngPend_canon {x0 : State} (h : Canonical x0) : Canonical (dropEngPend x0) := by
  unfold dropEngPend
  repeat' with_reducible first
      | assumption
      | apply setEnt_canon | apply canon_if | refine canon_foldl (fun _ _ _ => ?_) ?_
      | simp -zeta only [canon_mk, canon_fold]
      | ((first | intro x | (lift_lets -underBinder; intro x)); first
        | refine canon_cut (x := x) ?_ ?_ <;> [subst x; (intro _; clear_value x)])

theorem dropTilePend_canon {x0 : State} (h : Canonical x0) : Canonical (dropTilePend x0) := by
  unfold dropTilePend
  repeat' with_reducible first
      | assumption
      | apply setEnt_canon | refine canon_foldl (fun _ _ _ => ?_) ?_
      | simp -zeta only [canon_mk, canon_fold]
      | ((first | intro x | (lift_lets -underBinder; intro x)); first
        | refine canon_cut (x := x) ?_ ?_ <;> [subst x; (intro _; clear_value x)])

theorem portSoftReset_canon {x0 : State} (h : Canonical x0) (x1 : Nat) : Canonical (portSoftReset x0 x1) := by
  unfold portSoftReset
  repeat' with_reducible first
      | assumption
      | apply faultItem_canon | apply abortCount_canon | apply canon_if
      | split

theorem cageSoftReset_canon {x0 : State} (h : Canonical x0) (x1 : Nat) : Canonical (cageSoftReset x0 x1) := by
  unfold cageSoftReset
  repeat' with_reducible first
      | assumption
      | apply setMac_canon

theorem softBlock_canon {x0 : State} (h : Canonical x0) (x1 : Nat) : Canonical (softBlock x0 x1) := by
  unfold softBlock
  repeat' with_reducible first
      | assumption
      | apply htkReset_canon | apply dropEngPend_canon | apply streamOff_canon | apply srfReset_canon
      | apply dropTilePend_canon | apply tdmReset_canon | apply chkReset_canon | apply cageSoftReset_canon
      | apply hbSoftReset_canon | apply setMx_canon | apply updCancel_canon | apply applyStop_canon
      | apply calAbandon_canon | apply portSoftReset_canon | apply canon_if | apply canon_if1
      | refine canon_foldl (fun _ _ _ => ?_) ?_
      | simp -zeta only [canon_mk, canon_fold]
      | ((first | intro x | (lift_lets -underBinder; intro x)); first
        | refine canon_cut (x := x) ?_ ?_ <;> [subst x; (intro _; clear_value x)]
        | refine canon_cut1 (x := x) ?_ ?_ <;> [subst x; (intro _; clear_value x)]
        | clear_value x)
      | split

theorem portAgain_canon {x0 : State} (h : Canonical x0) (x1 : Nat) : Canonical (portAgain x0 x1) := by
  unfold portAgain
  repeat' with_reducible first
      | assumption
      | apply setRegF_canon

theorem ringAgain_canon {x0 : State} (h : Canonical x0) : Canonical (ringAgain x0) := by
  unfold ringAgain
  repeat' with_reducible first
      | assumption
      | apply ringTouch_canon | apply setRingState_canon | apply ringRestore_canon

theorem softAfter_canon {x0 : State} (h : Canonical x0) (x1 : Nat) : Canonical (softAfter x0 x1) := by
  unfold softAfter
  repeat' with_reducible first
      | assumption
      | apply hbTouch_canon | apply ptpTouch_canon | apply ringAgain_canon | apply portAgain_canon
      | apply bindWritten_canon | apply tioWritten_canon | apply railUpdate_canon | apply energySeed_canon
      | apply meterCalRestore_canon | apply calRestore_canon | apply dropQueue_canon | apply canon_if
      | split

theorem softReset_canon {x0 : State} (h : Canonical x0) (x1 : Nat) : Canonical (softReset x0 x1) := by
  unfold softReset
  repeat' with_reducible first
      | assumption
      | apply softBlock_canon | apply blockReset_canon | apply softAfter_canon | apply canon_if

theorem readTouch_canon {x0 : State} (h : Canonical x0) (x1 : Nat) (x2 : Nat) : Canonical (readTouch x0 x1 x2) := by
  unfold readTouch
  repeat' with_reducible first
      | assumption
      | apply setBreg_canon | apply canon_if

theorem storeWord_canon {x0 : State} (h : Canonical x0) (x1 : Nat) (x2 : Nat) (x3 : RegD) (x4 : Word) : Canonical (storeWord x0 x1 x2 x3 x4) := by
  unfold storeWord
  repeat' with_reducible first
      | assumption
      | apply setReg_canon | apply setBreg_canon | apply canon_if
      | simp -zeta only [canon_mk, canon_fold]

theorem commitLayers_canon {x0 : State} (h : Canonical x0) (x1 : List (Nat × Word)) (x2 : Nat) (x3 : Nat) : Canonical (commitLayers x0 x1 x2 x3) := by
  unfold commitLayers
  repeat' with_reducible first
      | assumption
      | apply selectSlot_canon | apply commitLate_canon | apply canon_if | apply canon_if1
      | refine canon_foldl (fun _ _ _ => ?_) ?_

theorem commitPage_canon {x0 : State} (h : Canonical x0) (x1 : Nat) (x2 : Nat) (x3 : Nat) : Canonical (commitPage x0 x1 x2 x3) := by
  unfold commitPage
  repeat' with_reducible first
      | assumption
      | apply commitTdm_canon | apply commitLatched_canon | apply mxCommit_canon | apply commitLayers_canon
      | apply setReg_canon | apply canon_if | apply canon_if1 | refine canon_foldl (fun _ _ _ => ?_) ?_
      | simp -zeta only [canon_mk, canon_fold]
      | ((first | intro x | (lift_lets -underBinder; intro x)); first
        | refine canon_cut (x := x) ?_ ?_ <;> [subst x; (intro _; clear_value x)]
        | refine canon_cut1 (x := x) ?_ ?_ <;> [subst x; (intro _; clear_value x)]
        | clear_value x)
      | split

theorem discardPage_canon {x0 : State} (h : Canonical x0) (x1 : Nat) : Canonical (discardPage x0 x1) := by
  unfold discardPage
  repeat' with_reducible first
      | assumption
      | simp -zeta only [canon_mk, canon_fold]

theorem copyMark_canon {x0 : State} (h : Canonical x0) (x1 : Nat) (x2 : Bool) : Canonical (copyMark x0 x1 x2) := by
  unfold copyMark
  repeat' with_reducible first
      | assumption
      | apply canon_if
      | simp -zeta only [canon_mk, canon_fold]

theorem persistSave_canon {x0 : State} (h : Canonical x0) (x1 : Nat) : Canonical (persistSave x0 x1) := by
  unfold persistSave
  repeat' with_reducible first
      | assumption
      | apply copyMark_canon | apply linSubmit_canon | apply canon_if

theorem persistForget_canon {x0 : State} (h : Canonical x0) (x1 : Nat) : Canonical (persistForget x0 x1) := by
  unfold persistForget
  repeat' with_reducible first
      | assumption
      | apply linSubmit_canon | apply copyMark_canon

theorem restoreEntry_canon {x0 : State} (h : Canonical x0) (x1 : WinD) (x2 : Nat) (x3 : List Word) : Canonical (restoreEntry x0 x1 x2 x3) := by
  unfold restoreEntry
  repeat' with_reducible first
      | assumption
      | apply flowWritten_canon | apply setEnt_canon | apply layerWritten_canon | apply setEntW_canon
      | apply canon_if

theorem restoreWord_canon (x2 : State × Nat × List Word) (h : Canonical x2.1) (x0 : Nat) (x1 : Bool) (x3 : Nat × Word) : Canonical (restoreWord x0 x1 x2 x3).1 := by
  unfold restoreWord
  repeat' with_reducible first
      | assumption
      | apply setRegB_canon | apply restoreEntry_canon | apply applyReg_canon | apply setReg_canon
      | apply canon_if | apply canon_if1
      | split

theorem afterRestore_canon {x0 : State} (h : Canonical x0) (x1 : Nat) : Canonical (afterRestore x0 x1) := by
  unfold afterRestore
  repeat' with_reducible first
      | assumption
      | apply alertDrive_canon | apply startDomain_canon | apply joinWritten_canon | apply bindWritten_canon
      | apply hbTouch_canon | apply ptpTouch_canon | apply availTouch_canon | apply tioWritten_canon
      | apply railUpdate_canon | apply darkEnter_canon | apply energySeed_canon | apply meterCalRestore_canon
      | apply tripTouch_canon | apply canon_if | refine canon_foldl (fun _ _ _ => ?_) ?_
      | split

theorem persistApply_canon {x0 : State} (h : Canonical x0) (x1 : Nat) (x2 : Bool) : Canonical (persistApply x0 x1 x2) := by
  have hf : ∀ (l : List (Nat × Word)) (r : State × Nat × List Word), Canonical r.1 →
      Canonical (l.foldl (restoreWord x1 x2) r).1 := by
    intro l
    induction l with
    | nil => exact fun _ hr => hr
    | cons w l ih => exact fun r hr => ih _ (restoreWord_canon r hr _ _ w)
  unfold persistApply
  split
  · exact h
  · exact afterRestore_canon (hf _ _ h) _

theorem resetPage_canon {x0 : State} (h : Canonical x0) (x1 : Nat) : Canonical (resetPage x0 x1) := by
  unfold resetPage
  repeat' with_reducible first
      | assumption
      | apply persistApply_canon | apply softReset_canon | apply drvHolds_canon | apply canon_if

theorem enginesBack_canon {x0 : State} (h : Canonical x0) (x1 : Nat) : Canonical (enginesBack x0 x1) := by
  unfold enginesBack
  repeat' with_reducible first
      | assumption
      | apply noteIdle_canon | apply canon_if | refine canon_foldl (fun _ _ _ => ?_) ?_

theorem islandResetEnd_canon {x0 : State} (h : Canonical x0) (x1 : Nat) : Canonical (islandResetEnd x0 x1) := by
  unfold islandResetEnd
  repeat' with_reducible first
      | assumption
      | apply persistApply_canon | apply meterCalRestore_canon | apply ptpTouch_canon | apply raise_canon
      | apply enginesBack_canon | apply canon_if | refine canon_foldl (fun _ _ _ => ?_) ?_
      | simp -zeta only [canon_mk, canon_fold]

theorem enWritten_canon {x0 : State} (h : Canonical x0) (x1 : Nat) : Canonical (enWritten x0 x1) := by
  unfold enWritten
  repeat' with_reducible first
      | assumption
      | apply ptpTouch_canon | apply macDropAll_canon | apply dropQueue_canon | apply hbTouch_canon
      | apply tioWritten_canon | apply darkEnter_canon | apply canon_if

theorem headEffect_canon {x0 : State} (h : Canonical x0) (x1 : Nat) (x2 : Nat) (x3 : Nat) (x4 : Nat) (x5 : Word) (x6 : Word) : Canonical (headEffect x0 x1 x2 x3 x4 x5 x6) := by
  unfold headEffect
  repeat' with_reducible first
      | assumption
      | apply enWritten_canon | apply resetPage_canon | apply evtTouch_canon | apply commitPage_canon
      | apply discardPage_canon | apply persistSave_canon | apply persistForget_canon | apply canon_if
      | split

theorem cbClr_canon {x0 : State} (h : Canonical x0) (x1 : Nat) : Canonical (cbClr x0 x1) := by
  unfold cbClr
  repeat' with_reducible first
      | assumption
      | apply setRegF_canon | refine canon_foldl (fun _ _ _ => ?_) ?_

theorem swSources_canon {x0 : State} (h : Canonical x0) (x1 : Nat) : Canonical (swSources x0 x1) := by
  unfold swSources
  repeat' with_reducible first
      | assumption
      | apply evtTouch_canon | refine canon_foldl (fun _ _ _ => ?_) ?_
      | simp -zeta only [canon_mk, canon_fold]

theorem evtSwset_canon {x0 : State} (h : Canonical x0) (x1 : Nat) : Canonical (evtSwset x0 x1) := by
  unfold evtSwset
  repeat' with_reducible first
      | assumption
      | apply swSources_canon

theorem evtSwclr_canon {x0 : State} (h : Canonical x0) (x1 : Nat) : Canonical (evtSwclr x0 x1) := by
  unfold evtSwclr
  repeat' with_reducible first
      | assumption
      | apply swSources_canon

theorem flagClr_canon {x0 : State} (h : Canonical x0) (x1 : Nat) (x2 : Nat) : Canonical (flagClr x0 x1 x2) := by
  unfold flagClr
  repeat' with_reducible first
      | assumption
      | apply refresh_canon | apply setFlow_canon

theorem enqueueOp_canon {x0 : State} (h : Canonical x0) (x1 : Nat) : Canonical (enqueueOp x0 x1) := by
  unfold enqueueOp
  repeat' with_reducible first
      | assumption
      | apply putItem_canon

theorem flowCmd_canon {x0 : State} (h : Canonical x0) (x1 : Nat) : Canonical (flowCmd x0 x1) := by
  unfold flowCmd
  repeat' with_reducible first
      | assumption
      | apply flushFlow_canon | apply restartRetry_canon | apply restartDiscard_canon
      | ((first | intro x | (lift_lets -underBinder; intro x)); first
        | refine canon_cut (x := x) ?_ ?_ <;> [subst x; (intro _; clear_value x)]
        | refine canon_cut1 (x := x) ?_ ?_ <;> [subst x; (intro _; clear_value x)]
        | clear_value x)
      | split

theorem htkEffect_canon {x0 : State} (h : Canonical x0) (x1 : Nat) (x2 : Nat) (x3 : Nat) : Canonical (htkEffect x0 x1 x2 x3) := by
  unfold htkEffect
  repeat' with_reducible first
      | assumption
      | apply enqueueOp_canon | apply refuseGroup_canon | apply postFlags_canon | apply flagClr_canon
      | apply flowCmd_canon | apply canon_if
      | split

theorem fstEffect_canon {x0 : State} (h : Canonical x0) (x1 : Nat) (x2 : Nat) : Canonical (fstEffect x0 x1 x2) := by
  unfold fstEffect
  repeat' with_reducible first
      | assumption
      | apply setRegF_canon | apply fstClrPort_canon | apply setReg_canon | apply canon_if
      | split

theorem layEffect_canon {x0 : State} (h : Canonical x0) (x1 : Nat) (x2 : Word) (x3 : Word) : Canonical (layEffect x0 x1 x2 x3) := by
  unfold layEffect
  repeat' with_reducible first
      | assumption
      | apply streamOff_canon | apply setRegF_canon | apply canon_if
      | split

theorem armOp_canon {x0 : State} (h : Canonical x0) (x1 : Nat) : Canonical (armOp x0 x1) := by
  unfold armOp
  repeat' with_reducible first
      | assumption
      | apply cueArm_canon

theorem xopPush_canon {x0 : State} (h : Canonical x0) (x1 : Nat) : Canonical (xopPush x0 x1) := by
  unfold xopPush
  repeat' with_reducible first
      | assumption
      | apply expPush_canon

theorem xopFlush_canon {x0 : State} (h : Canonical x0) (x1 : Nat) : Canonical (xopFlush x0 x1) := by
  unfold xopFlush
  repeat' with_reducible first
      | assumption
      | apply expFlush_canon

theorem ppClrCnt_canon {x0 : State} (h : Canonical x0) (x1 : Nat) : Canonical (ppClrCnt x0 x1) := by
  unfold ppClrCnt
  repeat' with_reducible first
      | assumption
      | apply setReg_canon | refine canon_foldl (fun _ _ _ => ?_) ?_

theorem ppClrCredmin_canon {x0 : State} (h : Canonical x0) (x1 : Nat) : Canonical (ppClrCredmin x0 x1) := by
  unfold ppClrCredmin
  repeat' with_reducible first
      | assumption
      | apply setRegF_canon

theorem portEffect_canon {x0 : State} (h : Canonical x0) (x1 : Nat) (x2 : Nat) (x3 : Nat) : Canonical (portEffect x0 x1 x2 x3) := by
  unfold portEffect
  repeat' with_reducible first
      | assumption
      | apply setRegF_canon | apply ppClrCnt_canon | apply ppClrCredmin_canon | apply canon_if
      | split

theorem macClrRingmin_canon {x0 : State} (h : Canonical x0) (x1 : Nat) : Canonical (macClrRingmin x0 x1) := by
  unfold macClrRingmin
  repeat' with_reducible first
      | assumption
      | apply setRegF_canon

theorem macEffect_canon {x0 : State} (h : Canonical x0) (x1 : Nat) (x2 : Nat) (x3 : Nat) : Canonical (macEffect x0 x1 x2 x3) := by
  unfold macEffect
  repeat' with_reducible first
      | assumption
      | apply pauseCheck_canon | apply evtTouch_canon | apply hbTouch_canon | apply ptpTouch_canon
      | apply macClrCnt_canon | apply macClrRingmin_canon | apply canon_if
      | split

theorem hbEffect_canon {x0 : State} (h : Canonical x0) (x1 : Nat) (x2 : Nat) (x3 : Nat) (x4 : Nat) : Canonical (hbEffect x0 x1 x2 x3 x4) := by
  unfold hbEffect
  repeat' with_reducible first
      | assumption
      | apply hbClr_canon | apply joinWritten_canon | apply eventPop_canon | apply raSend_canon | apply canon_if
      | split

theorem mirEffect_canon {x0 : State} (h : Canonical x0) (x1 : Nat) (x2 : Nat) : Canonical (mirEffect x0 x1 x2) := by
  unfold mirEffect
  repeat' with_reducible first
      | assumption
      | apply bindWritten_canon | apply yieldStart_canon | apply resyncReq_canon | apply mirClr_canon | apply canon_if
      | split

theorem stepAbsOp_canon {x0 : State} (h : Canonical x0) (x1 : Nat) : Canonical (stepAbsOp x0 x1) := by
  unfold stepAbsOp
  repeat' with_reducible first
      | assumption
      | apply clkOp_canon

theorem stepRelOp_canon {x0 : State} (h : Canonical x0) (x1 : Nat) : Canonical (stepRelOp x0 x1) := by
  unfold stepRelOp
  repeat' with_reducible first
      | assumption
      | apply clkOp_canon

theorem clkCtlEffect_canon {x0 : State} (h : Canonical x0) (x1 : Word) (x2 : Word) : Canonical (clkCtlEffect x0 x1 x2) := by
  unfold clkCtlEffect
  repeat' with_reducible first
      | assumption
      | apply clkOp_canon | apply availTouch_canon | apply setValid_canon | apply canon_if

theorem clkEffect_canon {x0 : State} (h : Canonical x0) (x1 : Nat) (x2 : Nat) (x3 : Word) (x4 : Word) : Canonical (clkEffect x0 x1 x2 x3 x4) := by
  unfold clkEffect
  repeat' with_reducible first
      | assumption
      | apply clkCtlEffect_canon | apply availTouch_canon | apply clkOp_canon | apply stepAbsOp_canon
      | apply stepRelOp_canon | apply canon_if
      | split

theorem drvEffect_canon {x0 : State} (h : Canonical x0) (x1 : Nat) (x2 : Word) : Canonical (drvEffect x0 x1 x2) := by
  unfold drvEffect
  repeat' with_reducible first
      | assumption
      | apply darkEnter_canon | apply railClear_canon | apply setRegB_canon | apply drvClr_canon
      | apply canon_if
      | split

theorem mxEffect_canon {x0 : State} (h : Canonical x0) (x1 : Nat) (x2 : Nat) (x3 : Nat) : Canonical (mxEffect x0 x1 x2 x3) := by
  unfold mxEffect
  repeat' with_reducible first
      | assumption
      | apply mxClearCols_canon | apply mxClearLines_canon | apply canon_if
      | split

theorem updCmd_canon {x0 : State} (h : Canonical x0) (x1 : Nat) : Canonical (updCmd x0 x1) := by
  unfold updCmd
  repeat' with_reducible first
      | assumption
      | apply updApply_canon | apply updActivate_canon | apply updCancel_canon
      | split

theorem sclCmd_canon {x0 : State} (h : Canonical x0) (x1 : Nat) : Canonical (sclCmd x0 x1) := by
  unfold sclCmd
  repeat' with_reducible first
      | assumption
      | apply sclAll_canon | apply sclOne_canon | apply canon_if

theorem keyOp_canon {x0 : State} (h : Canonical x0) (x1 : Nat) (x2 : Nat) : Canonical (keyOp x0 x1 x2) := by
  unfold keyOp
  repeat' with_reducible first
      | assumption
      | apply keyRead_canon | apply keyWrite_canon | apply keyErase_canon
      | split

theorem blockEffect_canon {x0 : State} (h : Canonical x0) (x1 : Nat) (x2 : Nat) (x3 : Nat) (x4 : Word) (x5 : Word) : Canonical (blockEffect x0 x1 x2 x3 x4 x5) := by
  unfold blockEffect
  repeat' with_reducible first
      | assumption
      | apply devReset_canon | apply islRst_canon | apply cbClr_canon | apply evtSwset_canon | apply evtSwclr_canon
      | apply alertDrive_canon | apply htkEffect_canon | apply engRst_canon | apply engClr_canon
      | apply fstEffect_canon | apply layEffect_canon | apply armOp_canon | apply xopPush_canon | apply xopFlush_canon
      | apply macEffect_canon | apply hbEffect_canon | apply mirEffect_canon | apply clkEffect_canon
      | apply ptpTouch_canon | apply tioWritten_canon | apply drvEffect_canon | apply strFclr_canon
      | apply mxEffect_canon | apply sealClose_canon | apply energySeed_canon | apply snapTake_canon
      | apply ackWritten_canon | apply ckptBegin_canon | apply linRead_canon | apply cmdGo_canon | apply keyOp_canon
      | apply updCmd_canon | apply sclCmd_canon | apply thmClr_canon | apply tripTouch_canon | apply portEffect_canon
      | apply canon_if
      | simp -zeta only [canon_mk, canon_fold]
      | ((first | intro x | (lift_lets -underBinder; intro x)); first
        | refine canon_cut (x := x) ?_ ?_ <;> [subst x; (intro _; clear_value x)]
        | refine canon_cut1 (x := x) ?_ ?_ <;> [subst x; (intro _; clear_value x)]
        | clear_value x)
      | split

theorem winLoad_canon {x0 : State} (h : Canonical x0) (x1 : Nat) (x2 : WinD) (x3 : Nat) : Canonical (winLoad x0 x1 x2 x3) := by
  unfold winLoad
  repeat' with_reducible first
      | assumption
      | apply setBreg_canon | refine canon_foldl (fun _ _ _ => ?_) ?_

theorem winStore_canon {x0 : State} (h : Canonical x0) (x1 : WinD) (x2 : Nat) (x3 : Nat) (x4 : List Word) : Canonical (winStore x0 x1 x2 x3 x4) := by
  unfold winStore
  repeat' with_reducible first
      | assumption
      | apply flowWritten_canon | apply setEnt_canon | apply layerWritten_canon | apply univWritten_canon
      | apply engWritten_canon | apply tileWritten_canon | apply rectWritten_canon | apply railMove_canon
      | apply setEntW_canon | apply canon_if | refine canon_foldl (fun _ _ _ => ?_) ?_
      | simp -zeta only [canon_mk, canon_fold]

theorem winExtra_canon {x0 : State} (h : Canonical x0) (x1 : Nat) (x2 : WinD) (x3 : Nat) : Canonical (winExtra x0 x1 x2 x3) := by
  unfold winExtra
  repeat' with_reducible first
      | assumption
      | apply setEnt_canon | apply forgetSend_canon | apply updSubmit_canon | apply canon_if

theorem winAdvance_canon {x0 : State} (h : Canonical x0) (x1 : Nat) (x2 : WinD) : Canonical (winAdvance x0 x1 x2) := by
  unfold winAdvance
  repeat' with_reducible first
      | assumption
      | apply setBreg_canon | apply canon_if

theorem winOp_canon {x0 : State} (h : Canonical x0) (x1 : Nat) (x2 : Nat) (x3 : WinD) (x4 : Nat) : Canonical (winOp x0 x1 x2 x3 x4) := by
  unfold winOp
  repeat' with_reducible first
      | assumption
      | apply winAdvance_canon | apply winLoad_canon | apply winStore_canon | apply winExtra_canon | apply canon_if

theorem applyWrite_canon {x0 : State} (h : Canonical x0) (x1 : Nat) (x2 : Nat) (x3 : Nat) (x4 : RegD) (x5 : Word) : Canonical (applyWrite x0 x1 x2 x3 x4 x5) := by
  unfold applyWrite
  repeat' with_reducible first
      | assumption
      | apply winOp_canon | apply railMove_canon | apply storeWord_canon | apply headEffect_canon
      | apply blockEffect_canon | apply canon_if
      | ((first | intro x | (lift_lets -underBinder; intro x)); first
        | refine canon_cut (x := x) ?_ ?_ <;> [subst x; (intro _; clear_value x)]
        | refine canon_cut1 (x := x) ?_ ?_ <;> [subst x; (intro _; clear_value x)]
        | clear_value x)
      | split

theorem unmapRecord_canon {x0 : State} (h : Canonical x0) (x1 : Nat) (x2 : Nat) : Canonical (unmapRecord x0 x1 x2) := by
  unfold unmapRecord
  repeat' with_reducible first
      | assumption
      | apply setReg_canon | apply canon_if

theorem rejectRecord_canon {x0 : State} (h : Canonical x0) (x1 : Nat) (x2 : Nat) (x3 : Nat) (x4 : Err) : Canonical (rejectRecord x0 x1 x2 x3 x4) := by
  unfold rejectRecord
  repeat' with_reducible first
      | assumption
      | apply setRegB_canon | apply setReg_canon | apply raise_canon | apply canon_if

theorem countWrite_canon {x0 : State} (h : Canonical x0) (x1 : Nat) : Canonical (countWrite x0 x1) := by
  unfold countWrite
  repeat' with_reducible first
      | assumption
      | apply setReg_canon

theorem takeWrite_canon {x0 : State} (h : Canonical x0) (x1 : Nat) (x2 : Nat) (x3 : Nat) (x4 : RegD) (x5 : Word) : Canonical (takeWrite x0 x1 x2 x3 x4 x5) := by
  unfold takeWrite
  repeat' with_reducible first
      | assumption
      | apply mirWrite_canon | apply applyWrite_canon | apply countWrite_canon

theorem takeFenced_canon {x0 : State} (h : Canonical x0) (x1 : Nat) (x2 : Nat) (x3 : Nat) (x4 : RegD) (x5 : Word) : Canonical (takeFenced x0 x1 x2 x3 x4 x5).1 := by
  unfold takeFenced
  repeat' with_reducible first
      | assumption
      | apply abortCount_canon | apply takeWrite_canon | apply canon_if | apply canon_if1

theorem takeStaged_canon {x0 : State} (h : Canonical x0) (x1 : Nat) (x2 : Nat) (x3 : Nat × Word) : Canonical (takeStaged x0 x1 x2 x3) := by
  unfold takeStaged
  repeat' with_reducible first
      | assumption
      | apply abortCount_canon | apply takeFenced_canon | apply canon_if | apply canon_if1
      | split

theorem seqView_canon {x0 : State} (h : Canonical x0) (x1 : Nat) : Canonical (seqView x0 x1) := by
  unfold seqView
  repeat' with_reducible first
      | assumption
      | apply applyWrite_canon | refine canon_foldl (fun _ _ _ => ?_) ?_
      | split

theorem lockAcquire_canon {x0 : State} (h : Canonical x0) (x1 : Nat) (x2 : Nat) : Canonical (lockAcquire x0 x1 x2) := by
  unfold lockAcquire
  repeat' with_reducible first
      | assumption
      | apply canon_if
      | simp -zeta only [canon_mk, canon_fold]
      | ((first | intro x | (lift_lets -underBinder; intro x)); first
        | refine canon_cut (x := x) ?_ ?_ <;> [subst x; (intro _; clear_value x)]
        | refine canon_cut1 (x := x) ?_ ?_ <;> [subst x; (intro _; clear_value x)]
        | clear_value x)

theorem stageWrite_canon {x0 : State} (h : Canonical x0) (x1 : Nat) (x2 : Nat) (x3 : Word) : Canonical (stageWrite x0 x1 x2 x3) := by
  unfold stageWrite
  repeat' with_reducible first
      | assumption
      | apply canon_if | apply canon_if1
      | simp -zeta only [canon_mk, canon_fold]
      | ((first | intro x | (lift_lets -underBinder; intro x)); first
        | refine canon_cut (x := x) ?_ ?_ <;> [subst x; (intro _; clear_value x)]
        | refine canon_cut1 (x := x) ?_ ?_ <;> [subst x; (intro _; clear_value x)]
        | clear_value x)
      | split

theorem releaseApply_canon {x0 : State} (h : Canonical x0) (x1 : Nat) (x2 : LockSeq) : Canonical (releaseApply x0 x1 x2) := by
  unfold releaseApply
  repeat' with_reducible first
      | assumption
      | apply takeStaged_canon | refine canon_foldl (fun _ _ _ => ?_) ?_
      | simp -zeta only [canon_mk, canon_fold]

theorem lockRelease_canon {x0 : State} (h : Canonical x0) (x1 : Nat) : Canonical (lockRelease x0 x1).1 := by
  unfold lockRelease
  repeat' with_reducible first
      | assumption
      | apply rejectRecord_canon | apply releaseApply_canon
      | split

theorem rejectWrite_canon {x0 : State} {x1 : State} (h : Canonical x0) (h1 : Canonical x1) (x2 : Nat) (x3 : Nat) (x4 : PageD) (x5 : Word) (x6 : Err × Nat) : Canonical (rejectWrite x0 x1 x2 x3 x4 x5 x6) := by
  unfold rejectWrite
  repeat' with_reducible first
      | assumption
      | apply rejectRecord_canon | apply stageWrite_canon | apply refuseGroup_canon | apply canon_if

theorem findTarget_canon {x0 : State} (h : Canonical x0) {x1 x2 n : Nat} {t : State} (e : findTarget x0 x1 x2 = .ends t n) :
    Canonical t := by
  revert e
  unfold findTarget
  have hp : ∀ (z : State) (k : Nat), Found.ends z k = .ends t n → Canonical z → Canonical t := fun z k e hz => by
    injection e with e _; rw [← e]; exact hz
  split
  · exact fun e => hp _ _ e (abortCount_canon h _ _)
  · split
    · split
      · exact fun e => hp _ _ e (rejectRecord_canon h _ _ _ _)
      · exact fun e => hp _ _ e (unmapRecord_canon h _ _)
    · split
      · exact fun e => hp _ _ e (rejectRecord_canon h _ _ _ _)
      · split
        · exact fun e => hp _ _ e h
        · split
          · exact fun e => hp _ _ e (abortCount_canon h _ _)
          · intro e; cases e

theorem busWriteAt_canon {x0 : State} (h : Canonical x0) (x1 : Nat) (x2 : Nat) (x3 : Word) : Canonical (busWriteAt x0 x1 x2 x3).1 := by
  unfold busWriteAt
  repeat' with_reducible first
      | assumption
      | apply seqView_canon | apply rejectWrite_canon | apply lockAcquire_canon | apply lockRelease_canon
      | apply stageWrite_canon | apply takeFenced_canon | apply canon_if | apply canon_if1
      | exact findTarget_canon h ‹_›
      | ((first | intro x | (lift_lets -underBinder; intro x)); first
        | refine canon_cut (x := x) ?_ ?_ <;> [subst x; (intro _; clear_value x)]
        | refine canon_cut1 (x := x) ?_ ?_ <;> [subst x; (intro _; clear_value x)]
        | clear_value x)
      | split

theorem busWrite_canon {x0 : State} (h : Canonical x0) (x1 : Nat) (x2 : Nat) (x3 : Word) : Canonical (busWrite x0 x1 x2 x3).1 := by
  unfold busWrite
  repeat' with_reducible first
      | assumption
      | apply busWriteAt_canon | apply locksDue_canon

theorem busReadAt_canon {x0 : State} (h : Canonical x0) (x1 : Nat) (x2 : Nat) : Canonical (busReadAt x0 x1 x2).1 := by
  unfold busReadAt
  repeat' with_reducible first
      | assumption
      | apply seqView_canon | apply readTouch_canon | apply canon_if | apply canon_if1 | exact findTarget_canon h ‹_›
      | split

theorem busRead_canon {x0 : State} (h : Canonical x0) (x1 : Nat) (x2 : Nat) : Canonical (busRead x0 x1 x2).1 := by
  unfold busRead
  repeat' with_reducible first
      | assumption
      | apply busReadAt_canon | apply locksDue_canon

theorem noteReply_canon {x0 : State} (h : Canonical x0) (x1 : Nat) : Canonical (noteReply x0 x1) := by
  unfold noteReply
  repeat' with_reducible first
      | assumption
      | simp -zeta only [canon_mk, canon_fold]
      | split

theorem issue_canon {x0 : State} (h : Canonical x0) (x1 : Nat) (x2 : Nat) (x3 : Word) : Canonical (issue x0 x1 x2 x3).1 := by
  unfold issue
  repeat' with_reducible first
      | assumption
      | apply busWrite_canon | apply noteReply_canon | apply canon_if | apply canon_if1
      | simp -zeta only [canon_mk, canon_fold]
      | ((first | intro x | (lift_lets -underBinder; intro x)); first
        | refine canon_cut (x := x) ?_ ?_ <;> [subst x; (intro _; clear_value x)]
        | refine canon_cut1 (x := x) ?_ ?_ <;> [subst x; (intro _; clear_value x)])

theorem busWriteR_canon {x0 : State} (h : Canonical x0) (x1 : Nat) (x2 : Nat) (x3 : Word) : Canonical (busWriteR x0 x1 x2 x3) := by
  unfold busWriteR
  repeat' with_reducible first
      | assumption
      | apply busWrite_canon | apply reply_canon | apply noteReply_canon

theorem busReadR_canon {x0 : State} (h : Canonical x0) (x1 : Nat) (x2 : Nat) : Canonical (busReadR x0 x1 x2) := by
  unfold busReadR
  repeat' with_reducible first
      | assumption
      | apply busRead_canon | apply reply_canon | apply noteReply_canon

theorem ringReturn_canon {x0 : State} (h : Canonical x0) (x1 : Nat) (x2 : Nat) : Canonical (ringReturn x0 x1 x2) := by
  unfold ringReturn
  repeat' with_reducible first
      | assumption
      | apply setMac_canon

theorem parserDrop_canon {x0 : State} (h : Canonical x0) (x1 : Nat) (x2 : RxFrame) : Canonical (parserDrop x0 x1 x2) := by
  unfold parserDrop
  repeat' with_reducible first
      | assumption
      | apply noBuf_canon | apply streamLost_canon | apply canon_if | apply canon_if1
      | ((first | intro x | (lift_lets -underBinder; intro x)); first
        | refine canon_cut (x := x) ?_ ?_ <;> [subst x; (intro _; clear_value x)])
      | split

theorem rxOuter_canon {x0 : State} (h : Canonical x0) (x1 : Nat) (x2 : RxFrame) : Canonical (rxOuter x0 x1 x2).1 := by
  unfold rxOuter
  repeat' with_reducible first
      | assumption
      | apply count_canon | apply pauseReceive_canon | apply canon_if | apply canon_if1

theorem rxInner_canon {x0 : State} (h : Canonical x0) (x1 : Nat) (x2 : RxFrame) : Canonical (rxInner x0 x1 x2).1 := by
  unfold rxInner
  repeat' with_reducible first
      | assumption
      | apply count_canon | apply secAccept_canon | apply parserDrop_canon | apply raiseMac_canon
      | apply setRegF_canon | apply setMac_canon | apply canon_if | apply canon_if1

theorem rxStamp_canon {x0 : State} (h : Canonical x0) (x1 : Nat) (x2 : RxFrame) : Canonical (rxStamp x0 x1 x2) := by
  unfold rxStamp
  repeat' with_reducible first
      | assumption
      | apply setMac_canon | apply canon_if
      | simp -zeta only [canon_mk, canon_fold]
      | split

theorem txStart_canon {x0 : State} (h : Canonical x0) (x1 : Nat) (x2 : Medium) : Canonical (txStart x0 x1 x2) := by
  unfold txStart
  repeat' with_reducible first
      | assumption
      | apply frameTxStart_canon | apply setMac_canon
      | simp -zeta only [canon_mk, canon_fold]
      | ((first | intro x | (lift_lets -underBinder; intro x)); first
        | refine canon_cut (x := x) ?_ ?_ <;> [subst x; (intro _; clear_value x)])
      | split

theorem txEnd_canon {x0 : State} (h : Canonical x0) (x1 : Nat) : Canonical (txEnd x0 x1) := by
  unfold txEnd
  repeat' with_reducible first
      | assumption
      | apply setMac_canon | apply frameTxEnd_canon | apply ptpLeft_canon | apply raLeft_canon | apply canon_if
      | simp -zeta only [canon_mk, canon_fold]
      | split

theorem frameReceive_canon {x0 : State} (h : Canonical x0) (x1 : Nat) (x2 : RxFrame) : Canonical (frameReceive x0 x1 x2) := by
  unfold frameReceive
  repeat' with_reducible first
      | assumption
      | apply rxOuter_canon | apply ringReturn_canon | apply rxStamp_canon | apply rxInner_canon
      | apply ryuArrive_canon | apply canon_if

theorem dropEffect_canon {x0 : State} (h : Canonical x0) (x1 : Drop) (x2 : Item) : Canonical (dropEffect x0 x1 x2) := by
  unfold dropEffect
  repeat' with_reducible first
      | assumption
      | apply renderLost_canon | apply hostRenderLost_canon | apply pushExpired_canon | apply pushMissed_canon
      | apply chkExpired_canon | apply ingestDropped_canon | apply appendDropped_canon | apply calDropped_canon
      | apply raise_canon | apply canon_if

theorem settleDrops_canon {x1 : State} (h : Canonical x1) (x0 : Nat) : Canonical (settleDrops x0 x1) := by
  induction x0 generalizing x1 with
  | zero =>
    unfold settleDrops
    repeat' with_reducible first
        | assumption
  | succ k ih =>
    unfold settleDrops
    repeat' with_reducible first
        | assumption
        | apply dropEffect_canon | apply ih
        | simp -zeta only [canon_mk, canon_fold]
        | split

theorem mgmtWrites_canon {x0 : State} (h : Canonical x0) (x1 : List (Nat × Word)) : Canonical (mgmtWrites x0 x1) := by
  unfold mgmtWrites
  repeat' with_reducible first
      | assumption
      | apply issue_canon | apply canon_if | apply canon_if1 | refine canon_foldl (fun _ _ _ => ?_) ?_
      | simp -zeta only [canon_mk, canon_fold]

theorem firmwareActs_canon (x0 : State × List (Nat × Word)) (h : Canonical x0.1) : Canonical (firmwareActs x0) := by
  unfold firmwareActs
  repeat' with_reducible first
      | assumption
      | apply mgmtWrites_canon

theorem normalTouch_canon {x0 : State} (h : Canonical x0) : Canonical (normalTouch x0) := by
  unfold normalTouch
  repeat' with_reducible first
      | assumption
      | apply issue_canon | apply canon_if | apply canon_if1
      | simp -zeta only [canon_mk, canon_fold]
      | ((first | intro x | (lift_lets -underBinder; intro x)); first
        | refine canon_cut (x := x) ?_ ?_ <;> [subst x; (intro _; clear_value x)])

theorem touches_canon {x0 : State} (h : Canonical x0) : Canonical (touches x0) := by
  unfold touches
  repeat' with_reducible first
      | assumption
      | apply alertDrive_canon | apply gmTouch_canon | apply normalTouch_canon | apply appendSettle_canon
      | apply calmCheck_canon | apply orderlyTouch_canon | apply updTouch_canon | apply diagTouch_canon
      | apply fitTouch_canon | apply hbTouch_canon | apply setRegF_canon

theorem settle_canon {x0 : State} (h : Canonical x0) : Canonical (settle x0) := by
  unfold settle
  repeat' with_reducible first
      | assumption
      | apply touches_canon | apply settleDrops_canon

theorem cueWrites_canon {x0 : State} (h : Canonical x0) (x1 : List (Nat × Word)) : Canonical (cueWrites x0 x1).1 := by
  induction x1 generalizing x0 with
  | nil =>
    unfold cueWrites
    repeat' with_reducible first
        | assumption
  | cons y ys ih =>
    unfold cueWrites
    repeat' with_reducible first
        | assumption
        | apply issue_canon | apply canon_if | apply canon_if1 | apply ih

theorem cueLocked_canon {x0 : State} (h : Canonical x0) (x1 : List (Nat × Word)) : Canonical (cueLocked x0 x1).1 := by
  have hw (t : State) (ht : Canonical t) (p : Nat) : Canonical (issue t 5 (R.PG_LOCK p) 2#32).1 := issue_canon ht _ _ _
  have hf (t : State) (ht : Canonical t) (o : Option Nat) : Canonical (match o with
      | none => t
      | some p => (issue t 5 (R.PG_LOCK p) 2#32).1) := by
    cases o
    · exact ht
    · exact hw t ht _
  unfold cueLocked
  simp only []
  refine canon_if1 h (canon_if1 h (canon_if1 (hf _ (cueWrites_canon h _) _) ?_))
  have h2 := cueWrites_canon (cueWrites_canon h ((x1.foldl (fun ps w => insertPage (pageOf w.1) ps) []).map fun p => (R.PG_LOCK p, 1#32))) x1
  refine canon_if1 (hw _ h2 _) (hf _ (cueWrites_canon (canon_if (hw _ h2 _) h2) _) _)

theorem cueRun_canon {x0 : State} (h : Canonical x0) : Canonical (cueRun x0) := by
  unfold cueRun
  repeat' with_reducible first
      | assumption
      | apply cueChain_canon | apply completeItem_canon | apply cueLocked_canon | apply cueWrites_canon
      | apply failItem_canon | apply canon_if | apply canon_if1
      | split

theorem testEnd_canon {x0 : State} (h : Canonical x0) (x1 : Nat) (x2 : Nat) : Canonical (testEnd x0 x1 x2) := by
  unfold testEnd
  repeat' with_reducible first
      | assumption
      | apply testComplete_canon | apply issue_canon | apply raise_canon | apply canon_if

theorem itemComplete_canon {x0 : State} (h : Canonical x0) (x1 : Exec) (x2 : Bool) (x3 : Int) : Canonical (itemComplete x0 x1 x2 x3) := by
  unfold itemComplete
  repeat' with_reducible first
      | assumption
      | apply failItem_canon | apply renderComplete_canon | apply checkComplete_canon | apply ingestFixComplete_canon
      | apply testEnd_canon | apply completeItem_canon | apply lPushRead_canon | apply nodePoll_canon
      | apply pushHandoff_canon | apply foldComplete_canon | apply appendComplete_canon | apply calStepComplete_canon
      | apply cueRun_canon | apply canon_if
      | ((first | intro x | (lift_lets -underBinder; intro x)); first
        | refine canon_cut (x := x) ?_ ?_ <;> [subst x; (intro _; clear_value x)]
        | refine canon_cut1 (x := x) ?_ ?_ <;> [subst x; (intro _; clear_value x)]
        | clear_value x)
      | split

theorem execFault_canon {x0 : State} (h : Canonical x0) (x1 : Exec) : Canonical (execFault x0 x1) := by
  unfold execFault
  repeat' with_reducible first
      | assumption
      | apply engReset_canon | apply faultItem_canon
      | split

theorem itemWatchdog_canon {x0 : State} (h : Canonical x0) (x1 : Exec) : Canonical (itemWatchdog x0 x1) := by
  unfold itemWatchdog
  repeat' with_reducible first
      | assumption
      | apply raise_canon | apply engReset_canon | apply faultItem_canon | apply canon_if
      | ((first | intro x | (lift_lets -underBinder; intro x)); first
        | refine canon_cut (x := x) ?_ ?_ <;> [subst x; (intro _; clear_value x)])
      | split

theorem whenUp_canon {x0 : State} {x2 : State} (h : Canonical x0) (h1 : Canonical x2) (x1 : List Nat) : Canonical (whenUp x0 x1 x2) := by
  unfold whenUp
  repeat' with_reducible first
      | assumption
      | apply canon_if

theorem onIsl_canon {x0 : State} {x2 : State} (h : Canonical x0) (h1 : Canonical x2) (x1 : Nat) : Canonical (onIsl x0 x1 x2) := by
  unfold onIsl
  repeat' with_reducible first
      | assumption
      | apply whenUp_canon
      | split

theorem onLink_canon {x0 : State} {x2 : State} (h : Canonical x0) (h1 : Canonical x2) (x1 : Nat) : Canonical (onLink x0 x1 x2) := by
  unfold onLink
  repeat' with_reducible first
      | assumption
      | apply canon_if

theorem onDrive_canon {x0 : State} {x1 : State} (h : Canonical x0) (h1 : Canonical x1) : Canonical (onDrive x0 x1) := by
  unfold onDrive
  repeat' with_reducible first
      | assumption
      | apply canon_if

theorem onHb_canon {x0 : State} {x2 : State} (h : Canonical x0) (h1 : Canonical x2) (x1 : Nat) : Canonical (onHb x0 x1 x2) := by
  unfold onHb
  repeat' with_reducible first
      | assumption
      | apply canon_if

theorem answered_canon {x0 : State} (h : Canonical x0) (x1 : Nat) : Canonical (answered x0 x1) := by
  unfold answered
  repeat' with_reducible first
      | assumption
      | apply mgmtWrites_canon | apply canon_if
      | simp -zeta only [canon_mk, canon_fold]

theorem viaBus_canon {x0 : State} (h : Canonical x0) (x1 : Nat) (x2 : Nat) (x3 : Word) : Canonical (viaBus x0 x1 x2 x3) := by
  unfold viaBus
  repeat' with_reducible first
      | assumption
      | apply settle_canon | apply answered_canon | apply busWriteR_canon | apply canon_if

theorem viaBusRead_canon {x0 : State} (h : Canonical x0) (x1 : Nat) (x2 : Nat) : Canonical (viaBusRead x0 x1 x2) := by
  unfold viaBusRead
  repeat' with_reducible first
      | assumption
      | apply settle_canon | apply answered_canon | apply busReadR_canon | apply canon_if

theorem cutReject_canon {x0 : State} (h : Canonical x0) (x1 : Nat) (x2 : Nat) : Canonical (cutReject x0 x1 x2) := by
  unfold cutReject
  repeat' with_reducible first
      | assumption
      | apply rejectRecord_canon | apply canon_if

theorem burstWrite_canon {x0 : State} (h : Canonical x0) (x1 : Nat) (x2 : Nat) (x3 : List Word) (x4 : Option Nat) : Canonical (burstWrite x0 x1 x2 x3 x4).1 := by
  induction x3 generalizing x0 x1 x2 x4 with
  | nil =>
    unfold burstWrite
    repeat' with_reducible first
        | assumption
  | cons y ys ih =>
    unfold burstWrite
    repeat' with_reducible first
        | assumption
        | apply cutReject_canon | apply busWrite_canon | apply noteReply_canon | apply canon_if | apply canon_if1
        | apply ih

theorem burstRead_canon {x1 : State} (h : Canonical x1) (x0 : Nat) (x2 : Nat) (x3 : Nat) (x4 : Option Nat) : Canonical (burstRead x0 x1 x2 x3 x4).1 := by
  induction x0 generalizing x1 x2 x3 x4 with
  | zero =>
    unfold burstRead
    repeat' with_reducible first
        | assumption
  | succ k ih =>
    unfold burstRead
    repeat' with_reducible first
        | assumption
        | apply cutReject_canon | apply busRead_canon | apply noteReply_canon | apply canon_if | apply canon_if1
        | apply ih

end Sys2Proof.Machine
end

