-- ==== Sys2Proof/Laws/CanonCmd.lean ====
section
/-! SUPPORT. The canonical form of the sparse stores is kept by every operation: the operations that the commands name, and an idle step. One lemma for
each operation, named after it. -/

namespace Sys2Proof.Machine
open Sys2Proof

theorem hostDrive_canon {x0 : State} (h : Canonical x0) (x1 : List Byte) : Canonical (hostDrive x0 x1) := by
  unfold hostDrive
  repeat' with_reducible first
      | assumption
      | simp -zeta only [canon_mk, canon_fold]

theorem hostStatus_canon {x0 : State} (h : Canonical x0) (x1 : Nat) : Canonical (hostStatus x0 x1) := by
  unfold hostStatus
  repeat' with_reducible first
      | assumption
      | apply hostDrive_canon

theorem hostData_canon {x0 : State} (h : Canonical x0) (x1 : Nat) (x2 : List Word) : Canonical (hostData x0 x1 x2) := by
  unfold hostData
  repeat' with_reducible first
      | assumption
      | apply hostDrive_canon

theorem hostWr_canon {x0 : State} (h : Canonical x0) (x1 : Nat) (x2 : Word) (x3 : Nat) : Canonical (hostWr x0 x1 x2 x3) := by
  unfold hostWr
  repeat' with_reducible first
      | assumption
      | apply hostStatus_canon | apply burstWrite_canon | apply answered_canon | apply reply_canon | apply canon_if

theorem hostWrb_canon {x0 : State} (h : Canonical x0) (x1 : Nat) (x2 : List Word) (x3 : Option Nat) (x4 : Nat) : Canonical (hostWrb x0 x1 x2 x3 x4) := by
  unfold hostWrb
  repeat' with_reducible first
      | assumption
      | apply hostStatus_canon | apply burstWrite_canon | apply answered_canon | apply reply_canon | apply canon_if

theorem hostRd_canon {x0 : State} (h : Canonical x0) (x1 : Nat) (x2 : Nat) : Canonical (hostRd x0 x1 x2) := by
  unfold hostRd
  repeat' with_reducible first
      | assumption
      | apply hostData_canon | apply burstRead_canon | apply answered_canon | apply reply_canon | apply canon_if

theorem hostRdb_canon {x0 : State} (h : Canonical x0) (x1 : Nat) (x2 : Nat) (x3 : Option Nat) (x4 : Nat) : Canonical (hostRdb x0 x1 x2 x3 x4) := by
  unfold hostRdb
  repeat' with_reducible first
      | assumption
      | apply hostData_canon | apply burstRead_canon | apply answered_canon | apply reply_canon | apply canon_if

theorem hostUnknown_canon {x0 : State} (h : Canonical x0) (x1 : Byte) (x2 : List Byte) (x3 : Nat) : Canonical (hostUnknown x0 x1 x2 x3) := by
  unfold hostUnknown
  repeat' with_reducible first
      | assumption
      | apply hostStatus_canon

theorem hostAbort_canon {x0 : State} (h : Canonical x0) (x1 : Nat) (x2 : List Word) : Canonical (hostAbort x0 x1 x2) := by
  unfold hostAbort
  repeat' with_reducible first
      | assumption
      | apply hostDrive_canon | apply answered_canon | apply burstWrite_canon | apply canon_if

theorem ringFrame_canon {x0 : State} (h : Canonical x0) (x1 : Nat) (x2 : Ryu) (x3 : State → State) (hf : ∀ t, Canonical t → Canonical (x3 t)) : Canonical (ringFrame x0 x1 x2 x3) := by
  unfold ringFrame
  repeat' with_reducible first
      | assumption
      | apply onHb_canon | apply ryuArrive_canon | apply canon_if | apply canon_if1 | apply hf

theorem remoteServe_canon {x0 : State} (h : Canonical x0) (x1 : Nat) (x2 : Nat) (x3 : Nat) (x4 : Nat) (x5 : Nat) (x6 : Nat) (x7 : Nat) (x8 : List Word) (x9 : Option Nat) : Canonical (remoteServe x0 x1 x2 x3 x4 x5 x6 x7 x8 x9) := by
  unfold remoteServe
  repeat' with_reducible first
      | assumption
      | apply burstWrite_canon | apply burstRead_canon | apply answered_canon | apply reply_canon
      | apply ryuOriginate_canon | apply canon_if | apply canon_if1

theorem remoteRequest_canon {x0 : State} (h : Canonical x0) (x1 : Nat) (x2 : Nat) (x3 : Nat) (x4 : Nat) (x5 : Nat) (x6 : Nat) (x7 : Nat) (x8 : List Word) (x9 : Option Nat) : Canonical (remoteRequest x0 x1 x2 x3 x4 x5 x6 x7 x8 x9) := by
  unfold remoteRequest
  repeat' with_reducible first
      | assumption | intro _
      | apply ringFrame_canon | apply remoteServe_canon

theorem remoteReply_canon {x0 : State} (h : Canonical x0) (x1 : Nat) (x2 : Nat) (x3 : Nat) (x4 : Nat) (x5 : Nat) (x6 : Nat) (x7 : Nat) (x8 : Nat) (x9 : List Word) : Canonical (remoteReply x0 x1 x2 x3 x4 x5 x6 x7 x8 x9) := by
  unfold remoteReply
  repeat' with_reducible first
      | assumption | intro _
      | apply ringFrame_canon | apply raReply_canon

theorem loses_canon {x0 : State} (h : Canonical x0) (x1 : Nat) : Canonical (loses x0 x1) := by
  unfold loses
  repeat' with_reducible first
      | assumption
      | apply setReg_canon | apply raise_canon | apply canon_if
      | simp -zeta only [canon_mk, canon_fold]

theorem busGrant_canon {x0 : State} (h : Canonical x0) (x1 : Nat) (x2 : Nat) : Canonical (busGrant x0 x1 x2) := by
  unfold busGrant
  repeat' with_reducible first
      | assumption
      | apply loses_canon | apply setRegF_canon | refine canon_foldl (fun _ _ _ => ?_) ?_
      | simp -zeta only [canon_mk, canon_fold]
      | ((first | intro x | (lift_lets -underBinder; intro x)); first
        | refine canon_cut (x := x) ?_ ?_ <;> [subst x; (intro _; clear_value x)]
        | refine canon_cut1 (x := x) ?_ ?_ <;> [subst x; (intro _; clear_value x)]
        | clear_value x)
      | split

theorem backoffExpiry_canon {x0 : State} (h : Canonical x0) (x1 : Nat) : Canonical (backoffExpiry x0 x1) := by
  unfold backoffExpiry
  repeat' with_reducible first
      | assumption
      | apply canon_if
      | simp -zeta only [canon_mk, canon_fold]
      | split

theorem waitAtFence_canon {x0 : State} (h : Canonical x0) (x1 : Nat) (x2 : Nat) (x3 : Option Word) : Canonical (waitAtFence x0 x1 x2 x3) := by
  unfold waitAtFence
  repeat' with_reducible first
      | assumption
      | simp -zeta only [canon_mk, canon_fold]
      | split

theorem orphanCmd_canon {x0 : State} (h : Canonical x0) (x1 : Nat) : Canonical (orphanCmd x0 x1) := by
  unfold orphanCmd
  repeat' with_reducible first
      | assumption
      | apply busWrite_canon | apply busRead_canon | apply count_canon | apply noteReply_canon
      | apply orphanReply_canon
      | simp -zeta only [canon_mk, canon_fold]
      | split

theorem tenureCutoff_canon {x0 : State} (h : Canonical x0) (x1 : Nat) (x2 : Nat) (x3 : CutWord) : Canonical (tenureCutoff x0 x1 x2 x3) := by
  unfold tenureCutoff
  repeat' with_reducible first
      | assumption
      | apply setReg_canon | apply raise_canon | apply answered_canon | apply busWriteR_canon
      | apply busReadR_canon | apply waitAtFence_canon | apply canon_if
      | simp -zeta only [canon_mk, canon_fold]
      | ((first | intro x | (lift_lets -underBinder; intro x)); first
        | refine canon_cut (x := x) ?_ ?_ <;> [subst x; (intro _; clear_value x)]
        | refine canon_cut1 (x := x) ?_ ?_ <;> [subst x; (intro _; clear_value x)]
        | clear_value x)
      | split

theorem itemExpire_canon {x0 : State} (h : Canonical x0) (x1 : Nat) : Canonical (itemExpire x0 x1) := by
  unfold itemExpire
  repeat' with_reducible first
      | assumption
      | apply expireHead_canon | apply unreserve_canon | apply canon_if
      | ((first | intro x | (lift_lets -underBinder; intro x)); first
        | refine canon_cut (x := x) ?_ ?_ <;> [subst x; (intro _; clear_value x)]
        | refine canon_cut1 (x := x) ?_ ?_ <;> [subst x; (intro _; clear_value x)]
        | clear_value x)
      | split

theorem nodeReply_canon {x0 : State} (h : Canonical x0) (x1 : Nat) (x2 : Nat) (x3 : State → State) (hf : ∀ t, Canonical t → Canonical (x3 t)) : Canonical (nodeReply x0 x1 x2 x3) := by
  unfold nodeReply
  repeat' with_reducible first
      | assumption
      | apply replyFence_canon | apply canon_if | apply hf

theorem linkUpCmd_canon {x0 : State} (h : Canonical x0) (x1 : Nat) : Canonical (linkUpCmd x0 x1) := by
  unfold linkUpCmd
  repeat' with_reducible first
      | assumption
      | apply onIsl_canon | apply ptpTouch_canon | apply linkComesUp_canon

theorem linkDownCmd_canon {x0 : State} (h : Canonical x0) (x1 : Nat) : Canonical (linkDownCmd x0 x1) := by
  unfold linkDownCmd
  repeat' with_reducible first
      | assumption
      | apply linkGoesDown_canon | apply ptpTouch_canon | apply uplinkDown_canon | apply canon_if

theorem announceCmd_canon {x0 : State} (h : Canonical x0) (x1 : Nat) (x2 : Nat) (x3 : Nat) (x4 : Nat) (x5 : Nat) (x6 : Nat) (x7 : Bool) (x8 : Bool) (x9 : Nat) : Canonical (announceCmd x0 x1 x2 x3 x4 x5 x6 x7 x8 x9) := by
  unfold announceCmd
  repeat' with_reducible first
      | assumption | intro _
      | apply onHb_canon | apply lapRx_canon | apply ringFrame_canon | apply annSvcRx_canon | apply fencedOut_canon
      | apply annRx_canon | apply canon_if

theorem cuffIn_canon {x0 : State} (h : Canonical x0) (x1 : Nat) (x2 : State → State) (hf : ∀ t, Canonical t → Canonical (x2 t)) : Canonical (cuffIn x0 x1 x2) := by
  unfold cuffIn
  repeat' with_reducible first
      | assumption
      | apply canon_if | apply hf

theorem heartbeatCmd_canon {x0 : State} (h : Canonical x0) (x1 : HbPath) (x2 : Nat) (x3 : Nat) (x4 : Nat) : Canonical (heartbeatCmd x0 x1 x2 x3 x4) := by
  unfold heartbeatCmd
  repeat' with_reducible first
      | assumption | intro _
      | apply cuffIn_canon | apply heartbeatRx_canon | apply heartbeatForeign_canon | apply ringFrame_canon
      | apply canon_if
      | split

theorem mirrorEntry_canon {x0 : State} (h : Canonical x0) (x1 : Nat) (x2 : MirEntry) : Canonical (mirrorEntry x0 x1 x2) := by
  unfold mirrorEntry
  repeat' with_reducible first
      | assumption
      | apply issue_canon | apply mirrorReject_canon | apply mirrorRecord_canon | apply mirrorAcc_canon
      | apply canon_if | apply canon_if1
      | simp -zeta only [canon_mk, canon_fold]
      | ((first | intro x | (lift_lets -underBinder; intro x)); first
        | refine canon_cut (x := x) ?_ ?_ <;> [subst x; (intro _; clear_value x)]
        | refine canon_cut1 (x := x) ?_ ?_ <;> [subst x; (intro _; clear_value x)]
        | clear_value x)
      | split

theorem mirrorCmd_canon {x0 : State} (h : Canonical x0) (x1 : Nat) (x2 : Nat) (x3 : List MirEntry) : Canonical (mirrorCmd x0 x1 x2 x3) := by
  unfold mirrorCmd
  repeat' with_reducible first
      | assumption | intro _
      | apply cuffIn_canon | apply streamIn_canon | apply ackSend_canon | apply mirrorEntry_canon | apply canon_if
      | apply canon_if1 | refine canon_foldl (fun _ _ _ => ?_) ?_

theorem epochCmd_canon {x0 : State} (h : Canonical x0) (x1 : Nat) (x2 : Nat) (x3 : Nat) (x4 : Nat) (x5 : List EpLayer) : Canonical (epochCmd x0 x1 x2 x3 x4 x5) := by
  unfold epochCmd
  repeat' with_reducible first
      | assumption | intro _
      | apply cuffIn_canon | apply streamIn_canon | apply ackSend_canon | apply epochRx_canon | apply canon_if

theorem resyncEndCmd_canon {x0 : State} (h : Canonical x0) (x1 : Nat) (x2 : Nat) (x3 : Nat) : Canonical (resyncEndCmd x0 x1 x2 x3) := by
  unfold resyncEndCmd
  repeat' with_reducible first
      | assumption | intro _
      | apply cuffIn_canon | apply streamIn_canon | apply ackSend_canon | apply resyncEnd_canon | apply canon_if

theorem epochRestore_canon {x0 : State} (h : Canonical x0) : Canonical (epochRestore x0) := by
  unfold epochRestore
  repeat' with_reducible first
      | assumption
      | apply setReg_canon
      | split

theorem replayCmd_canon {x0 : State} (h : Canonical x0) (x1 : ReplayScan) (x2 : Bool) : Canonical (replayCmd x0 x1 x2) := by
  unfold replayCmd
  repeat' with_reducible first
      | assumption
      | apply calRestore_canon | apply linReplay_canon | apply energyRestore_canon | apply alarmResend_canon
      | apply meterCalRestore_canon | apply ringRestore_canon | apply epochRestore_canon | apply canon_if
      | split

theorem activatedCmd_canon {x0 : State} (h : Canonical x0) : Canonical (activatedCmd x0) := by
  unfold activatedCmd
  repeat' with_reducible first
      | assumption
      | apply activated_canon | apply restart_canon | apply canon_if

theorem firmwareHtk_canon {x0 : State} (h : Canonical x0) : Canonical (firmwareHtk x0) := by
  unfold firmwareHtk
  repeat' with_reducible first
      | assumption
      | apply mgmtWrites_canon | apply canon_if

theorem startedCmd_canon {x0 : State} (h : Canonical x0) : Canonical (startedCmd x0) := by
  unfold startedCmd
  repeat' with_reducible first
      | assumption
      | apply calFirst_canon | apply persistApply_canon | apply firmwareHtk_canon | apply raise_canon | apply canon_if
      | refine canon_foldl (fun _ _ _ => ?_) ?_
      | simp -zeta only [canon_mk, canon_fold]

theorem cageOvercurrentCmd_canon {x0 : State} (h : Canonical x0) (x1 : Nat) (x2 : Nat) (x3 : Nat) : Canonical (cageOvercurrentCmd x0 x1 x2 x3) := by
  unfold cageOvercurrentCmd
  repeat' with_reducible first
      | assumption
      | apply cageOvercurrent_canon | apply ptpTouch_canon | apply uplinkDown_canon | apply canon_if

theorem idle_canon {x0 : State} (h : Canonical x0) : Canonical (idle x0) := by
  unfold idle
  repeat' with_reducible first
      | assumption
      | apply clockTick_canon | apply whenUp_canon | apply scrubTick_canon | apply alertDrive_canon
      | apply onDrive_canon | apply mxTick_canon | apply canon_if
      | simp -zeta only [canon_mk, canon_fold]

end Sys2Proof.Machine
end

