-- ==== Sys2Proof/Laws/State.lean ====
section
/-! SUPPORT. The named updates of the state, field by field: what each leaves alone, and the register, banked register and
table entry that it writes. -/

namespace Sys2Proof.Machine

variable (s : State)

/-! `setReg` -/

@[simp] theorem setReg_pending (a : Nat) (v : Word) : (s.setReg a v).pending = s.pending := rfl
@[simp] theorem setReg_hw (a : Nat) (v : Word) : (s.setReg a v).hw = s.hw := rfl
@[simp] theorem setReg_up (a : Nat) (v : Word) : (s.setReg a v).up = s.up := rfl
@[simp] theorem setReg_clk (a : Nat) (v : Word) : (s.setReg a v).clk = s.clk := rfl
@[simp] theorem setReg_bank (a : Nat) (v : Word) : (s.setReg a v).bank = s.bank := rfl
@[simp] theorem setReg_tabs (a : Nat) (v : Word) : (s.setReg a v).tabs = s.tabs := rfl
@[simp] theorem setReg_ctl (a : Nat) (v : Word) : (s.setReg a v).ctl = s.ctl := rfl
@[simp] theorem setReg_arb (a : Nat) (v : Word) : (s.setReg a v).arb = s.arb := rfl
@[simp] theorem setReg_isl (a : Nat) (v : Word) : (s.setReg a v).isl = s.isl := rfl
@[simp] theorem setReg_evt (a : Nat) (v : Word) : (s.setReg a v).evt = s.evt := rfl
@[simp] theorem setReg_htk (a : Nat) (v : Word) : (s.setReg a v).htk = s.htk := rfl
@[simp] theorem setReg_lin (a : Nat) (v : Word) : (s.setReg a v).lin = s.lin := rfl
@[simp] theorem setReg_pres (a : Nat) (v : Word) : (s.setReg a v).pres = s.pres := rfl
@[simp] theorem setReg_ing (a : Nat) (v : Word) : (s.setReg a v).ing = s.ing := rfl
@[simp] theorem setReg_ren (a : Nat) (v : Word) : (s.setReg a v).ren = s.ren := rfl
@[simp] theorem setReg_layMem (a : Nat) (v : Word) : (s.setReg a v).layMem = s.layMem := rfl
@[simp] theorem setReg_egrMem (a : Nat) (v : Word) : (s.setReg a v).egrMem = s.egrMem := rfl
@[simp] theorem setReg_ports (a : Nat) (v : Word) : (s.setReg a v).ports = s.ports := rfl
@[simp] theorem setReg_macs (a : Nat) (v : Word) : (s.setReg a v).macs = s.macs := rfl
@[simp] theorem setReg_pair (a : Nat) (v : Word) : (s.setReg a v).pair = s.pair := rfl
@[simp] theorem setReg_clkr (a : Nat) (v : Word) : (s.setReg a v).clkr = s.clkr := rfl
@[simp] theorem setReg_ptp (a : Nat) (v : Word) : (s.setReg a v).ptp = s.ptp := rfl
@[simp] theorem setReg_tio (a : Nat) (v : Word) : (s.setReg a v).tio = s.tio := rfl
@[simp] theorem setReg_drv (a : Nat) (v : Word) : (s.setReg a v).drv = s.drv := rfl
@[simp] theorem setReg_mtr (a : Nat) (v : Word) : (s.setReg a v).mtr = s.mtr := rfl
@[simp] theorem setReg_hb (a : Nat) (v : Word) : (s.setReg a v).hb = s.hb := rfl
@[simp] theorem setReg_gnt (a : Nat) (v : Word) : (s.setReg a v).gnt = s.gnt := rfl
@[simp] theorem setReg_upd (a : Nat) (v : Word) : (s.setReg a v).upd = s.upd := rfl
@[simp] theorem setReg_slf (a : Nat) (v : Word) : (s.setReg a v).slf = s.slf := rfl
@[simp] theorem setReg_pwr (a : Nat) (v : Word) : (s.setReg a v).pwr = s.pwr := rfl
@[simp] theorem setReg_freeCtr (a : Nat) (v : Word) : (s.setReg a v).freeCtr = s.freeCtr := rfl

/-! `setRegF` -/

@[simp] theorem setRegF_pending (a lo w v : Nat) : (s.setRegF a lo w v).pending = s.pending := rfl
@[simp] theorem setRegF_hw (a lo w v : Nat) : (s.setRegF a lo w v).hw = s.hw := rfl
@[simp] theorem setRegF_up (a lo w v : Nat) : (s.setRegF a lo w v).up = s.up := rfl
@[simp] theorem setRegF_clk (a lo w v : Nat) : (s.setRegF a lo w v).clk = s.clk := rfl
@[simp] theorem setRegF_bank (a lo w v : Nat) : (s.setRegF a lo w v).bank = s.bank := rfl
@[simp] theorem setRegF_tabs (a lo w v : Nat) : (s.setRegF a lo w v).tabs = s.tabs := rfl
@[simp] theorem setRegF_ctl (a lo w v : Nat) : (s.setRegF a lo w v).ctl = s.ctl := rfl
@[simp] theorem setRegF_arb (a lo w v : Nat) : (s.setRegF a lo w v).arb = s.arb := rfl
@[simp] theorem setRegF_isl (a lo w v : Nat) : (s.setRegF a lo w v).isl = s.isl := rfl
@[simp] theorem setRegF_evt (a lo w v : Nat) : (s.setRegF a lo w v).evt = s.evt := rfl
@[simp] theorem setRegF_htk (a lo w v : Nat) : (s.setRegF a lo w v).htk = s.htk := rfl
@[simp] theorem setRegF_lin (a lo w v : Nat) : (s.setRegF a lo w v).lin = s.lin := rfl
@[simp] theorem setRegF_pres (a lo w v : Nat) : (s.setRegF a lo w v).pres = s.pres := rfl
@[simp] theorem setRegF_ing (a lo w v : Nat) : (s.setRegF a lo w v).ing = s.ing := rfl
@[simp] theorem setRegF_ren (a lo w v : Nat) : (s.setRegF a lo w v).ren = s.ren := rfl
@[simp] theorem setRegF_layMem (a lo w v : Nat) : (s.setRegF a lo w v).layMem = s.layMem := rfl
@[simp] theorem setRegF_egrMem (a lo w v : Nat) : (s.setRegF a lo w v).egrMem = s.egrMem := rfl
@[simp] theorem setRegF_ports (a lo w v : Nat) : (s.setRegF a lo w v).ports = s.ports := rfl
@[simp] theorem setRegF_macs (a lo w v : Nat) : (s.setRegF a lo w v).macs = s.macs := rfl
@[simp] theorem setRegF_pair (a lo w v : Nat) : (s.setRegF a lo w v).pair = s.pair := rfl
@[simp] theorem setRegF_clkr (a lo w v : Nat) : (s.setRegF a lo w v).clkr = s.clkr := rfl
@[simp] theorem setRegF_ptp (a lo w v : Nat) : (s.setRegF a lo w v).ptp = s.ptp := rfl
@[simp] theorem setRegF_tio (a lo w v : Nat) : (s.setRegF a lo w v).tio = s.tio := rfl
@[simp] theorem setRegF_drv (a lo w v : Nat) : (s.setRegF a lo w v).drv = s.drv := rfl
@[simp] theorem setRegF_mtr (a lo w v : Nat) : (s.setRegF a lo w v).mtr = s.mtr := rfl
@[simp] theorem setRegF_hb (a lo w v : Nat) : (s.setRegF a lo w v).hb = s.hb := rfl
@[simp] theorem setRegF_gnt (a lo w v : Nat) : (s.setRegF a lo w v).gnt = s.gnt := rfl
@[simp] theorem setRegF_upd (a lo w v : Nat) : (s.setRegF a lo w v).upd = s.upd := rfl
@[simp] theorem setRegF_slf (a lo w v : Nat) : (s.setRegF a lo w v).slf = s.slf := rfl
@[simp] theorem setRegF_pwr (a lo w v : Nat) : (s.setRegF a lo w v).pwr = s.pwr := rfl
@[simp] theorem setRegF_freeCtr (a lo w v : Nat) : (s.setRegF a lo w v).freeCtr = s.freeCtr := rfl

/-! `setRegB` -/

@[simp] theorem setRegB_pending (a i : Nat) (b : Bool) : (s.setRegB a i b).pending = s.pending := rfl
@[simp] theorem setRegB_hw (a i : Nat) (b : Bool) : (s.setRegB a i b).hw = s.hw := rfl
@[simp] theorem setRegB_up (a i : Nat) (b : Bool) : (s.setRegB a i b).up = s.up := rfl
@[simp] theorem setRegB_clk (a i : Nat) (b : Bool) : (s.setRegB a i b).clk = s.clk := rfl
@[simp] theorem setRegB_bank (a i : Nat) (b : Bool) : (s.setRegB a i b).bank = s.bank := rfl
@[simp] theorem setRegB_tabs (a i : Nat) (b : Bool) : (s.setRegB a i b).tabs = s.tabs := rfl
@[simp] theorem setRegB_ctl (a i : Nat) (b : Bool) : (s.setRegB a i b).ctl = s.ctl := rfl
@[simp] theorem setRegB_arb (a i : Nat) (b : Bool) : (s.setRegB a i b).arb = s.arb := rfl
@[simp] theorem setRegB_isl (a i : Nat) (b : Bool) : (s.setRegB a i b).isl = s.isl := rfl
@[simp] theorem setRegB_evt (a i : Nat) (b : Bool) : (s.setRegB a i b).evt = s.evt := rfl
@[simp] theorem setRegB_htk (a i : Nat) (b : Bool) : (s.setRegB a i b).htk = s.htk := rfl
@[simp] theorem setRegB_lin (a i : Nat) (b : Bool) : (s.setRegB a i b).lin = s.lin := rfl
@[simp] theorem setRegB_pres (a i : Nat) (b : Bool) : (s.setRegB a i b).pres = s.pres := rfl
@[simp] theorem setRegB_ing (a i : Nat) (b : Bool) : (s.setRegB a i b).ing = s.ing := rfl
@[simp] theorem setRegB_ren (a i : Nat) (b : Bool) : (s.setRegB a i b).ren = s.ren := rfl
@[simp] theorem setRegB_layMem (a i : Nat) (b : Bool) : (s.setRegB a i b).layMem = s.layMem := rfl
@[simp] theorem setRegB_egrMem (a i : Nat) (b : Bool) : (s.setRegB a i b).egrMem = s.egrMem := rfl
@[simp] theorem setRegB_ports (a i : Nat) (b : Bool) : (s.setRegB a i b).ports = s.ports := rfl
@[simp] theorem setRegB_macs (a i : Nat) (b : Bool) : (s.setRegB a i b).macs = s.macs := rfl
@[simp] theorem setRegB_pair (a i : Nat) (b : Bool) : (s.setRegB a i b).pair = s.pair := rfl
@[simp] theorem setRegB_clkr (a i : Nat) (b : Bool) : (s.setRegB a i b).clkr = s.clkr := rfl
@[simp] theorem setRegB_ptp (a i : Nat) (b : Bool) : (s.setRegB a i b).ptp = s.ptp := rfl
@[simp] theorem setRegB_tio (a i : Nat) (b : Bool) : (s.setRegB a i b).tio = s.tio := rfl
@[simp] theorem setRegB_drv (a i : Nat) (b : Bool) : (s.setRegB a i b).drv = s.drv := rfl
@[simp] theorem setRegB_mtr (a i : Nat) (b : Bool) : (s.setRegB a i b).mtr = s.mtr := rfl
@[simp] theorem setRegB_hb (a i : Nat) (b : Bool) : (s.setRegB a i b).hb = s.hb := rfl
@[simp] theorem setRegB_gnt (a i : Nat) (b : Bool) : (s.setRegB a i b).gnt = s.gnt := rfl
@[simp] theorem setRegB_upd (a i : Nat) (b : Bool) : (s.setRegB a i b).upd = s.upd := rfl
@[simp] theorem setRegB_slf (a i : Nat) (b : Bool) : (s.setRegB a i b).slf = s.slf := rfl
@[simp] theorem setRegB_pwr (a i : Nat) (b : Bool) : (s.setRegB a i b).pwr = s.pwr := rfl
@[simp] theorem setRegB_freeCtr (a i : Nat) (b : Bool) : (s.setRegB a i b).freeCtr = s.freeCtr := rfl

/-! `count` -/

@[simp] theorem count_pending (a lo w k : Nat) : (s.count a lo w k).pending = s.pending := rfl
@[simp] theorem count_hw (a lo w k : Nat) : (s.count a lo w k).hw = s.hw := rfl
@[simp] theorem count_up (a lo w k : Nat) : (s.count a lo w k).up = s.up := rfl
@[simp] theorem count_clk (a lo w k : Nat) : (s.count a lo w k).clk = s.clk := rfl
@[simp] theorem count_bank (a lo w k : Nat) : (s.count a lo w k).bank = s.bank := rfl
@[simp] theorem count_tabs (a lo w k : Nat) : (s.count a lo w k).tabs = s.tabs := rfl
@[simp] theorem count_ctl (a lo w k : Nat) : (s.count a lo w k).ctl = s.ctl := rfl
@[simp] theorem count_arb (a lo w k : Nat) : (s.count a lo w k).arb = s.arb := rfl
@[simp] theorem count_isl (a lo w k : Nat) : (s.count a lo w k).isl = s.isl := rfl
@[simp] theorem count_evt (a lo w k : Nat) : (s.count a lo w k).evt = s.evt := rfl
@[simp] theorem count_htk (a lo w k : Nat) : (s.count a lo w k).htk = s.htk := rfl
@[simp] theorem count_lin (a lo w k : Nat) : (s.count a lo w k).lin = s.lin := rfl
@[simp] theorem count_pres (a lo w k : Nat) : (s.count a lo w k).pres = s.pres := rfl
@[simp] theorem count_ing (a lo w k : Nat) : (s.count a lo w k).ing = s.ing := rfl
@[simp] theorem count_ren (a lo w k : Nat) : (s.count a lo w k).ren = s.ren := rfl
@[simp] theorem count_layMem (a lo w k : Nat) : (s.count a lo w k).layMem = s.layMem := rfl
@[simp] theorem count_egrMem (a lo w k : Nat) : (s.count a lo w k).egrMem = s.egrMem := rfl
@[simp] theorem count_ports (a lo w k : Nat) : (s.count a lo w k).ports = s.ports := rfl
@[simp] theorem count_macs (a lo w k : Nat) : (s.count a lo w k).macs = s.macs := rfl
@[simp] theorem count_pair (a lo w k : Nat) : (s.count a lo w k).pair = s.pair := rfl
@[simp] theorem count_clkr (a lo w k : Nat) : (s.count a lo w k).clkr = s.clkr := rfl
@[simp] theorem count_ptp (a lo w k : Nat) : (s.count a lo w k).ptp = s.ptp := rfl
@[simp] theorem count_tio (a lo w k : Nat) : (s.count a lo w k).tio = s.tio := rfl
@[simp] theorem count_drv (a lo w k : Nat) : (s.count a lo w k).drv = s.drv := rfl
@[simp] theorem count_mtr (a lo w k : Nat) : (s.count a lo w k).mtr = s.mtr := rfl
@[simp] theorem count_hb (a lo w k : Nat) : (s.count a lo w k).hb = s.hb := rfl
@[simp] theorem count_gnt (a lo w k : Nat) : (s.count a lo w k).gnt = s.gnt := rfl
@[simp] theorem count_upd (a lo w k : Nat) : (s.count a lo w k).upd = s.upd := rfl
@[simp] theorem count_slf (a lo w k : Nat) : (s.count a lo w k).slf = s.slf := rfl
@[simp] theorem count_pwr (a lo w k : Nat) : (s.count a lo w k).pwr = s.pwr := rfl
@[simp] theorem count_freeCtr (a lo w k : Nat) : (s.count a lo w k).freeCtr = s.freeCtr := rfl

/-! `setBreg` -/

@[simp] theorem setBreg_pending (r a : Nat) (v : Word) : (s.setBreg r a v).pending = s.pending := rfl
@[simp] theorem setBreg_hw (r a : Nat) (v : Word) : (s.setBreg r a v).hw = s.hw := rfl
@[simp] theorem setBreg_up (r a : Nat) (v : Word) : (s.setBreg r a v).up = s.up := rfl
@[simp] theorem setBreg_clk (r a : Nat) (v : Word) : (s.setBreg r a v).clk = s.clk := rfl
@[simp] theorem setBreg_regs (r a : Nat) (v : Word) : (s.setBreg r a v).regs = s.regs := rfl
@[simp] theorem setBreg_tabs (r a : Nat) (v : Word) : (s.setBreg r a v).tabs = s.tabs := rfl
@[simp] theorem setBreg_ctl (r a : Nat) (v : Word) : (s.setBreg r a v).ctl = s.ctl := rfl
@[simp] theorem setBreg_arb (r a : Nat) (v : Word) : (s.setBreg r a v).arb = s.arb := rfl
@[simp] theorem setBreg_isl (r a : Nat) (v : Word) : (s.setBreg r a v).isl = s.isl := rfl
@[simp] theorem setBreg_evt (r a : Nat) (v : Word) : (s.setBreg r a v).evt = s.evt := rfl
@[simp] theorem setBreg_htk (r a : Nat) (v : Word) : (s.setBreg r a v).htk = s.htk := rfl
@[simp] theorem setBreg_lin (r a : Nat) (v : Word) : (s.setBreg r a v).lin = s.lin := rfl
@[simp] theorem setBreg_pres (r a : Nat) (v : Word) : (s.setBreg r a v).pres = s.pres := rfl
@[simp] theorem setBreg_ing (r a : Nat) (v : Word) : (s.setBreg r a v).ing = s.ing := rfl
@[simp] theorem setBreg_ren (r a : Nat) (v : Word) : (s.setBreg r a v).ren = s.ren := rfl
@[simp] theorem setBreg_layMem (r a : Nat) (v : Word) : (s.setBreg r a v).layMem = s.layMem := rfl
@[simp] theorem setBreg_egrMem (r a : Nat) (v : Word) : (s.setBreg r a v).egrMem = s.egrMem := rfl
@[simp] theorem setBreg_ports (r a : Nat) (v : Word) : (s.setBreg r a v).ports = s.ports := rfl
@[simp] theorem setBreg_macs (r a : Nat) (v : Word) : (s.setBreg r a v).macs = s.macs := rfl
@[simp] theorem setBreg_pair (r a : Nat) (v : Word) : (s.setBreg r a v).pair = s.pair := rfl
@[simp] theorem setBreg_clkr (r a : Nat) (v : Word) : (s.setBreg r a v).clkr = s.clkr := rfl
@[simp] theorem setBreg_ptp (r a : Nat) (v : Word) : (s.setBreg r a v).ptp = s.ptp := rfl
@[simp] theorem setBreg_tio (r a : Nat) (v : Word) : (s.setBreg r a v).tio = s.tio := rfl
@[simp] theorem setBreg_drv (r a : Nat) (v : Word) : (s.setBreg r a v).drv = s.drv := rfl
@[simp] theorem setBreg_mtr (r a : Nat) (v : Word) : (s.setBreg r a v).mtr = s.mtr := rfl
@[simp] theorem setBreg_hb (r a : Nat) (v : Word) : (s.setBreg r a v).hb = s.hb := rfl
@[simp] theorem setBreg_gnt (r a : Nat) (v : Word) : (s.setBreg r a v).gnt = s.gnt := rfl
@[simp] theorem setBreg_upd (r a : Nat) (v : Word) : (s.setBreg r a v).upd = s.upd := rfl
@[simp] theorem setBreg_slf (r a : Nat) (v : Word) : (s.setBreg r a v).slf = s.slf := rfl
@[simp] theorem setBreg_pwr (r a : Nat) (v : Word) : (s.setBreg r a v).pwr = s.pwr := rfl
@[simp] theorem setBreg_freeCtr (r a : Nat) (v : Word) : (s.setBreg r a v).freeCtr = s.freeCtr := rfl

/-! `setEnt` -/

@[simp] theorem setEnt_pending (t i : Nat) (ws : List Word) : (s.setEnt t i ws).pending = s.pending := rfl
@[simp] theorem setEnt_hw (t i : Nat) (ws : List Word) : (s.setEnt t i ws).hw = s.hw := rfl
@[simp] theorem setEnt_up (t i : Nat) (ws : List Word) : (s.setEnt t i ws).up = s.up := rfl
@[simp] theorem setEnt_clk (t i : Nat) (ws : List Word) : (s.setEnt t i ws).clk = s.clk := rfl
@[simp] theorem setEnt_regs (t i : Nat) (ws : List Word) : (s.setEnt t i ws).regs = s.regs := rfl
@[simp] theorem setEnt_bank (t i : Nat) (ws : List Word) : (s.setEnt t i ws).bank = s.bank := rfl
@[simp] theorem setEnt_ctl (t i : Nat) (ws : List Word) : (s.setEnt t i ws).ctl = s.ctl := rfl
@[simp] theorem setEnt_arb (t i : Nat) (ws : List Word) : (s.setEnt t i ws).arb = s.arb := rfl
@[simp] theorem setEnt_isl (t i : Nat) (ws : List Word) : (s.setEnt t i ws).isl = s.isl := rfl
@[simp] theorem setEnt_evt (t i : Nat) (ws : List Word) : (s.setEnt t i ws).evt = s.evt := rfl
@[simp] theorem setEnt_htk (t i : Nat) (ws : List Word) : (s.setEnt t i ws).htk = s.htk := rfl
@[simp] theorem setEnt_lin (t i : Nat) (ws : List Word) : (s.setEnt t i ws).lin = s.lin := rfl
@[simp] theorem setEnt_pres (t i : Nat) (ws : List Word) : (s.setEnt t i ws).pres = s.pres := rfl
@[simp] theorem setEnt_ing (t i : Nat) (ws : List Word) : (s.setEnt t i ws).ing = s.ing := rfl
@[simp] theorem setEnt_ren (t i : Nat) (ws : List Word) : (s.setEnt t i ws).ren = s.ren := rfl
@[simp] theorem setEnt_layMem (t i : Nat) (ws : List Word) : (s.setEnt t i ws).layMem = s.layMem := rfl
@[simp] theorem setEnt_egrMem (t i : Nat) (ws : List Word) : (s.setEnt t i ws).egrMem = s.egrMem := rfl
@[simp] theorem setEnt_ports (t i : Nat) (ws : List Word) : (s.setEnt t i ws).ports = s.ports := rfl
@[simp] theorem setEnt_macs (t i : Nat) (ws : List Word) : (s.setEnt t i ws).macs = s.macs := rfl
@[simp] theorem setEnt_pair (t i : Nat) (ws : List Word) : (s.setEnt t i ws).pair = s.pair := rfl
@[simp] theorem setEnt_clkr (t i : Nat) (ws : List Word) : (s.setEnt t i ws).clkr = s.clkr := rfl
@[simp] theorem setEnt_ptp (t i : Nat) (ws : List Word) : (s.setEnt t i ws).ptp = s.ptp := rfl
@[simp] theorem setEnt_tio (t i : Nat) (ws : List Word) : (s.setEnt t i ws).tio = s.tio := rfl
@[simp] theorem setEnt_drv (t i : Nat) (ws : List Word) : (s.setEnt t i ws).drv = s.drv := rfl
@[simp] theorem setEnt_mtr (t i : Nat) (ws : List Word) : (s.setEnt t i ws).mtr = s.mtr := rfl
@[simp] theorem setEnt_hb (t i : Nat) (ws : List Word) : (s.setEnt t i ws).hb = s.hb := rfl
@[simp] theorem setEnt_gnt (t i : Nat) (ws : List Word) : (s.setEnt t i ws).gnt = s.gnt := rfl
@[simp] theorem setEnt_upd (t i : Nat) (ws : List Word) : (s.setEnt t i ws).upd = s.upd := rfl
@[simp] theorem setEnt_slf (t i : Nat) (ws : List Word) : (s.setEnt t i ws).slf = s.slf := rfl
@[simp] theorem setEnt_pwr (t i : Nat) (ws : List Word) : (s.setEnt t i ws).pwr = s.pwr := rfl
@[simp] theorem setEnt_freeCtr (t i : Nat) (ws : List Word) : (s.setEnt t i ws).freeCtr = s.freeCtr := rfl

/-! `setEntW` -/

@[simp] theorem setEntW_pending (t i k : Nat) (v : Word) : (s.setEntW t i k v).pending = s.pending := rfl
@[simp] theorem setEntW_hw (t i k : Nat) (v : Word) : (s.setEntW t i k v).hw = s.hw := rfl
@[simp] theorem setEntW_up (t i k : Nat) (v : Word) : (s.setEntW t i k v).up = s.up := rfl
@[simp] theorem setEntW_clk (t i k : Nat) (v : Word) : (s.setEntW t i k v).clk = s.clk := rfl
@[simp] theorem setEntW_regs (t i k : Nat) (v : Word) : (s.setEntW t i k v).regs = s.regs := rfl
@[simp] theorem setEntW_bank (t i k : Nat) (v : Word) : (s.setEntW t i k v).bank = s.bank := rfl
@[simp] theorem setEntW_ctl (t i k : Nat) (v : Word) : (s.setEntW t i k v).ctl = s.ctl := rfl
@[simp] theorem setEntW_arb (t i k : Nat) (v : Word) : (s.setEntW t i k v).arb = s.arb := rfl
@[simp] theorem setEntW_isl (t i k : Nat) (v : Word) : (s.setEntW t i k v).isl = s.isl := rfl
@[simp] theorem setEntW_evt (t i k : Nat) (v : Word) : (s.setEntW t i k v).evt = s.evt := rfl
@[simp] theorem setEntW_htk (t i k : Nat) (v : Word) : (s.setEntW t i k v).htk = s.htk := rfl
@[simp] theorem setEntW_lin (t i k : Nat) (v : Word) : (s.setEntW t i k v).lin = s.lin := rfl
@[simp] theorem setEntW_pres (t i k : Nat) (v : Word) : (s.setEntW t i k v).pres = s.pres := rfl
@[simp] theorem setEntW_ing (t i k : Nat) (v : Word) : (s.setEntW t i k v).ing = s.ing := rfl
@[simp] theorem setEntW_ren (t i k : Nat) (v : Word) : (s.setEntW t i k v).ren = s.ren := rfl
@[simp] theorem setEntW_layMem (t i k : Nat) (v : Word) : (s.setEntW t i k v).layMem = s.layMem := rfl
@[simp] theorem setEntW_egrMem (t i k : Nat) (v : Word) : (s.setEntW t i k v).egrMem = s.egrMem := rfl
@[simp] theorem setEntW_ports (t i k : Nat) (v : Word) : (s.setEntW t i k v).ports = s.ports := rfl
@[simp] theorem setEntW_macs (t i k : Nat) (v : Word) : (s.setEntW t i k v).macs = s.macs := rfl
@[simp] theorem setEntW_pair (t i k : Nat) (v : Word) : (s.setEntW t i k v).pair = s.pair := rfl
@[simp] theorem setEntW_clkr (t i k : Nat) (v : Word) : (s.setEntW t i k v).clkr = s.clkr := rfl
@[simp] theorem setEntW_ptp (t i k : Nat) (v : Word) : (s.setEntW t i k v).ptp = s.ptp := rfl
@[simp] theorem setEntW_tio (t i k : Nat) (v : Word) : (s.setEntW t i k v).tio = s.tio := rfl
@[simp] theorem setEntW_drv (t i k : Nat) (v : Word) : (s.setEntW t i k v).drv = s.drv := rfl
@[simp] theorem setEntW_mtr (t i k : Nat) (v : Word) : (s.setEntW t i k v).mtr = s.mtr := rfl
@[simp] theorem setEntW_hb (t i k : Nat) (v : Word) : (s.setEntW t i k v).hb = s.hb := rfl
@[simp] theorem setEntW_gnt (t i k : Nat) (v : Word) : (s.setEntW t i k v).gnt = s.gnt := rfl
@[simp] theorem setEntW_upd (t i k : Nat) (v : Word) : (s.setEntW t i k v).upd = s.upd := rfl
@[simp] theorem setEntW_slf (t i k : Nat) (v : Word) : (s.setEntW t i k v).slf = s.slf := rfl
@[simp] theorem setEntW_pwr (t i k : Nat) (v : Word) : (s.setEntW t i k v).pwr = s.pwr := rfl
@[simp] theorem setEntW_freeCtr (t i k : Nat) (v : Word) : (s.setEntW t i k v).freeCtr = s.freeCtr := rfl

/-! `draw` -/

@[simp] theorem draw_pending : (s.draw).pending = s.pending := rfl
@[simp] theorem draw_hw : (s.draw).hw = s.hw := rfl
@[simp] theorem draw_up : (s.draw).up = s.up := rfl
@[simp] theorem draw_clk : (s.draw).clk = s.clk := rfl
@[simp] theorem draw_regs : (s.draw).regs = s.regs := rfl
@[simp] theorem draw_bank : (s.draw).bank = s.bank := rfl
@[simp] theorem draw_tabs : (s.draw).tabs = s.tabs := rfl
@[simp] theorem draw_ctl : (s.draw).ctl = s.ctl := rfl
@[simp] theorem draw_arb : (s.draw).arb = s.arb := rfl
@[simp] theorem draw_isl : (s.draw).isl = s.isl := rfl
@[simp] theorem draw_evt : (s.draw).evt = s.evt := rfl
@[simp] theorem draw_htk : (s.draw).htk = s.htk := rfl
@[simp] theorem draw_lin : (s.draw).lin = s.lin := rfl
@[simp] theorem draw_pres : (s.draw).pres = s.pres := rfl
@[simp] theorem draw_ing : (s.draw).ing = s.ing := rfl
@[simp] theorem draw_ren : (s.draw).ren = s.ren := rfl
@[simp] theorem draw_layMem : (s.draw).layMem = s.layMem := rfl
@[simp] theorem draw_egrMem : (s.draw).egrMem = s.egrMem := rfl
@[simp] theorem draw_ports : (s.draw).ports = s.ports := rfl
@[simp] theorem draw_macs : (s.draw).macs = s.macs := rfl
@[simp] theorem draw_pair : (s.draw).pair = s.pair := rfl
@[simp] theorem draw_clkr : (s.draw).clkr = s.clkr := rfl
@[simp] theorem draw_ptp : (s.draw).ptp = s.ptp := rfl
@[simp] theorem draw_tio : (s.draw).tio = s.tio := rfl
@[simp] theorem draw_drv : (s.draw).drv = s.drv := rfl
@[simp] theorem draw_mtr : (s.draw).mtr = s.mtr := rfl
@[simp] theorem draw_hb : (s.draw).hb = s.hb := rfl
@[simp] theorem draw_gnt : (s.draw).gnt = s.gnt := rfl
@[simp] theorem draw_upd : (s.draw).upd = s.upd := rfl
@[simp] theorem draw_slf : (s.draw).slf = s.slf := rfl
@[simp] theorem draw_pwr : (s.draw).pwr = s.pwr := rfl

/-! `setDom` -/

@[simp] theorem setDom_pending (d : Nat) (x : DomRt) : (s.setDom d x).pending = s.pending := rfl
@[simp] theorem setDom_hw (d : Nat) (x : DomRt) : (s.setDom d x).hw = s.hw := rfl
@[simp] theorem setDom_up (d : Nat) (x : DomRt) : (s.setDom d x).up = s.up := rfl
@[simp] theorem setDom_clk (d : Nat) (x : DomRt) : (s.setDom d x).clk = s.clk := rfl
@[simp] theorem setDom_regs (d : Nat) (x : DomRt) : (s.setDom d x).regs = s.regs := rfl
@[simp] theorem setDom_bank (d : Nat) (x : DomRt) : (s.setDom d x).bank = s.bank := rfl
@[simp] theorem setDom_tabs (d : Nat) (x : DomRt) : (s.setDom d x).tabs = s.tabs := rfl
@[simp] theorem setDom_ctl (d : Nat) (x : DomRt) : (s.setDom d x).ctl = s.ctl := rfl
@[simp] theorem setDom_arb (d : Nat) (x : DomRt) : (s.setDom d x).arb = s.arb := rfl
@[simp] theorem setDom_isl (d : Nat) (x : DomRt) : (s.setDom d x).isl = s.isl := rfl
@[simp] theorem setDom_evt (d : Nat) (x : DomRt) : (s.setDom d x).evt = s.evt := rfl
@[simp] theorem setDom_htk (d : Nat) (x : DomRt) : (s.setDom d x).htk = s.htk := rfl
@[simp] theorem setDom_lin (d : Nat) (x : DomRt) : (s.setDom d x).lin = s.lin := rfl
@[simp] theorem setDom_ing (d : Nat) (x : DomRt) : (s.setDom d x).ing = s.ing := rfl
@[simp] theorem setDom_ren (d : Nat) (x : DomRt) : (s.setDom d x).ren = s.ren := rfl
@[simp] theorem setDom_layMem (d : Nat) (x : DomRt) : (s.setDom d x).layMem = s.layMem := rfl
@[simp] theorem setDom_egrMem (d : Nat) (x : DomRt) : (s.setDom d x).egrMem = s.egrMem := rfl
@[simp] theorem setDom_ports (d : Nat) (x : DomRt) : (s.setDom d x).ports = s.ports := rfl
@[simp] theorem setDom_macs (d : Nat) (x : DomRt) : (s.setDom d x).macs = s.macs := rfl
@[simp] theorem setDom_pair (d : Nat) (x : DomRt) : (s.setDom d x).pair = s.pair := rfl
@[simp] theorem setDom_clkr (d : Nat) (x : DomRt) : (s.setDom d x).clkr = s.clkr := rfl
@[simp] theorem setDom_ptp (d : Nat) (x : DomRt) : (s.setDom d x).ptp = s.ptp := rfl
@[simp] theorem setDom_tio (d : Nat) (x : DomRt) : (s.setDom d x).tio = s.tio := rfl
@[simp] theorem setDom_drv (d : Nat) (x : DomRt) : (s.setDom d x).drv = s.drv := rfl
@[simp] theorem setDom_mtr (d : Nat) (x : DomRt) : (s.setDom d x).mtr = s.mtr := rfl
@[simp] theorem setDom_hb (d : Nat) (x : DomRt) : (s.setDom d x).hb = s.hb := rfl
@[simp] theorem setDom_gnt (d : Nat) (x : DomRt) : (s.setDom d x).gnt = s.gnt := rfl
@[simp] theorem setDom_upd (d : Nat) (x : DomRt) : (s.setDom d x).upd = s.upd := rfl
@[simp] theorem setDom_slf (d : Nat) (x : DomRt) : (s.setDom d x).slf = s.slf := rfl
@[simp] theorem setDom_pwr (d : Nat) (x : DomRt) : (s.setDom d x).pwr = s.pwr := rfl
@[simp] theorem setDom_freeCtr (d : Nat) (x : DomRt) : (s.setDom d x).freeCtr = s.freeCtr := rfl

/-! `setLay` -/

@[simp] theorem setLay_pending (n : Nat) (x : LayRt) : (s.setLay n x).pending = s.pending := rfl
@[simp] theorem setLay_hw (n : Nat) (x : LayRt) : (s.setLay n x).hw = s.hw := rfl
@[simp] theorem setLay_up (n : Nat) (x : LayRt) : (s.setLay n x).up = s.up := rfl
@[simp] theorem setLay_clk (n : Nat) (x : LayRt) : (s.setLay n x).clk = s.clk := rfl
@[simp] theorem setLay_regs (n : Nat) (x : LayRt) : (s.setLay n x).regs = s.regs := rfl
@[simp] theorem setLay_bank (n : Nat) (x : LayRt) : (s.setLay n x).bank = s.bank := rfl
@[simp] theorem setLay_tabs (n : Nat) (x : LayRt) : (s.setLay n x).tabs = s.tabs := rfl
@[simp] theorem setLay_ctl (n : Nat) (x : LayRt) : (s.setLay n x).ctl = s.ctl := rfl
@[simp] theorem setLay_arb (n : Nat) (x : LayRt) : (s.setLay n x).arb = s.arb := rfl
@[simp] theorem setLay_isl (n : Nat) (x : LayRt) : (s.setLay n x).isl = s.isl := rfl
@[simp] theorem setLay_evt (n : Nat) (x : LayRt) : (s.setLay n x).evt = s.evt := rfl
@[simp] theorem setLay_htk (n : Nat) (x : LayRt) : (s.setLay n x).htk = s.htk := rfl
@[simp] theorem setLay_lin (n : Nat) (x : LayRt) : (s.setLay n x).lin = s.lin := rfl
@[simp] theorem setLay_pres (n : Nat) (x : LayRt) : (s.setLay n x).pres = s.pres := rfl
@[simp] theorem setLay_ren (n : Nat) (x : LayRt) : (s.setLay n x).ren = s.ren := rfl
@[simp] theorem setLay_layMem (n : Nat) (x : LayRt) : (s.setLay n x).layMem = s.layMem := rfl
@[simp] theorem setLay_egrMem (n : Nat) (x : LayRt) : (s.setLay n x).egrMem = s.egrMem := rfl
@[simp] theorem setLay_ports (n : Nat) (x : LayRt) : (s.setLay n x).ports = s.ports := rfl
@[simp] theorem setLay_macs (n : Nat) (x : LayRt) : (s.setLay n x).macs = s.macs := rfl
@[simp] theorem setLay_pair (n : Nat) (x : LayRt) : (s.setLay n x).pair = s.pair := rfl
@[simp] theorem setLay_clkr (n : Nat) (x : LayRt) : (s.setLay n x).clkr = s.clkr := rfl
@[simp] theorem setLay_ptp (n : Nat) (x : LayRt) : (s.setLay n x).ptp = s.ptp := rfl
@[simp] theorem setLay_tio (n : Nat) (x : LayRt) : (s.setLay n x).tio = s.tio := rfl
@[simp] theorem setLay_drv (n : Nat) (x : LayRt) : (s.setLay n x).drv = s.drv := rfl
@[simp] theorem setLay_mtr (n : Nat) (x : LayRt) : (s.setLay n x).mtr = s.mtr := rfl
@[simp] theorem setLay_hb (n : Nat) (x : LayRt) : (s.setLay n x).hb = s.hb := rfl
@[simp] theorem setLay_gnt (n : Nat) (x : LayRt) : (s.setLay n x).gnt = s.gnt := rfl
@[simp] theorem setLay_upd (n : Nat) (x : LayRt) : (s.setLay n x).upd = s.upd := rfl
@[simp] theorem setLay_slf (n : Nat) (x : LayRt) : (s.setLay n x).slf = s.slf := rfl
@[simp] theorem setLay_pwr (n : Nat) (x : LayRt) : (s.setLay n x).pwr = s.pwr := rfl
@[simp] theorem setLay_freeCtr (n : Nat) (x : LayRt) : (s.setLay n x).freeCtr = s.freeCtr := rfl

/-! `setFlow` -/

@[simp] theorem setFlow_pending (f : Nat) (x : FlowRt) : (s.setFlow f x).pending = s.pending := rfl
@[simp] theorem setFlow_hw (f : Nat) (x : FlowRt) : (s.setFlow f x).hw = s.hw := rfl
@[simp] theorem setFlow_up (f : Nat) (x : FlowRt) : (s.setFlow f x).up = s.up := rfl
@[simp] theorem setFlow_clk (f : Nat) (x : FlowRt) : (s.setFlow f x).clk = s.clk := rfl
@[simp] theorem setFlow_regs (f : Nat) (x : FlowRt) : (s.setFlow f x).regs = s.regs := rfl
@[simp] theorem setFlow_bank (f : Nat) (x : FlowRt) : (s.setFlow f x).bank = s.bank := rfl
@[simp] theorem setFlow_tabs (f : Nat) (x : FlowRt) : (s.setFlow f x).tabs = s.tabs := rfl
@[simp] theorem setFlow_ctl (f : Nat) (x : FlowRt) : (s.setFlow f x).ctl = s.ctl := rfl
@[simp] theorem setFlow_arb (f : Nat) (x : FlowRt) : (s.setFlow f x).arb = s.arb := rfl
@[simp] theorem setFlow_isl (f : Nat) (x : FlowRt) : (s.setFlow f x).isl = s.isl := rfl
@[simp] theorem setFlow_evt (f : Nat) (x : FlowRt) : (s.setFlow f x).evt = s.evt := rfl
@[simp] theorem setFlow_lin (f : Nat) (x : FlowRt) : (s.setFlow f x).lin = s.lin := rfl
@[simp] theorem setFlow_pres (f : Nat) (x : FlowRt) : (s.setFlow f x).pres = s.pres := rfl
@[simp] theorem setFlow_ing (f : Nat) (x : FlowRt) : (s.setFlow f x).ing = s.ing := rfl
@[simp] theorem setFlow_ren (f : Nat) (x : FlowRt) : (s.setFlow f x).ren = s.ren := rfl
@[simp] theorem setFlow_layMem (f : Nat) (x : FlowRt) : (s.setFlow f x).layMem = s.layMem := rfl
@[simp] theorem setFlow_egrMem (f : Nat) (x : FlowRt) : (s.setFlow f x).egrMem = s.egrMem := rfl
@[simp] theorem setFlow_ports (f : Nat) (x : FlowRt) : (s.setFlow f x).ports = s.ports := rfl
@[simp] theorem setFlow_macs (f : Nat) (x : FlowRt) : (s.setFlow f x).macs = s.macs := rfl
@[simp] theorem setFlow_pair (f : Nat) (x : FlowRt) : (s.setFlow f x).pair = s.pair := rfl
@[simp] theorem setFlow_clkr (f : Nat) (x : FlowRt) : (s.setFlow f x).clkr = s.clkr := rfl
@[simp] theorem setFlow_ptp (f : Nat) (x : FlowRt) : (s.setFlow f x).ptp = s.ptp := rfl
@[simp] theorem setFlow_tio (f : Nat) (x : FlowRt) : (s.setFlow f x).tio = s.tio := rfl
@[simp] theorem setFlow_drv (f : Nat) (x : FlowRt) : (s.setFlow f x).drv = s.drv := rfl
@[simp] theorem setFlow_mtr (f : Nat) (x : FlowRt) : (s.setFlow f x).mtr = s.mtr := rfl
@[simp] theorem setFlow_hb (f : Nat) (x : FlowRt) : (s.setFlow f x).hb = s.hb := rfl
@[simp] theorem setFlow_gnt (f : Nat) (x : FlowRt) : (s.setFlow f x).gnt = s.gnt := rfl
@[simp] theorem setFlow_upd (f : Nat) (x : FlowRt) : (s.setFlow f x).upd = s.upd := rfl
@[simp] theorem setFlow_slf (f : Nat) (x : FlowRt) : (s.setFlow f x).slf = s.slf := rfl
@[simp] theorem setFlow_pwr (f : Nat) (x : FlowRt) : (s.setFlow f x).pwr = s.pwr := rfl
@[simp] theorem setFlow_freeCtr (f : Nat) (x : FlowRt) : (s.setFlow f x).freeCtr = s.freeCtr := rfl

/-! `setPort` -/

@[simp] theorem setPort_pending (p : Nat) (x : PortRt) : (s.setPort p x).pending = s.pending := rfl
@[simp] theorem setPort_hw (p : Nat) (x : PortRt) : (s.setPort p x).hw = s.hw := rfl
@[simp] theorem setPort_up (p : Nat) (x : PortRt) : (s.setPort p x).up = s.up := rfl
@[simp] theorem setPort_clk (p : Nat) (x : PortRt) : (s.setPort p x).clk = s.clk := rfl
@[simp] theorem setPort_regs (p : Nat) (x : PortRt) : (s.setPort p x).regs = s.regs := rfl
@[simp] theorem setPort_bank (p : Nat) (x : PortRt) : (s.setPort p x).bank = s.bank := rfl
@[simp] theorem setPort_tabs (p : Nat) (x : PortRt) : (s.setPort p x).tabs = s.tabs := rfl
@[simp] theorem setPort_ctl (p : Nat) (x : PortRt) : (s.setPort p x).ctl = s.ctl := rfl
@[simp] theorem setPort_arb (p : Nat) (x : PortRt) : (s.setPort p x).arb = s.arb := rfl
@[simp] theorem setPort_isl (p : Nat) (x : PortRt) : (s.setPort p x).isl = s.isl := rfl
@[simp] theorem setPort_evt (p : Nat) (x : PortRt) : (s.setPort p x).evt = s.evt := rfl
@[simp] theorem setPort_htk (p : Nat) (x : PortRt) : (s.setPort p x).htk = s.htk := rfl
@[simp] theorem setPort_lin (p : Nat) (x : PortRt) : (s.setPort p x).lin = s.lin := rfl
@[simp] theorem setPort_pres (p : Nat) (x : PortRt) : (s.setPort p x).pres = s.pres := rfl
@[simp] theorem setPort_ing (p : Nat) (x : PortRt) : (s.setPort p x).ing = s.ing := rfl
@[simp] theorem setPort_ren (p : Nat) (x : PortRt) : (s.setPort p x).ren = s.ren := rfl
@[simp] theorem setPort_layMem (p : Nat) (x : PortRt) : (s.setPort p x).layMem = s.layMem := rfl
@[simp] theorem setPort_egrMem (p : Nat) (x : PortRt) : (s.setPort p x).egrMem = s.egrMem := rfl
@[simp] theorem setPort_macs (p : Nat) (x : PortRt) : (s.setPort p x).macs = s.macs := rfl
@[simp] theorem setPort_pair (p : Nat) (x : PortRt) : (s.setPort p x).pair = s.pair := rfl
@[simp] theorem setPort_clkr (p : Nat) (x : PortRt) : (s.setPort p x).clkr = s.clkr := rfl
@[simp] theorem setPort_ptp (p : Nat) (x : PortRt) : (s.setPort p x).ptp = s.ptp := rfl
@[simp] theorem setPort_tio (p : Nat) (x : PortRt) : (s.setPort p x).tio = s.tio := rfl
@[simp] theorem setPort_drv (p : Nat) (x : PortRt) : (s.setPort p x).drv = s.drv := rfl
@[simp] theorem setPort_mtr (p : Nat) (x : PortRt) : (s.setPort p x).mtr = s.mtr := rfl
@[simp] theorem setPort_hb (p : Nat) (x : PortRt) : (s.setPort p x).hb = s.hb := rfl
@[simp] theorem setPort_gnt (p : Nat) (x : PortRt) : (s.setPort p x).gnt = s.gnt := rfl
@[simp] theorem setPort_upd (p : Nat) (x : PortRt) : (s.setPort p x).upd = s.upd := rfl
@[simp] theorem setPort_slf (p : Nat) (x : PortRt) : (s.setPort p x).slf = s.slf := rfl
@[simp] theorem setPort_pwr (p : Nat) (x : PortRt) : (s.setPort p x).pwr = s.pwr := rfl
@[simp] theorem setPort_freeCtr (p : Nat) (x : PortRt) : (s.setPort p x).freeCtr = s.freeCtr := rfl

/-! `setMac` -/

@[simp] theorem setMac_pending (p : Nat) (x : MacRt) : (s.setMac p x).pending = s.pending := rfl
@[simp] theorem setMac_hw (p : Nat) (x : MacRt) : (s.setMac p x).hw = s.hw := rfl
@[simp] theorem setMac_up (p : Nat) (x : MacRt) : (s.setMac p x).up = s.up := rfl
@[simp] theorem setMac_clk (p : Nat) (x : MacRt) : (s.setMac p x).clk = s.clk := rfl
@[simp] theorem setMac_regs (p : Nat) (x : MacRt) : (s.setMac p x).regs = s.regs := rfl
@[simp] theorem setMac_bank (p : Nat) (x : MacRt) : (s.setMac p x).bank = s.bank := rfl
@[simp] theorem setMac_tabs (p : Nat) (x : MacRt) : (s.setMac p x).tabs = s.tabs := rfl
@[simp] theorem setMac_ctl (p : Nat) (x : MacRt) : (s.setMac p x).ctl = s.ctl := rfl
@[simp] theorem setMac_arb (p : Nat) (x : MacRt) : (s.setMac p x).arb = s.arb := rfl
@[simp] theorem setMac_isl (p : Nat) (x : MacRt) : (s.setMac p x).isl = s.isl := rfl
@[simp] theorem setMac_evt (p : Nat) (x : MacRt) : (s.setMac p x).evt = s.evt := rfl
@[simp] theorem setMac_htk (p : Nat) (x : MacRt) : (s.setMac p x).htk = s.htk := rfl
@[simp] theorem setMac_lin (p : Nat) (x : MacRt) : (s.setMac p x).lin = s.lin := rfl
@[simp] theorem setMac_pres (p : Nat) (x : MacRt) : (s.setMac p x).pres = s.pres := rfl
@[simp] theorem setMac_ing (p : Nat) (x : MacRt) : (s.setMac p x).ing = s.ing := rfl
@[simp] theorem setMac_ren (p : Nat) (x : MacRt) : (s.setMac p x).ren = s.ren := rfl
@[simp] theorem setMac_layMem (p : Nat) (x : MacRt) : (s.setMac p x).layMem = s.layMem := rfl
@[simp] theorem setMac_egrMem (p : Nat) (x : MacRt) : (s.setMac p x).egrMem = s.egrMem := rfl
@[simp] theorem setMac_ports (p : Nat) (x : MacRt) : (s.setMac p x).ports = s.ports := rfl
@[simp] theorem setMac_pair (p : Nat) (x : MacRt) : (s.setMac p x).pair = s.pair := rfl
@[simp] theorem setMac_clkr (p : Nat) (x : MacRt) : (s.setMac p x).clkr = s.clkr := rfl
@[simp] theorem setMac_ptp (p : Nat) (x : MacRt) : (s.setMac p x).ptp = s.ptp := rfl
@[simp] theorem setMac_tio (p : Nat) (x : MacRt) : (s.setMac p x).tio = s.tio := rfl
@[simp] theorem setMac_drv (p : Nat) (x : MacRt) : (s.setMac p x).drv = s.drv := rfl
@[simp] theorem setMac_mtr (p : Nat) (x : MacRt) : (s.setMac p x).mtr = s.mtr := rfl
@[simp] theorem setMac_hb (p : Nat) (x : MacRt) : (s.setMac p x).hb = s.hb := rfl
@[simp] theorem setMac_gnt (p : Nat) (x : MacRt) : (s.setMac p x).gnt = s.gnt := rfl
@[simp] theorem setMac_upd (p : Nat) (x : MacRt) : (s.setMac p x).upd = s.upd := rfl
@[simp] theorem setMac_slf (p : Nat) (x : MacRt) : (s.setMac p x).slf = s.slf := rfl
@[simp] theorem setMac_pwr (p : Nat) (x : MacRt) : (s.setMac p x).pwr = s.pwr := rfl
@[simp] theorem setMac_freeCtr (p : Nat) (x : MacRt) : (s.setMac p x).freeCtr = s.freeCtr := rfl

/-! `setNode` -/

@[simp] theorem setNode_pending (p n : Nat) (x : NodeRt) : (s.setNode p n x).pending = s.pending := rfl
@[simp] theorem setNode_hw (p n : Nat) (x : NodeRt) : (s.setNode p n x).hw = s.hw := rfl
@[simp] theorem setNode_up (p n : Nat) (x : NodeRt) : (s.setNode p n x).up = s.up := rfl
@[simp] theorem setNode_clk (p n : Nat) (x : NodeRt) : (s.setNode p n x).clk = s.clk := rfl
@[simp] theorem setNode_regs (p n : Nat) (x : NodeRt) : (s.setNode p n x).regs = s.regs := rfl
@[simp] theorem setNode_bank (p n : Nat) (x : NodeRt) : (s.setNode p n x).bank = s.bank := rfl
@[simp] theorem setNode_tabs (p n : Nat) (x : NodeRt) : (s.setNode p n x).tabs = s.tabs := rfl
@[simp] theorem setNode_ctl (p n : Nat) (x : NodeRt) : (s.setNode p n x).ctl = s.ctl := rfl
@[simp] theorem setNode_arb (p n : Nat) (x : NodeRt) : (s.setNode p n x).arb = s.arb := rfl
@[simp] theorem setNode_isl (p n : Nat) (x : NodeRt) : (s.setNode p n x).isl = s.isl := rfl
@[simp] theorem setNode_evt (p n : Nat) (x : NodeRt) : (s.setNode p n x).evt = s.evt := rfl
@[simp] theorem setNode_htk (p n : Nat) (x : NodeRt) : (s.setNode p n x).htk = s.htk := rfl
@[simp] theorem setNode_lin (p n : Nat) (x : NodeRt) : (s.setNode p n x).lin = s.lin := rfl
@[simp] theorem setNode_pres (p n : Nat) (x : NodeRt) : (s.setNode p n x).pres = s.pres := rfl
@[simp] theorem setNode_ing (p n : Nat) (x : NodeRt) : (s.setNode p n x).ing = s.ing := rfl
@[simp] theorem setNode_ren (p n : Nat) (x : NodeRt) : (s.setNode p n x).ren = s.ren := rfl
@[simp] theorem setNode_layMem (p n : Nat) (x : NodeRt) : (s.setNode p n x).layMem = s.layMem := rfl
@[simp] theorem setNode_egrMem (p n : Nat) (x : NodeRt) : (s.setNode p n x).egrMem = s.egrMem := rfl
@[simp] theorem setNode_macs (p n : Nat) (x : NodeRt) : (s.setNode p n x).macs = s.macs := rfl
@[simp] theorem setNode_pair (p n : Nat) (x : NodeRt) : (s.setNode p n x).pair = s.pair := rfl
@[simp] theorem setNode_clkr (p n : Nat) (x : NodeRt) : (s.setNode p n x).clkr = s.clkr := rfl
@[simp] theorem setNode_ptp (p n : Nat) (x : NodeRt) : (s.setNode p n x).ptp = s.ptp := rfl
@[simp] theorem setNode_tio (p n : Nat) (x : NodeRt) : (s.setNode p n x).tio = s.tio := rfl
@[simp] theorem setNode_drv (p n : Nat) (x : NodeRt) : (s.setNode p n x).drv = s.drv := rfl
@[simp] theorem setNode_mtr (p n : Nat) (x : NodeRt) : (s.setNode p n x).mtr = s.mtr := rfl
@[simp] theorem setNode_hb (p n : Nat) (x : NodeRt) : (s.setNode p n x).hb = s.hb := rfl
@[simp] theorem setNode_gnt (p n : Nat) (x : NodeRt) : (s.setNode p n x).gnt = s.gnt := rfl
@[simp] theorem setNode_upd (p n : Nat) (x : NodeRt) : (s.setNode p n x).upd = s.upd := rfl
@[simp] theorem setNode_slf (p n : Nat) (x : NodeRt) : (s.setNode p n x).slf = s.slf := rfl
@[simp] theorem setNode_pwr (p n : Nat) (x : NodeRt) : (s.setNode p n x).pwr = s.pwr := rfl
@[simp] theorem setNode_freeCtr (p n : Nat) (x : NodeRt) : (s.setNode p n x).freeCtr = s.freeCtr := rfl

/-! `setStream` -/

@[simp] theorem setStream_pending (i : Nat) (x : StreamRt) : (s.setStream i x).pending = s.pending := rfl
@[simp] theorem setStream_hw (i : Nat) (x : StreamRt) : (s.setStream i x).hw = s.hw := rfl
@[simp] theorem setStream_up (i : Nat) (x : StreamRt) : (s.setStream i x).up = s.up := rfl
@[simp] theorem setStream_clk (i : Nat) (x : StreamRt) : (s.setStream i x).clk = s.clk := rfl
@[simp] theorem setStream_regs (i : Nat) (x : StreamRt) : (s.setStream i x).regs = s.regs := rfl
@[simp] theorem setStream_bank (i : Nat) (x : StreamRt) : (s.setStream i x).bank = s.bank := rfl
@[simp] theorem setStream_tabs (i : Nat) (x : StreamRt) : (s.setStream i x).tabs = s.tabs := rfl
@[simp] theorem setStream_ctl (i : Nat) (x : StreamRt) : (s.setStream i x).ctl = s.ctl := rfl
@[simp] theorem setStream_arb (i : Nat) (x : StreamRt) : (s.setStream i x).arb = s.arb := rfl
@[simp] theorem setStream_isl (i : Nat) (x : StreamRt) : (s.setStream i x).isl = s.isl := rfl
@[simp] theorem setStream_evt (i : Nat) (x : StreamRt) : (s.setStream i x).evt = s.evt := rfl
@[simp] theorem setStream_htk (i : Nat) (x : StreamRt) : (s.setStream i x).htk = s.htk := rfl
@[simp] theorem setStream_lin (i : Nat) (x : StreamRt) : (s.setStream i x).lin = s.lin := rfl
@[simp] theorem setStream_pres (i : Nat) (x : StreamRt) : (s.setStream i x).pres = s.pres := rfl
@[simp] theorem setStream_ren (i : Nat) (x : StreamRt) : (s.setStream i x).ren = s.ren := rfl
@[simp] theorem setStream_layMem (i : Nat) (x : StreamRt) : (s.setStream i x).layMem = s.layMem := rfl
@[simp] theorem setStream_egrMem (i : Nat) (x : StreamRt) : (s.setStream i x).egrMem = s.egrMem := rfl
@[simp] theorem setStream_ports (i : Nat) (x : StreamRt) : (s.setStream i x).ports = s.ports := rfl
@[simp] theorem setStream_macs (i : Nat) (x : StreamRt) : (s.setStream i x).macs = s.macs := rfl
@[simp] theorem setStream_pair (i : Nat) (x : StreamRt) : (s.setStream i x).pair = s.pair := rfl
@[simp] theorem setStream_clkr (i : Nat) (x : StreamRt) : (s.setStream i x).clkr = s.clkr := rfl
@[simp] theorem setStream_ptp (i : Nat) (x : StreamRt) : (s.setStream i x).ptp = s.ptp := rfl
@[simp] theorem setStream_tio (i : Nat) (x : StreamRt) : (s.setStream i x).tio = s.tio := rfl
@[simp] theorem setStream_drv (i : Nat) (x : StreamRt) : (s.setStream i x).drv = s.drv := rfl
@[simp] theorem setStream_mtr (i : Nat) (x : StreamRt) : (s.setStream i x).mtr = s.mtr := rfl
@[simp] theorem setStream_hb (i : Nat) (x : StreamRt) : (s.setStream i x).hb = s.hb := rfl
@[simp] theorem setStream_gnt (i : Nat) (x : StreamRt) : (s.setStream i x).gnt = s.gnt := rfl
@[simp] theorem setStream_upd (i : Nat) (x : StreamRt) : (s.setStream i x).upd = s.upd := rfl
@[simp] theorem setStream_slf (i : Nat) (x : StreamRt) : (s.setStream i x).slf = s.slf := rfl
@[simp] theorem setStream_pwr (i : Nat) (x : StreamRt) : (s.setStream i x).pwr = s.pwr := rfl
@[simp] theorem setStream_freeCtr (i : Nat) (x : StreamRt) : (s.setStream i x).freeCtr = s.freeCtr := rfl

/-! `setSrf` -/

@[simp] theorem setSrf_pending (n : Nat) (x : SrfRt) : (s.setSrf n x).pending = s.pending := rfl
@[simp] theorem setSrf_hw (n : Nat) (x : SrfRt) : (s.setSrf n x).hw = s.hw := rfl
@[simp] theorem setSrf_up (n : Nat) (x : SrfRt) : (s.setSrf n x).up = s.up := rfl
@[simp] theorem setSrf_clk (n : Nat) (x : SrfRt) : (s.setSrf n x).clk = s.clk := rfl
@[simp] theorem setSrf_regs (n : Nat) (x : SrfRt) : (s.setSrf n x).regs = s.regs := rfl
@[simp] theorem setSrf_bank (n : Nat) (x : SrfRt) : (s.setSrf n x).bank = s.bank := rfl
@[simp] theorem setSrf_tabs (n : Nat) (x : SrfRt) : (s.setSrf n x).tabs = s.tabs := rfl
@[simp] theorem setSrf_ctl (n : Nat) (x : SrfRt) : (s.setSrf n x).ctl = s.ctl := rfl
@[simp] theorem setSrf_arb (n : Nat) (x : SrfRt) : (s.setSrf n x).arb = s.arb := rfl
@[simp] theorem setSrf_isl (n : Nat) (x : SrfRt) : (s.setSrf n x).isl = s.isl := rfl
@[simp] theorem setSrf_evt (n : Nat) (x : SrfRt) : (s.setSrf n x).evt = s.evt := rfl
@[simp] theorem setSrf_htk (n : Nat) (x : SrfRt) : (s.setSrf n x).htk = s.htk := rfl
@[simp] theorem setSrf_lin (n : Nat) (x : SrfRt) : (s.setSrf n x).lin = s.lin := rfl
@[simp] theorem setSrf_ing (n : Nat) (x : SrfRt) : (s.setSrf n x).ing = s.ing := rfl
@[simp] theorem setSrf_ren (n : Nat) (x : SrfRt) : (s.setSrf n x).ren = s.ren := rfl
@[simp] theorem setSrf_layMem (n : Nat) (x : SrfRt) : (s.setSrf n x).layMem = s.layMem := rfl
@[simp] theorem setSrf_egrMem (n : Nat) (x : SrfRt) : (s.setSrf n x).egrMem = s.egrMem := rfl
@[simp] theorem setSrf_ports (n : Nat) (x : SrfRt) : (s.setSrf n x).ports = s.ports := rfl
@[simp] theorem setSrf_macs (n : Nat) (x : SrfRt) : (s.setSrf n x).macs = s.macs := rfl
@[simp] theorem setSrf_pair (n : Nat) (x : SrfRt) : (s.setSrf n x).pair = s.pair := rfl
@[simp] theorem setSrf_clkr (n : Nat) (x : SrfRt) : (s.setSrf n x).clkr = s.clkr := rfl
@[simp] theorem setSrf_ptp (n : Nat) (x : SrfRt) : (s.setSrf n x).ptp = s.ptp := rfl
@[simp] theorem setSrf_tio (n : Nat) (x : SrfRt) : (s.setSrf n x).tio = s.tio := rfl
@[simp] theorem setSrf_drv (n : Nat) (x : SrfRt) : (s.setSrf n x).drv = s.drv := rfl
@[simp] theorem setSrf_mtr (n : Nat) (x : SrfRt) : (s.setSrf n x).mtr = s.mtr := rfl
@[simp] theorem setSrf_hb (n : Nat) (x : SrfRt) : (s.setSrf n x).hb = s.hb := rfl
@[simp] theorem setSrf_gnt (n : Nat) (x : SrfRt) : (s.setSrf n x).gnt = s.gnt := rfl
@[simp] theorem setSrf_upd (n : Nat) (x : SrfRt) : (s.setSrf n x).upd = s.upd := rfl
@[simp] theorem setSrf_slf (n : Nat) (x : SrfRt) : (s.setSrf n x).slf = s.slf := rfl
@[simp] theorem setSrf_pwr (n : Nat) (x : SrfRt) : (s.setSrf n x).pwr = s.pwr := rfl
@[simp] theorem setSrf_freeCtr (n : Nat) (x : SrfRt) : (s.setSrf n x).freeCtr = s.freeCtr := rfl

/-! `setChk` -/

@[simp] theorem setChk_pending (n : Nat) (x : ChkRt) : (s.setChk n x).pending = s.pending := rfl
@[simp] theorem setChk_hw (n : Nat) (x : ChkRt) : (s.setChk n x).hw = s.hw := rfl
@[simp] theorem setChk_up (n : Nat) (x : ChkRt) : (s.setChk n x).up = s.up := rfl
@[simp] theorem setChk_clk (n : Nat) (x : ChkRt) : (s.setChk n x).clk = s.clk := rfl
@[simp] theorem setChk_regs (n : Nat) (x : ChkRt) : (s.setChk n x).regs = s.regs := rfl
@[simp] theorem setChk_bank (n : Nat) (x : ChkRt) : (s.setChk n x).bank = s.bank := rfl
@[simp] theorem setChk_tabs (n : Nat) (x : ChkRt) : (s.setChk n x).tabs = s.tabs := rfl
@[simp] theorem setChk_ctl (n : Nat) (x : ChkRt) : (s.setChk n x).ctl = s.ctl := rfl
@[simp] theorem setChk_arb (n : Nat) (x : ChkRt) : (s.setChk n x).arb = s.arb := rfl
@[simp] theorem setChk_isl (n : Nat) (x : ChkRt) : (s.setChk n x).isl = s.isl := rfl
@[simp] theorem setChk_evt (n : Nat) (x : ChkRt) : (s.setChk n x).evt = s.evt := rfl
@[simp] theorem setChk_htk (n : Nat) (x : ChkRt) : (s.setChk n x).htk = s.htk := rfl
@[simp] theorem setChk_lin (n : Nat) (x : ChkRt) : (s.setChk n x).lin = s.lin := rfl
@[simp] theorem setChk_ing (n : Nat) (x : ChkRt) : (s.setChk n x).ing = s.ing := rfl
@[simp] theorem setChk_ren (n : Nat) (x : ChkRt) : (s.setChk n x).ren = s.ren := rfl
@[simp] theorem setChk_layMem (n : Nat) (x : ChkRt) : (s.setChk n x).layMem = s.layMem := rfl
@[simp] theorem setChk_egrMem (n : Nat) (x : ChkRt) : (s.setChk n x).egrMem = s.egrMem := rfl
@[simp] theorem setChk_ports (n : Nat) (x : ChkRt) : (s.setChk n x).ports = s.ports := rfl
@[simp] theorem setChk_macs (n : Nat) (x : ChkRt) : (s.setChk n x).macs = s.macs := rfl
@[simp] theorem setChk_pair (n : Nat) (x : ChkRt) : (s.setChk n x).pair = s.pair := rfl
@[simp] theorem setChk_clkr (n : Nat) (x : ChkRt) : (s.setChk n x).clkr = s.clkr := rfl
@[simp] theorem setChk_ptp (n : Nat) (x : ChkRt) : (s.setChk n x).ptp = s.ptp := rfl
@[simp] theorem setChk_tio (n : Nat) (x : ChkRt) : (s.setChk n x).tio = s.tio := rfl
@[simp] theorem setChk_drv (n : Nat) (x : ChkRt) : (s.setChk n x).drv = s.drv := rfl
@[simp] theorem setChk_mtr (n : Nat) (x : ChkRt) : (s.setChk n x).mtr = s.mtr := rfl
@[simp] theorem setChk_hb (n : Nat) (x : ChkRt) : (s.setChk n x).hb = s.hb := rfl
@[simp] theorem setChk_gnt (n : Nat) (x : ChkRt) : (s.setChk n x).gnt = s.gnt := rfl
@[simp] theorem setChk_upd (n : Nat) (x : ChkRt) : (s.setChk n x).upd = s.upd := rfl
@[simp] theorem setChk_slf (n : Nat) (x : ChkRt) : (s.setChk n x).slf = s.slf := rfl
@[simp] theorem setChk_pwr (n : Nat) (x : ChkRt) : (s.setChk n x).pwr = s.pwr := rfl
@[simp] theorem setChk_freeCtr (n : Nat) (x : ChkRt) : (s.setChk n x).freeCtr = s.freeCtr := rfl

/-! `setRail` -/

@[simp] theorem setRail_pending (r : Nat) (x : RailRt) : (s.setRail r x).pending = s.pending := rfl
@[simp] theorem setRail_hw (r : Nat) (x : RailRt) : (s.setRail r x).hw = s.hw := rfl
@[simp] theorem setRail_up (r : Nat) (x : RailRt) : (s.setRail r x).up = s.up := rfl
@[simp] theorem setRail_clk (r : Nat) (x : RailRt) : (s.setRail r x).clk = s.clk := rfl
@[simp] theorem setRail_regs (r : Nat) (x : RailRt) : (s.setRail r x).regs = s.regs := rfl
@[simp] theorem setRail_bank (r : Nat) (x : RailRt) : (s.setRail r x).bank = s.bank := rfl
@[simp] theorem setRail_tabs (r : Nat) (x : RailRt) : (s.setRail r x).tabs = s.tabs := rfl
@[simp] theorem setRail_ctl (r : Nat) (x : RailRt) : (s.setRail r x).ctl = s.ctl := rfl
@[simp] theorem setRail_arb (r : Nat) (x : RailRt) : (s.setRail r x).arb = s.arb := rfl
@[simp] theorem setRail_isl (r : Nat) (x : RailRt) : (s.setRail r x).isl = s.isl := rfl
@[simp] theorem setRail_evt (r : Nat) (x : RailRt) : (s.setRail r x).evt = s.evt := rfl
@[simp] theorem setRail_htk (r : Nat) (x : RailRt) : (s.setRail r x).htk = s.htk := rfl
@[simp] theorem setRail_lin (r : Nat) (x : RailRt) : (s.setRail r x).lin = s.lin := rfl
@[simp] theorem setRail_pres (r : Nat) (x : RailRt) : (s.setRail r x).pres = s.pres := rfl
@[simp] theorem setRail_ing (r : Nat) (x : RailRt) : (s.setRail r x).ing = s.ing := rfl
@[simp] theorem setRail_ren (r : Nat) (x : RailRt) : (s.setRail r x).ren = s.ren := rfl
@[simp] theorem setRail_layMem (r : Nat) (x : RailRt) : (s.setRail r x).layMem = s.layMem := rfl
@[simp] theorem setRail_egrMem (r : Nat) (x : RailRt) : (s.setRail r x).egrMem = s.egrMem := rfl
@[simp] theorem setRail_ports (r : Nat) (x : RailRt) : (s.setRail r x).ports = s.ports := rfl
@[simp] theorem setRail_macs (r : Nat) (x : RailRt) : (s.setRail r x).macs = s.macs := rfl
@[simp] theorem setRail_pair (r : Nat) (x : RailRt) : (s.setRail r x).pair = s.pair := rfl
@[simp] theorem setRail_clkr (r : Nat) (x : RailRt) : (s.setRail r x).clkr = s.clkr := rfl
@[simp] theorem setRail_ptp (r : Nat) (x : RailRt) : (s.setRail r x).ptp = s.ptp := rfl
@[simp] theorem setRail_tio (r : Nat) (x : RailRt) : (s.setRail r x).tio = s.tio := rfl
@[simp] theorem setRail_mtr (r : Nat) (x : RailRt) : (s.setRail r x).mtr = s.mtr := rfl
@[simp] theorem setRail_hb (r : Nat) (x : RailRt) : (s.setRail r x).hb = s.hb := rfl
@[simp] theorem setRail_gnt (r : Nat) (x : RailRt) : (s.setRail r x).gnt = s.gnt := rfl
@[simp] theorem setRail_upd (r : Nat) (x : RailRt) : (s.setRail r x).upd = s.upd := rfl
@[simp] theorem setRail_slf (r : Nat) (x : RailRt) : (s.setRail r x).slf = s.slf := rfl
@[simp] theorem setRail_pwr (r : Nat) (x : RailRt) : (s.setRail r x).pwr = s.pwr := rfl
@[simp] theorem setRail_freeCtr (r : Nat) (x : RailRt) : (s.setRail r x).freeCtr = s.freeCtr := rfl

/-! `setStr` -/

@[simp] theorem setStr_pending (n : Nat) (x : StrRt) : (s.setStr n x).pending = s.pending := rfl
@[simp] theorem setStr_hw (n : Nat) (x : StrRt) : (s.setStr n x).hw = s.hw := rfl
@[simp] theorem setStr_up (n : Nat) (x : StrRt) : (s.setStr n x).up = s.up := rfl
@[simp] theorem setStr_clk (n : Nat) (x : StrRt) : (s.setStr n x).clk = s.clk := rfl
@[simp] theorem setStr_regs (n : Nat) (x : StrRt) : (s.setStr n x).regs = s.regs := rfl
@[simp] theorem setStr_bank (n : Nat) (x : StrRt) : (s.setStr n x).bank = s.bank := rfl
@[simp] theorem setStr_tabs (n : Nat) (x : StrRt) : (s.setStr n x).tabs = s.tabs := rfl
@[simp] theorem setStr_ctl (n : Nat) (x : StrRt) : (s.setStr n x).ctl = s.ctl := rfl
@[simp] theorem setStr_arb (n : Nat) (x : StrRt) : (s.setStr n x).arb = s.arb := rfl
@[simp] theorem setStr_isl (n : Nat) (x : StrRt) : (s.setStr n x).isl = s.isl := rfl
@[simp] theorem setStr_evt (n : Nat) (x : StrRt) : (s.setStr n x).evt = s.evt := rfl
@[simp] theorem setStr_htk (n : Nat) (x : StrRt) : (s.setStr n x).htk = s.htk := rfl
@[simp] theorem setStr_lin (n : Nat) (x : StrRt) : (s.setStr n x).lin = s.lin := rfl
@[simp] theorem setStr_pres (n : Nat) (x : StrRt) : (s.setStr n x).pres = s.pres := rfl
@[simp] theorem setStr_ing (n : Nat) (x : StrRt) : (s.setStr n x).ing = s.ing := rfl
@[simp] theorem setStr_ren (n : Nat) (x : StrRt) : (s.setStr n x).ren = s.ren := rfl
@[simp] theorem setStr_layMem (n : Nat) (x : StrRt) : (s.setStr n x).layMem = s.layMem := rfl
@[simp] theorem setStr_egrMem (n : Nat) (x : StrRt) : (s.setStr n x).egrMem = s.egrMem := rfl
@[simp] theorem setStr_ports (n : Nat) (x : StrRt) : (s.setStr n x).ports = s.ports := rfl
@[simp] theorem setStr_macs (n : Nat) (x : StrRt) : (s.setStr n x).macs = s.macs := rfl
@[simp] theorem setStr_pair (n : Nat) (x : StrRt) : (s.setStr n x).pair = s.pair := rfl
@[simp] theorem setStr_clkr (n : Nat) (x : StrRt) : (s.setStr n x).clkr = s.clkr := rfl
@[simp] theorem setStr_ptp (n : Nat) (x : StrRt) : (s.setStr n x).ptp = s.ptp := rfl
@[simp] theorem setStr_tio (n : Nat) (x : StrRt) : (s.setStr n x).tio = s.tio := rfl
@[simp] theorem setStr_mtr (n : Nat) (x : StrRt) : (s.setStr n x).mtr = s.mtr := rfl
@[simp] theorem setStr_hb (n : Nat) (x : StrRt) : (s.setStr n x).hb = s.hb := rfl
@[simp] theorem setStr_gnt (n : Nat) (x : StrRt) : (s.setStr n x).gnt = s.gnt := rfl
@[simp] theorem setStr_upd (n : Nat) (x : StrRt) : (s.setStr n x).upd = s.upd := rfl
@[simp] theorem setStr_slf (n : Nat) (x : StrRt) : (s.setStr n x).slf = s.slf := rfl
@[simp] theorem setStr_pwr (n : Nat) (x : StrRt) : (s.setStr n x).pwr = s.pwr := rfl
@[simp] theorem setStr_freeCtr (n : Nat) (x : StrRt) : (s.setStr n x).freeCtr = s.freeCtr := rfl

/-! `setMx` -/

@[simp] theorem setMx_pending (p : Nat) (x : MxRt) : (s.setMx p x).pending = s.pending := rfl
@[simp] theorem setMx_hw (p : Nat) (x : MxRt) : (s.setMx p x).hw = s.hw := rfl
@[simp] theorem setMx_up (p : Nat) (x : MxRt) : (s.setMx p x).up = s.up := rfl
@[simp] theorem setMx_clk (p : Nat) (x : MxRt) : (s.setMx p x).clk = s.clk := rfl
@[simp] theorem setMx_regs (p : Nat) (x : MxRt) : (s.setMx p x).regs = s.regs := rfl
@[simp] theorem setMx_bank (p : Nat) (x : MxRt) : (s.setMx p x).bank = s.bank := rfl
@[simp] theorem setMx_tabs (p : Nat) (x : MxRt) : (s.setMx p x).tabs = s.tabs := rfl
@[simp] theorem setMx_ctl (p : Nat) (x : MxRt) : (s.setMx p x).ctl = s.ctl := rfl
@[simp] theorem setMx_arb (p : Nat) (x : MxRt) : (s.setMx p x).arb = s.arb := rfl
@[simp] theorem setMx_isl (p : Nat) (x : MxRt) : (s.setMx p x).isl = s.isl := rfl
@[simp] theorem setMx_evt (p : Nat) (x : MxRt) : (s.setMx p x).evt = s.evt := rfl
@[simp] theorem setMx_htk (p : Nat) (x : MxRt) : (s.setMx p x).htk = s.htk := rfl
@[simp] theorem setMx_lin (p : Nat) (x : MxRt) : (s.setMx p x).lin = s.lin := rfl
@[simp] theorem setMx_pres (p : Nat) (x : MxRt) : (s.setMx p x).pres = s.pres := rfl
@[simp] theorem setMx_ing (p : Nat) (x : MxRt) : (s.setMx p x).ing = s.ing := rfl
@[simp] theorem setMx_ren (p : Nat) (x : MxRt) : (s.setMx p x).ren = s.ren := rfl
@[simp] theorem setMx_layMem (p : Nat) (x : MxRt) : (s.setMx p x).layMem = s.layMem := rfl
@[simp] theorem setMx_egrMem (p : Nat) (x : MxRt) : (s.setMx p x).egrMem = s.egrMem := rfl
@[simp] theorem setMx_ports (p : Nat) (x : MxRt) : (s.setMx p x).ports = s.ports := rfl
@[simp] theorem setMx_macs (p : Nat) (x : MxRt) : (s.setMx p x).macs = s.macs := rfl
@[simp] theorem setMx_pair (p : Nat) (x : MxRt) : (s.setMx p x).pair = s.pair := rfl
@[simp] theorem setMx_clkr (p : Nat) (x : MxRt) : (s.setMx p x).clkr = s.clkr := rfl
@[simp] theorem setMx_ptp (p : Nat) (x : MxRt) : (s.setMx p x).ptp = s.ptp := rfl
@[simp] theorem setMx_tio (p : Nat) (x : MxRt) : (s.setMx p x).tio = s.tio := rfl
@[simp] theorem setMx_mtr (p : Nat) (x : MxRt) : (s.setMx p x).mtr = s.mtr := rfl
@[simp] theorem setMx_hb (p : Nat) (x : MxRt) : (s.setMx p x).hb = s.hb := rfl
@[simp] theorem setMx_gnt (p : Nat) (x : MxRt) : (s.setMx p x).gnt = s.gnt := rfl
@[simp] theorem setMx_upd (p : Nat) (x : MxRt) : (s.setMx p x).upd = s.upd := rfl
@[simp] theorem setMx_slf (p : Nat) (x : MxRt) : (s.setMx p x).slf = s.slf := rfl
@[simp] theorem setMx_pwr (p : Nat) (x : MxRt) : (s.setMx p x).pwr = s.pwr := rfl
@[simp] theorem setMx_freeCtr (p : Nat) (x : MxRt) : (s.setMx p x).freeCtr = s.freeCtr := rfl

/-! `setMset` -/

@[simp] theorem setMset_pending (k : Nat) (x : MtrSet) : (s.setMset k x).pending = s.pending := rfl
@[simp] theorem setMset_hw (k : Nat) (x : MtrSet) : (s.setMset k x).hw = s.hw := rfl
@[simp] theorem setMset_up (k : Nat) (x : MtrSet) : (s.setMset k x).up = s.up := rfl
@[simp] theorem setMset_clk (k : Nat) (x : MtrSet) : (s.setMset k x).clk = s.clk := rfl
@[simp] theorem setMset_regs (k : Nat) (x : MtrSet) : (s.setMset k x).regs = s.regs := rfl
@[simp] theorem setMset_bank (k : Nat) (x : MtrSet) : (s.setMset k x).bank = s.bank := rfl
@[simp] theorem setMset_tabs (k : Nat) (x : MtrSet) : (s.setMset k x).tabs = s.tabs := rfl
@[simp] theorem setMset_ctl (k : Nat) (x : MtrSet) : (s.setMset k x).ctl = s.ctl := rfl
@[simp] theorem setMset_arb (k : Nat) (x : MtrSet) : (s.setMset k x).arb = s.arb := rfl
@[simp] theorem setMset_isl (k : Nat) (x : MtrSet) : (s.setMset k x).isl = s.isl := rfl
@[simp] theorem setMset_evt (k : Nat) (x : MtrSet) : (s.setMset k x).evt = s.evt := rfl
@[simp] theorem setMset_htk (k : Nat) (x : MtrSet) : (s.setMset k x).htk = s.htk := rfl
@[simp] theorem setMset_lin (k : Nat) (x : MtrSet) : (s.setMset k x).lin = s.lin := rfl
@[simp] theorem setMset_pres (k : Nat) (x : MtrSet) : (s.setMset k x).pres = s.pres := rfl
@[simp] theorem setMset_ing (k : Nat) (x : MtrSet) : (s.setMset k x).ing = s.ing := rfl
@[simp] theorem setMset_ren (k : Nat) (x : MtrSet) : (s.setMset k x).ren = s.ren := rfl
@[simp] theorem setMset_layMem (k : Nat) (x : MtrSet) : (s.setMset k x).layMem = s.layMem := rfl
@[simp] theorem setMset_egrMem (k : Nat) (x : MtrSet) : (s.setMset k x).egrMem = s.egrMem := rfl
@[simp] theorem setMset_ports (k : Nat) (x : MtrSet) : (s.setMset k x).ports = s.ports := rfl
@[simp] theorem setMset_macs (k : Nat) (x : MtrSet) : (s.setMset k x).macs = s.macs := rfl
@[simp] theorem setMset_pair (k : Nat) (x : MtrSet) : (s.setMset k x).pair = s.pair := rfl
@[simp] theorem setMset_clkr (k : Nat) (x : MtrSet) : (s.setMset k x).clkr = s.clkr := rfl
@[simp] theorem setMset_ptp (k : Nat) (x : MtrSet) : (s.setMset k x).ptp = s.ptp := rfl
@[simp] theorem setMset_tio (k : Nat) (x : MtrSet) : (s.setMset k x).tio = s.tio := rfl
@[simp] theorem setMset_drv (k : Nat) (x : MtrSet) : (s.setMset k x).drv = s.drv := rfl
@[simp] theorem setMset_hb (k : Nat) (x : MtrSet) : (s.setMset k x).hb = s.hb := rfl
@[simp] theorem setMset_gnt (k : Nat) (x : MtrSet) : (s.setMset k x).gnt = s.gnt := rfl
@[simp] theorem setMset_upd (k : Nat) (x : MtrSet) : (s.setMset k x).upd = s.upd := rfl
@[simp] theorem setMset_slf (k : Nat) (x : MtrSet) : (s.setMset k x).slf = s.slf := rfl
@[simp] theorem setMset_pwr (k : Nat) (x : MtrSet) : (s.setMset k x).pwr = s.pwr := rfl
@[simp] theorem setMset_freeCtr (k : Nat) (x : MtrSet) : (s.setMset k x).freeCtr = s.freeCtr := rfl

/-! `setPport` -/

@[simp] theorem setPport_pending (p : Nat) (x : PtpPort) : (s.setPport p x).pending = s.pending := rfl
@[simp] theorem setPport_hw (p : Nat) (x : PtpPort) : (s.setPport p x).hw = s.hw := rfl
@[simp] theorem setPport_up (p : Nat) (x : PtpPort) : (s.setPport p x).up = s.up := rfl
@[simp] theorem setPport_clk (p : Nat) (x : PtpPort) : (s.setPport p x).clk = s.clk := rfl
@[simp] theorem setPport_regs (p : Nat) (x : PtpPort) : (s.setPport p x).regs = s.regs := rfl
@[simp] theorem setPport_bank (p : Nat) (x : PtpPort) : (s.setPport p x).bank = s.bank := rfl
@[simp] theorem setPport_tabs (p : Nat) (x : PtpPort) : (s.setPport p x).tabs = s.tabs := rfl
@[simp] theorem setPport_ctl (p : Nat) (x : PtpPort) : (s.setPport p x).ctl = s.ctl := rfl
@[simp] theorem setPport_arb (p : Nat) (x : PtpPort) : (s.setPport p x).arb = s.arb := rfl
@[simp] theorem setPport_isl (p : Nat) (x : PtpPort) : (s.setPport p x).isl = s.isl := rfl
@[simp] theorem setPport_evt (p : Nat) (x : PtpPort) : (s.setPport p x).evt = s.evt := rfl
@[simp] theorem setPport_htk (p : Nat) (x : PtpPort) : (s.setPport p x).htk = s.htk := rfl
@[simp] theorem setPport_lin (p : Nat) (x : PtpPort) : (s.setPport p x).lin = s.lin := rfl
@[simp] theorem setPport_pres (p : Nat) (x : PtpPort) : (s.setPport p x).pres = s.pres := rfl
@[simp] theorem setPport_ing (p : Nat) (x : PtpPort) : (s.setPport p x).ing = s.ing := rfl
@[simp] theorem setPport_ren (p : Nat) (x : PtpPort) : (s.setPport p x).ren = s.ren := rfl
@[simp] theorem setPport_layMem (p : Nat) (x : PtpPort) : (s.setPport p x).layMem = s.layMem := rfl
@[simp] theorem setPport_egrMem (p : Nat) (x : PtpPort) : (s.setPport p x).egrMem = s.egrMem := rfl
@[simp] theorem setPport_ports (p : Nat) (x : PtpPort) : (s.setPport p x).ports = s.ports := rfl
@[simp] theorem setPport_macs (p : Nat) (x : PtpPort) : (s.setPport p x).macs = s.macs := rfl
@[simp] theorem setPport_pair (p : Nat) (x : PtpPort) : (s.setPport p x).pair = s.pair := rfl
@[simp] theorem setPport_clkr (p : Nat) (x : PtpPort) : (s.setPport p x).clkr = s.clkr := rfl
@[simp] theorem setPport_tio (p : Nat) (x : PtpPort) : (s.setPport p x).tio = s.tio := rfl
@[simp] theorem setPport_drv (p : Nat) (x : PtpPort) : (s.setPport p x).drv = s.drv := rfl
@[simp] theorem setPport_mtr (p : Nat) (x : PtpPort) : (s.setPport p x).mtr = s.mtr := rfl
@[simp] theorem setPport_hb (p : Nat) (x : PtpPort) : (s.setPport p x).hb = s.hb := rfl
@[simp] theorem setPport_gnt (p : Nat) (x : PtpPort) : (s.setPport p x).gnt = s.gnt := rfl
@[simp] theorem setPport_upd (p : Nat) (x : PtpPort) : (s.setPport p x).upd = s.upd := rfl
@[simp] theorem setPport_slf (p : Nat) (x : PtpPort) : (s.setPport p x).slf = s.slf := rfl
@[simp] theorem setPport_pwr (p : Nat) (x : PtpPort) : (s.setPport p x).pwr = s.pwr := rfl
@[simp] theorem setPport_freeCtr (p : Nat) (x : PtpPort) : (s.setPport p x).freeCtr = s.freeCtr := rfl

/-! `setHbp` -/

@[simp] theorem setHbp_pending (p : Nat) (x : HbPort) : (s.setHbp p x).pending = s.pending := rfl
@[simp] theorem setHbp_hw (p : Nat) (x : HbPort) : (s.setHbp p x).hw = s.hw := rfl
@[simp] theorem setHbp_up (p : Nat) (x : HbPort) : (s.setHbp p x).up = s.up := rfl
@[simp] theorem setHbp_clk (p : Nat) (x : HbPort) : (s.setHbp p x).clk = s.clk := rfl
@[simp] theorem setHbp_regs (p : Nat) (x : HbPort) : (s.setHbp p x).regs = s.regs := rfl
@[simp] theorem setHbp_bank (p : Nat) (x : HbPort) : (s.setHbp p x).bank = s.bank := rfl
@[simp] theorem setHbp_tabs (p : Nat) (x : HbPort) : (s.setHbp p x).tabs = s.tabs := rfl
@[simp] theorem setHbp_ctl (p : Nat) (x : HbPort) : (s.setHbp p x).ctl = s.ctl := rfl
@[simp] theorem setHbp_arb (p : Nat) (x : HbPort) : (s.setHbp p x).arb = s.arb := rfl
@[simp] theorem setHbp_isl (p : Nat) (x : HbPort) : (s.setHbp p x).isl = s.isl := rfl
@[simp] theorem setHbp_evt (p : Nat) (x : HbPort) : (s.setHbp p x).evt = s.evt := rfl
@[simp] theorem setHbp_htk (p : Nat) (x : HbPort) : (s.setHbp p x).htk = s.htk := rfl
@[simp] theorem setHbp_lin (p : Nat) (x : HbPort) : (s.setHbp p x).lin = s.lin := rfl
@[simp] theorem setHbp_pres (p : Nat) (x : HbPort) : (s.setHbp p x).pres = s.pres := rfl
@[simp] theorem setHbp_ing (p : Nat) (x : HbPort) : (s.setHbp p x).ing = s.ing := rfl
@[simp] theorem setHbp_ren (p : Nat) (x : HbPort) : (s.setHbp p x).ren = s.ren := rfl
@[simp] theorem setHbp_layMem (p : Nat) (x : HbPort) : (s.setHbp p x).layMem = s.layMem := rfl
@[simp] theorem setHbp_egrMem (p : Nat) (x : HbPort) : (s.setHbp p x).egrMem = s.egrMem := rfl
@[simp] theorem setHbp_ports (p : Nat) (x : HbPort) : (s.setHbp p x).ports = s.ports := rfl
@[simp] theorem setHbp_macs (p : Nat) (x : HbPort) : (s.setHbp p x).macs = s.macs := rfl
@[simp] theorem setHbp_pair (p : Nat) (x : HbPort) : (s.setHbp p x).pair = s.pair := rfl
@[simp] theorem setHbp_clkr (p : Nat) (x : HbPort) : (s.setHbp p x).clkr = s.clkr := rfl
@[simp] theorem setHbp_ptp (p : Nat) (x : HbPort) : (s.setHbp p x).ptp = s.ptp := rfl
@[simp] theorem setHbp_tio (p : Nat) (x : HbPort) : (s.setHbp p x).tio = s.tio := rfl
@[simp] theorem setHbp_drv (p : Nat) (x : HbPort) : (s.setHbp p x).drv = s.drv := rfl
@[simp] theorem setHbp_mtr (p : Nat) (x : HbPort) : (s.setHbp p x).mtr = s.mtr := rfl
@[simp] theorem setHbp_gnt (p : Nat) (x : HbPort) : (s.setHbp p x).gnt = s.gnt := rfl
@[simp] theorem setHbp_upd (p : Nat) (x : HbPort) : (s.setHbp p x).upd = s.upd := rfl
@[simp] theorem setHbp_slf (p : Nat) (x : HbPort) : (s.setHbp p x).slf = s.slf := rfl
@[simp] theorem setHbp_pwr (p : Nat) (x : HbPort) : (s.setHbp p x).pwr = s.pwr := rfl
@[simp] theorem setHbp_freeCtr (p : Nat) (x : HbPort) : (s.setHbp p x).freeCtr = s.freeCtr := rfl

/-! `setQty` -/

@[simp] theorem setQty_pending (q : Nat) (x : Qty) : (s.setQty q x).pending = s.pending := rfl
@[simp] theorem setQty_hw (q : Nat) (x : Qty) : (s.setQty q x).hw = s.hw := rfl
@[simp] theorem setQty_up (q : Nat) (x : Qty) : (s.setQty q x).up = s.up := rfl
@[simp] theorem setQty_clk (q : Nat) (x : Qty) : (s.setQty q x).clk = s.clk := rfl
@[simp] theorem setQty_regs (q : Nat) (x : Qty) : (s.setQty q x).regs = s.regs := rfl
@[simp] theorem setQty_bank (q : Nat) (x : Qty) : (s.setQty q x).bank = s.bank := rfl
@[simp] theorem setQty_tabs (q : Nat) (x : Qty) : (s.setQty q x).tabs = s.tabs := rfl
@[simp] theorem setQty_ctl (q : Nat) (x : Qty) : (s.setQty q x).ctl = s.ctl := rfl
@[simp] theorem setQty_arb (q : Nat) (x : Qty) : (s.setQty q x).arb = s.arb := rfl
@[simp] theorem setQty_isl (q : Nat) (x : Qty) : (s.setQty q x).isl = s.isl := rfl
@[simp] theorem setQty_evt (q : Nat) (x : Qty) : (s.setQty q x).evt = s.evt := rfl
@[simp] theorem setQty_htk (q : Nat) (x : Qty) : (s.setQty q x).htk = s.htk := rfl
@[simp] theorem setQty_lin (q : Nat) (x : Qty) : (s.setQty q x).lin = s.lin := rfl
@[simp] theorem setQty_pres (q : Nat) (x : Qty) : (s.setQty q x).pres = s.pres := rfl
@[simp] theorem setQty_ing (q : Nat) (x : Qty) : (s.setQty q x).ing = s.ing := rfl
@[simp] theorem setQty_ren (q : Nat) (x : Qty) : (s.setQty q x).ren = s.ren := rfl
@[simp] theorem setQty_layMem (q : Nat) (x : Qty) : (s.setQty q x).layMem = s.layMem := rfl
@[simp] theorem setQty_egrMem (q : Nat) (x : Qty) : (s.setQty q x).egrMem = s.egrMem := rfl
@[simp] theorem setQty_ports (q : Nat) (x : Qty) : (s.setQty q x).ports = s.ports := rfl
@[simp] theorem setQty_macs (q : Nat) (x : Qty) : (s.setQty q x).macs = s.macs := rfl
@[simp] theorem setQty_pair (q : Nat) (x : Qty) : (s.setQty q x).pair = s.pair := rfl
@[simp] theorem setQty_clkr (q : Nat) (x : Qty) : (s.setQty q x).clkr = s.clkr := rfl
@[simp] theorem setQty_ptp (q : Nat) (x : Qty) : (s.setQty q x).ptp = s.ptp := rfl
@[simp] theorem setQty_tio (q : Nat) (x : Qty) : (s.setQty q x).tio = s.tio := rfl
@[simp] theorem setQty_drv (q : Nat) (x : Qty) : (s.setQty q x).drv = s.drv := rfl
@[simp] theorem setQty_mtr (q : Nat) (x : Qty) : (s.setQty q x).mtr = s.mtr := rfl
@[simp] theorem setQty_hb (q : Nat) (x : Qty) : (s.setQty q x).hb = s.hb := rfl
@[simp] theorem setQty_gnt (q : Nat) (x : Qty) : (s.setQty q x).gnt = s.gnt := rfl
@[simp] theorem setQty_upd (q : Nat) (x : Qty) : (s.setQty q x).upd = s.upd := rfl
@[simp] theorem setQty_pwr (q : Nat) (x : Qty) : (s.setQty q x).pwr = s.pwr := rfl
@[simp] theorem setQty_freeCtr (q : Nat) (x : Qty) : (s.setQty q x).freeCtr = s.freeCtr := rfl

@[simp] theorem setReg_breg (a : Nat) (v : Word) (z1 z2 : Nat) : (s.setReg a v).breg z1 z2 = s.breg z1 z2 := rfl
@[simp] theorem setReg_ent (a : Nat) (v : Word) (z1 z2 : Nat) : (s.setReg a v).ent z1 z2 = s.ent z1 z2 := rfl
@[simp] theorem setRegF_breg (a lo w v : Nat) (z1 z2 : Nat) : (s.setRegF a lo w v).breg z1 z2 = s.breg z1 z2 := rfl
@[simp] theorem setRegF_ent (a lo w v : Nat) (z1 z2 : Nat) : (s.setRegF a lo w v).ent z1 z2 = s.ent z1 z2 := rfl
@[simp] theorem setRegB_breg (a i : Nat) (b : Bool) (z1 z2 : Nat) : (s.setRegB a i b).breg z1 z2 = s.breg z1 z2 := rfl
@[simp] theorem setRegB_ent (a i : Nat) (b : Bool) (z1 z2 : Nat) : (s.setRegB a i b).ent z1 z2 = s.ent z1 z2 := rfl
@[simp] theorem count_breg (a lo w k : Nat) (z1 z2 : Nat) : (s.count a lo w k).breg z1 z2 = s.breg z1 z2 := rfl
@[simp] theorem count_ent (a lo w k : Nat) (z1 z2 : Nat) : (s.count a lo w k).ent z1 z2 = s.ent z1 z2 := rfl
@[simp] theorem setBreg_reg (r a : Nat) (v : Word) (z : Nat) : (s.setBreg r a v).reg z = s.reg z := rfl
@[simp] theorem setBreg_ent (r a : Nat) (v : Word) (z1 z2 : Nat) : (s.setBreg r a v).ent z1 z2 = s.ent z1 z2 := rfl
@[simp] theorem setEnt_reg (t i : Nat) (ws : List Word) (z : Nat) : (s.setEnt t i ws).reg z = s.reg z := rfl
@[simp] theorem setEnt_breg (t i : Nat) (ws : List Word) (z1 z2 : Nat) : (s.setEnt t i ws).breg z1 z2 = s.breg z1 z2 := rfl
@[simp] theorem setEntW_reg (t i k : Nat) (v : Word) (z : Nat) : (s.setEntW t i k v).reg z = s.reg z := rfl
@[simp] theorem setEntW_breg (t i k : Nat) (v : Word) (z1 z2 : Nat) : (s.setEntW t i k v).breg z1 z2 = s.breg z1 z2 := rfl
@[simp] theorem draw_reg (z : Nat) : (s.draw).reg z = s.reg z := rfl
@[simp] theorem draw_breg (z1 z2 : Nat) : (s.draw).breg z1 z2 = s.breg z1 z2 := rfl
@[simp] theorem draw_ent (z1 z2 : Nat) : (s.draw).ent z1 z2 = s.ent z1 z2 := rfl
@[simp] theorem setDom_reg (d : Nat) (x : DomRt) (z : Nat) : (s.setDom d x).reg z = s.reg z := rfl
@[simp] theorem setDom_breg (d : Nat) (x : DomRt) (z1 z2 : Nat) : (s.setDom d x).breg z1 z2 = s.breg z1 z2 := rfl
@[simp] theorem setDom_ent (d : Nat) (x : DomRt) (z1 z2 : Nat) : (s.setDom d x).ent z1 z2 = s.ent z1 z2 := rfl
@[simp] theorem setLay_reg (n : Nat) (x : LayRt) (z : Nat) : (s.setLay n x).reg z = s.reg z := rfl
@[simp] theorem setLay_breg (n : Nat) (x : LayRt) (z1 z2 : Nat) : (s.setLay n x).breg z1 z2 = s.breg z1 z2 := rfl
@[simp] theorem setLay_ent (n : Nat) (x : LayRt) (z1 z2 : Nat) : (s.setLay n x).ent z1 z2 = s.ent z1 z2 := rfl
@[simp] theorem setFlow_reg (f : Nat) (x : FlowRt) (z : Nat) : (s.setFlow f x).reg z = s.reg z := rfl
@[simp] theorem setFlow_breg (f : Nat) (x : FlowRt) (z1 z2 : Nat) : (s.setFlow f x).breg z1 z2 = s.breg z1 z2 := rfl
@[simp] theorem setFlow_ent (f : Nat) (x : FlowRt) (z1 z2 : Nat) : (s.setFlow f x).ent z1 z2 = s.ent z1 z2 := rfl
@[simp] theorem setPort_reg (p : Nat) (x : PortRt) (z : Nat) : (s.setPort p x).reg z = s.reg z := rfl
@[simp] theorem setPort_breg (p : Nat) (x : PortRt) (z1 z2 : Nat) : (s.setPort p x).breg z1 z2 = s.breg z1 z2 := rfl
@[simp] theorem setPort_ent (p : Nat) (x : PortRt) (z1 z2 : Nat) : (s.setPort p x).ent z1 z2 = s.ent z1 z2 := rfl
@[simp] theorem setMac_reg (p : Nat) (x : MacRt) (z : Nat) : (s.setMac p x).reg z = s.reg z := rfl
@[simp] theorem setMac_breg (p : Nat) (x : MacRt) (z1 z2 : Nat) : (s.setMac p x).breg z1 z2 = s.breg z1 z2 := rfl
@[simp] theorem setMac_ent (p : Nat) (x : MacRt) (z1 z2 : Nat) : (s.setMac p x).ent z1 z2 = s.ent z1 z2 := rfl
@[simp] theorem setNode_reg (p n : Nat) (x : NodeRt) (z : Nat) : (s.setNode p n x).reg z = s.reg z := rfl
@[simp] theorem setNode_breg (p n : Nat) (x : NodeRt) (z1 z2 : Nat) : (s.setNode p n x).breg z1 z2 = s.breg z1 z2 := rfl
@[simp] theorem setNode_ent (p n : Nat) (x : NodeRt) (z1 z2 : Nat) : (s.setNode p n x).ent z1 z2 = s.ent z1 z2 := rfl
@[simp] theorem setStream_reg (i : Nat) (x : StreamRt) (z : Nat) : (s.setStream i x).reg z = s.reg z := rfl
@[simp] theorem setStream_breg (i : Nat) (x : StreamRt) (z1 z2 : Nat) : (s.setStream i x).breg z1 z2 = s.breg z1 z2 := rfl
@[simp] theorem setStream_ent (i : Nat) (x : StreamRt) (z1 z2 : Nat) : (s.setStream i x).ent z1 z2 = s.ent z1 z2 := rfl
@[simp] theorem setSrf_reg (n : Nat) (x : SrfRt) (z : Nat) : (s.setSrf n x).reg z = s.reg z := rfl
@[simp] theorem setSrf_breg (n : Nat) (x : SrfRt) (z1 z2 : Nat) : (s.setSrf n x).breg z1 z2 = s.breg z1 z2 := rfl
@[simp] theorem setSrf_ent (n : Nat) (x : SrfRt) (z1 z2 : Nat) : (s.setSrf n x).ent z1 z2 = s.ent z1 z2 := rfl
@[simp] theorem setChk_reg (n : Nat) (x : ChkRt) (z : Nat) : (s.setChk n x).reg z = s.reg z := rfl
@[simp] theorem setChk_breg (n : Nat) (x : ChkRt) (z1 z2 : Nat) : (s.setChk n x).breg z1 z2 = s.breg z1 z2 := rfl
@[simp] theorem setChk_ent (n : Nat) (x : ChkRt) (z1 z2 : Nat) : (s.setChk n x).ent z1 z2 = s.ent z1 z2 := rfl
@[simp] theorem setRail_reg (r : Nat) (x : RailRt) (z : Nat) : (s.setRail r x).reg z = s.reg z := rfl
@[simp] theorem setRail_breg (r : Nat) (x : RailRt) (z1 z2 : Nat) : (s.setRail r x).breg z1 z2 = s.breg z1 z2 := rfl
@[simp] theorem setRail_ent (r : Nat) (x : RailRt) (z1 z2 : Nat) : (s.setRail r x).ent z1 z2 = s.ent z1 z2 := rfl
@[simp] theorem setStr_reg (n : Nat) (x : StrRt) (z : Nat) : (s.setStr n x).reg z = s.reg z := rfl
@[simp] theorem setStr_breg (n : Nat) (x : StrRt) (z1 z2 : Nat) : (s.setStr n x).breg z1 z2 = s.breg z1 z2 := rfl
@[simp] theorem setStr_ent (n : Nat) (x : StrRt) (z1 z2 : Nat) : (s.setStr n x).ent z1 z2 = s.ent z1 z2 := rfl
@[simp] theorem setMx_reg (p : Nat) (x : MxRt) (z : Nat) : (s.setMx p x).reg z = s.reg z := rfl
@[simp] theorem setMx_breg (p : Nat) (x : MxRt) (z1 z2 : Nat) : (s.setMx p x).breg z1 z2 = s.breg z1 z2 := rfl
@[simp] theorem setMx_ent (p : Nat) (x : MxRt) (z1 z2 : Nat) : (s.setMx p x).ent z1 z2 = s.ent z1 z2 := rfl
@[simp] theorem setMset_reg (k : Nat) (x : MtrSet) (z : Nat) : (s.setMset k x).reg z = s.reg z := rfl
@[simp] theorem setMset_breg (k : Nat) (x : MtrSet) (z1 z2 : Nat) : (s.setMset k x).breg z1 z2 = s.breg z1 z2 := rfl
@[simp] theorem setMset_ent (k : Nat) (x : MtrSet) (z1 z2 : Nat) : (s.setMset k x).ent z1 z2 = s.ent z1 z2 := rfl
@[simp] theorem setPport_reg (p : Nat) (x : PtpPort) (z : Nat) : (s.setPport p x).reg z = s.reg z := rfl
@[simp] theorem setPport_breg (p : Nat) (x : PtpPort) (z1 z2 : Nat) : (s.setPport p x).breg z1 z2 = s.breg z1 z2 := rfl
@[simp] theorem setPport_ent (p : Nat) (x : PtpPort) (z1 z2 : Nat) : (s.setPport p x).ent z1 z2 = s.ent z1 z2 := rfl
@[simp] theorem setHbp_reg (p : Nat) (x : HbPort) (z : Nat) : (s.setHbp p x).reg z = s.reg z := rfl
@[simp] theorem setHbp_breg (p : Nat) (x : HbPort) (z1 z2 : Nat) : (s.setHbp p x).breg z1 z2 = s.breg z1 z2 := rfl
@[simp] theorem setHbp_ent (p : Nat) (x : HbPort) (z1 z2 : Nat) : (s.setHbp p x).ent z1 z2 = s.ent z1 z2 := rfl
@[simp] theorem setQty_reg (q : Nat) (x : Qty) (z : Nat) : (s.setQty q x).reg z = s.reg z := rfl
@[simp] theorem setQty_breg (q : Nat) (x : Qty) (z1 z2 : Nat) : (s.setQty q x).breg z1 z2 = s.breg z1 z2 := rfl
@[simp] theorem setQty_ent (q : Nat) (x : Qty) (z1 z2 : Nat) : (s.setQty q x).ent z1 z2 = s.ent z1 z2 := rfl

/-! What each writes -/

/-- A register reads as it was last written; every other one as before. -/
theorem setReg_reg (a b : Nat) (v : Word) : (s.setReg a v).reg b = if b = a then v else s.reg b :=
  sget_sput_getD s.regs a b v resetWord

@[simp] theorem setReg_reg_self (a : Nat) (v : Word) : (s.setReg a v).reg a = v := by simp [setReg_reg]

theorem setReg_reg_ne {a b : Nat} (h : b ≠ a) (v : Word) : (s.setReg a v).reg b = s.reg b := by simp [setReg_reg, h]

theorem setRegF_reg_ne {a b : Nat} (h : b ≠ a) (lo w v : Nat) : (s.setRegF a lo w v).reg b = s.reg b :=
  setReg_reg_ne s h _

theorem setRegB_reg_ne {a b : Nat} (h : b ≠ a) (i : Nat) (x : Bool) : (s.setRegB a i x).reg b = s.reg b :=
  setReg_reg_ne s h _

theorem count_reg_ne {a b : Nat} (h : b ≠ a) (lo w k : Nat) : (s.count a lo w k).reg b = s.reg b :=
  setReg_reg_ne s h _

@[simp] theorem setRegF_reg_self (a lo w v : Nat) : (s.setRegF a lo w v).reg a = setFld (s.reg a) lo w v :=
  setReg_reg_self s a _

/-- A banked register as its own requester wrote it last; addresses have 24 bits. -/
theorem setBreg_breg {q r a b : Nat} (ha : a < 2 ^ 24) (hb : b < 2 ^ 24) (v : Word) :
    (s.setBreg q a v).breg r b = if r = q ∧ b = a then v else s.breg r b := by
  have hk : bankKey r b = bankKey q a ↔ r = q ∧ b = a := by unfold bankKey; omega
  by_cases h : r = q ∧ b = a
  · obtain ⟨rfl, rfl⟩ := h
    have := sget_sput_getD s.bank (bankKey r b) (bankKey r b) v fun _ => resetWord b
    simpa [State.breg, State.setBreg] using this
  · have := sget_sput_getD s.bank (bankKey q a) (bankKey r b) v fun k => if k = bankKey q a then resetWord a else resetWord b
    rw [if_neg h]
    simp only [if_true, hk, h, if_false] at this
    exact this

/-- A table entry as it was written last; an index has 32 bits. -/
theorem setEnt_ent {t x i j : Nat} (hi : i < 2 ^ 32) (hj : j < 2 ^ 32) (ws : List Word) :
    (s.setEnt t i ws).ent x j = if x = t ∧ j = i then ws else s.ent x j := by
  have hk : tabKey x j = tabKey t i ↔ x = t ∧ j = i := by unfold tabKey; omega
  by_cases h : x = t ∧ j = i
  · obtain ⟨rfl, rfl⟩ := h
    have := sget_sput_getD s.tabs (tabKey x j) (tabKey x j) ws fun _ => entryReset x j
    simpa [State.ent, State.setEnt] using this
  · have := sget_sput_getD s.tabs (tabKey t i) (tabKey x j) ws fun k => if k = tabKey t i then entryReset t i else entryReset x j
    rw [if_neg h]
    simp only [if_true, hk, h, if_false] at this
    exact this

end Sys2Proof.Machine
end

