-- ==== Sys2Proof/Laws/Ops.lean ====
section
/-! SUPPORT. What the shared operations can do, said once: the check of a command's operands, events and what raising one
changes, and accesses on the control bus. -/

namespace Sys2Proof.Machine

/-- A property of both branches holds of the choice. -/
theorem ite_ind {α : Type} {P : α → Prop} {c : Prop} [Decidable c] {a b : α} (ha : P a) (hb : P b) : P (if c then a else b) := by
  split <;> assumption

/-! The check of a command's operands -/

/-- A well-formed command leaves what its meaning says, the queue and the factory's data apart. -/
theorem guarded_alone {i : Instr} {s t : State} (h : i.wf = true) : guarded i s t = .next (alone s t) := by
  simp [guarded, h, alone]

/-- The same where what follows in other blocks is part of the meaning. -/
theorem guarded_settled {i : Instr} {s t : State} (h : i.wf = true) : guarded i s (settle t) = .next (settled s t) :=
  guarded_alone h

/-- A command that is not well formed is no event of the module. -/
theorem guarded_ill {i : Instr} {s t : State} (h : i.wf = false) : guarded i s t = .next s := by simp [guarded, h]

/-- Every command completes, and its effect leaves the queue and the factory's data. -/
theorem guarded_next (i : Instr) (s t : State) :
    ∃ u, guarded i s t = .next u ∧ u.pending = s.pending ∧ u.hw = s.hw := by
  refine ⟨_, rfl, ?_⟩
  split <;> exact ⟨rfl, rfl⟩

/-! Events -/

/-- Two states that differ at most in register words, in the event block and in the Lining's submission queue. -/
def EventOnly (s t : State) : Prop :=
  ∃ r e q, t = { s with regs := r, evt := e, lin := { s.lin with subq := q } }

theorem EventOnly.refl (s : State) : EventOnly s s := ⟨s.regs, s.evt, s.lin.subq, rfl⟩

theorem EventOnly.trans {s t u : State} (h : EventOnly s t) (k : EventOnly t u) : EventOnly s u := by
  obtain ⟨r, e, q, rfl⟩ := h
  obtain ⟨r', e', q', rfl⟩ := k
  exact ⟨r', e', q', rfl⟩

theorem setReg_eventOnly (s : State) (a : Nat) (v : Word) : EventOnly s (s.setReg a v) := ⟨_, s.evt, s.lin.subq, rfl⟩
theorem count_eventOnly (s : State) (a lo w k : Nat) : EventOnly s (s.count a lo w k) := setReg_eventOnly s _ _
theorem setRegB_eventOnly (s : State) (a i : Nat) (b : Bool) : EventOnly s (s.setRegB a i b) := setReg_eventOnly s _ _
theorem evt_eventOnly (s : State) (e : Evt) : EventOnly s { s with evt := e } := ⟨s.regs, e, s.lin.subq, rfl⟩
theorem linPush_eventOnly (s : State) (r : LRec) : EventOnly s (linPush s r) := ⟨s.regs, s.evt, _, rfl⟩

theorem alertDrive_eventOnly (s : State) : EventOnly s (alertDrive s) := by
  unfold alertDrive
  simp only []
  split <;> exact ite_ind (ite_ind (evt_eventOnly s _) ((evt_eventOnly s _).trans (setReg_eventOnly _ _ _)))
    (ite_ind (setReg_eventOnly s _ _) (EventOnly.refl s))

theorem evtTouch_eventOnly (s : State) (src : Nat) : EventOnly s (evtTouch s src) := by
  unfold evtTouch
  refine ite_ind (EventOnly.trans (ite_ind ?_ ?_) (alertDrive_eventOnly _)) (ite_ind (evt_eventOnly s _) (EventOnly.refl s))
  · exact (evt_eventOnly s _).trans (evt_eventOnly _ _)
  · exact evt_eventOnly s _

theorem setRaw_eventOnly (s : State) (p : Nat) (mac : Bool) (n : Nat) : EventOnly s (setRaw s p mac n) :=
  ((setRegB_eventOnly s _ _ _).trans (evt_eventOnly _ _)).trans (evtTouch_eventOnly _ _)

theorem linRefused_eventOnly (s : State) (r : LRec) : EventOnly s (linRefused s r) := by
  unfold linRefused linFail
  split
  · exact (count_eventOnly s _ _ _ _).trans (setReg_eventOnly _ _ _)
  · exact count_eventOnly s _ _ _ _

/-- Raising an event changes register words, the event block and the submission queue at most (R557, R561, R562). -/
theorem raiseN_eventOnly (k : Nat) : ∀ (s : State) (p : Nat) (mac : Bool) (n : Nat), EventOnly s (raiseN k s p mac n) := by
  induction k with
  | zero => exact setRaw_eventOnly
  | succ k ih =>
    intro s p mac n
    unfold raiseN
    simp only []
    have h1 := setRaw_eventOnly s p mac n
    refine ite_ind (ite_ind ?_ (ite_ind ?_ ?_)) h1
    · exact (h1.trans (count_eventOnly _ _ _ _ _)).trans (ih _ _ _ _)
    · exact ((h1.trans (linPush_eventOnly _ _)).trans (evt_eventOnly _ _)).trans (count_eventOnly _ _ _ _ _)
    · exact (((h1.trans (count_eventOnly _ _ _ _ _)).trans (linRefused_eventOnly _ _)).trans (ih _ _ _ _)).trans (ih _ _ _ _)

theorem raise_eventOnly (s : State) (p n : Nat) : EventOnly s (raise s p n) := raiseN_eventOnly 3 s p false n
theorem raiseMac_eventOnly (s : State) (p n : Nat) : EventOnly s (raiseMac s p n) := raiseN_eventOnly 3 s p true n

/-- The registers that raising a bit of page `p` (or of its MAC block) may write. -/
def eventReg (p : Nat) (mac : Bool) (a : Nat) : Prop :=
  a = (if mac then R.MAC_EVRAW p else R.PG_EVRAW p) ∨ a = R.PG_EVRAW 0x03 ∨ a = R.PG_EVRAW 0x40 ∨ a = R.EVT_FIRST ∨
    a = R.EVT_LOGCNT ∨ a = R.LIN_FAIL ∨ a = R.LIN_CNT0 ∨ a = R.LIN_CNT1

theorem alertDrive_reg {s : State} {a : Nat} (h : a ≠ R.EVT_FIRST) : (alertDrive s).reg a = s.reg a := by
  unfold alertDrive
  simp only []
  split <;> exact ite_ind (P := fun t : State => t.reg a = s.reg a)
    (ite_ind (P := fun t : State => t.reg a = s.reg a) rfl (setReg_reg_ne _ h _))
    (ite_ind (P := fun t : State => t.reg a = s.reg a) (setReg_reg_ne _ h _) rfl)

theorem evtTouch_reg {s : State} {a : Nat} (h : a ≠ R.EVT_FIRST) (src : Nat) : (evtTouch s src).reg a = s.reg a := by
  unfold evtTouch
  exact ite_ind (P := fun t : State => t.reg a = s.reg a)
    ((alertDrive_reg h).trans (ite_ind (P := fun t : State => t.reg a = s.reg a) rfl rfl))
    (ite_ind (P := fun t : State => t.reg a = s.reg a) rfl rfl)

theorem setRaw_reg {s : State} {a p n : Nat} {mac : Bool} (h : a ≠ R.EVT_FIRST)
    (h' : a ≠ if mac then R.MAC_EVRAW p else R.PG_EVRAW p) : (setRaw s p mac n).reg a = s.reg a :=
  (evtTouch_reg h _).trans (setRegB_reg_ne s h' _ _)

theorem linRefused_reg {s : State} {a : Nat} (h0 : a ≠ R.LIN_CNT0) (h1 : a ≠ R.LIN_CNT1) (hf : a ≠ R.LIN_FAIL) (r : LRec) :
    (linRefused s r).reg a = s.reg a := by
  unfold linRefused linFail
  split
  · exact (setReg_reg_ne _ hf _).trans (count_reg_ne s h1 _ _ _)
  · exact count_reg_ne s h0 _ _ _

/-- Raising an event leaves every other register alone. -/
theorem raiseN_reg {a : Nat} (k : Nat) : ∀ {s : State} {p n : Nat} {mac : Bool}, ¬eventReg p mac a →
    (raiseN k s p mac n).reg a = s.reg a := by
  induction k with
  | zero =>
    intro s p n mac h
    simp only [eventReg, not_or] at h
    exact setRaw_reg h.2.2.2.1 h.1
  | succ k ih =>
    intro s p n mac h
    have h3 : ¬eventReg 3 false a := fun e => h (by
      unfold eventReg at e ⊢; rcases e with e | e
      · exact .inr (.inl e)
      · exact .inr e)
    have h40 : ¬eventReg 0x40 false a := fun e => h (by
      unfold eventReg at e ⊢; rcases e with e | e
      · exact .inr (.inr (.inl e))
      · exact .inr e)
    simp only [eventReg, not_or] at h
    unfold raiseN
    simp only []
    have h1 : (setRaw s p mac n).reg a = s.reg a := setRaw_reg h.2.2.2.1 h.1
    refine ite_ind (P := fun t : State => t.reg a = s.reg a) (ite_ind (P := fun t : State => t.reg a = s.reg a) ?_
      (ite_ind (P := fun t : State => t.reg a = s.reg a) ?_ ?_)) h1
    · exact (ih h3).trans ((count_reg_ne _ h.2.2.2.2.1 _ _ _).trans h1)
    · exact (count_reg_ne _ h.2.2.2.2.1 _ _ _).trans h1
    · exact (ih h3).trans ((ih h40).trans ((linRefused_reg h.2.2.2.2.2.2.1 h.2.2.2.2.2.2.2 h.2.2.2.2.2.1 _).trans
        ((count_reg_ne _ h.2.2.2.2.1 _ _ _).trans h1)))

theorem raise_reg {s : State} {p n a : Nat} (h : ¬eventReg p false a) : (raise s p n).reg a = s.reg a := raiseN_reg 3 h

/-! Accesses on the control bus -/

/-- A register that answers an access is the register that its address names. -/
theorem findTarget_reg {s : State} {req a : Nat} {d : PageD} {r : RegD} (h : findTarget s req a = .reg d r) :
    locate s a = some (d, r) := by
  unfold findTarget at h
  repeat' split at h
  all_goals simp_all

/-- A register that answers an access is no register of an island in reset, but one that its page keeps. -/
theorem findTarget_up {s : State} {req a : Nat} {d : PageD} {r : RegD} (h : findTarget s req a = .reg d r) :
    (s.fitted d.num && !s.islUp d.isl && !heldHeader (offOf a)) = false := by
  unfold findTarget at h
  repeat' split at h
  all_goals simp_all

/-- Aborting a sequence at its hold limit removes it and writes registers and events at most. -/
theorem lockHoldExpiry_spec (s : State) (req : Nat) : ∃ r e q c, lockHoldExpiry s req =
    { s with regs := r, evt := e, lin := { s.lin with subq := q }, ctl := { s.ctl with seqs := c } } := by
  unfold lockHoldExpiry
  split
  · refine ite_ind (P := fun t : State => ∃ r e q c, t =
      { s with regs := r, evt := e, lin := { s.lin with subq := q }, ctl := { s.ctl with seqs := c } }) ?_
      ⟨s.regs, s.evt, s.lin.subq, s.ctl.seqs, rfl⟩
    unfold seqAbort
    split
    · exact ⟨s.regs, s.evt, s.lin.subq, s.ctl.seqs, rfl⟩
    · obtain ⟨r, e, q, h⟩ := raise_eventOnly (if 2 = 2 then (({ s with ctl := { s.ctl with seqs := sdel s.ctl.seqs req } }.setReg
        R.CB_BROKEN _).setRegB R.CB_BARRIER req true) else _) 0x02 0
      exact ⟨r, e, q, _, h⟩
  · exact ⟨s.regs, s.evt, s.lin.subq, s.ctl.seqs, rfl⟩

/-- What the aborts that are due before an access change: registers, events and the sequences at most (R91, R92). -/
theorem locksDue_spec (s : State) : ∃ r e q c, locksDue s =
    { s with regs := r, evt := e, lin := { s.lin with subq := q }, ctl := { s.ctl with seqs := c } } := by
  unfold locksDue
  generalize List.range 8 = l
  induction l generalizing s with
  | nil => exact ⟨s.regs, s.evt, s.lin.subq, s.ctl.seqs, rfl⟩
  | cons x l ih =>
    obtain ⟨r, e, q, c, h⟩ := lockHoldExpiry_spec s x
    obtain ⟨r', e', q', c', h'⟩ := ih (lockHoldExpiry s x)
    refine ⟨r', e', q', c', ?_⟩
    rw [List.foldl_cons, h', h]

/-- Where no sequence is open, none is due. -/
theorem locksDue_none {s : State} (h : s.ctl.seqs = []) : locksDue s = s := by
  unfold locksDue
  generalize List.range 8 = l
  induction l with
  | nil => rfl
  | cons x l ih =>
    have : lockHoldExpiry s x = s := by unfold lockHoldExpiry; rw [h]; rfl
    rw [List.foldl_cons, this, ih]

@[simp] theorem locksDue_isl (s : State) : (locksDue s).isl = s.isl := by obtain ⟨r, e, q, c, h⟩ := locksDue_spec s; rw [h]
@[simp] theorem locksDue_hw (s : State) : (locksDue s).hw = s.hw := by obtain ⟨r, e, q, c, h⟩ := locksDue_spec s; rw [h]
@[simp] theorem locksDue_bank (s : State) : (locksDue s).bank = s.bank := by obtain ⟨r, e, q, c, h⟩ := locksDue_spec s; rw [h]
@[simp] theorem locksDue_tabs (s : State) : (locksDue s).tabs = s.tabs := by obtain ⟨r, e, q, c, h⟩ := locksDue_spec s; rw [h]
@[simp] theorem locksDue_pending (s : State) : (locksDue s).pending = s.pending := by
  obtain ⟨r, e, q, c, h⟩ := locksDue_spec s
  rw [h]

/-- What a write that is accepted at once leaves. -/
theorem viaBus_takes {s : State} {req a : Nat} {v : Word} (h : takesWrite s req a v = true) :
    viaBus s req a v = settle (answered (reply (noteReply
      (takeStaged (locksDue s) req (commitTime (locksDue s) req) (a, v)) a) req 0 []) req) := by
  simp only [takesWrite, Bool.and_eq_true] at h
  obtain ⟨hu, h⟩ := h
  simp only [viaBus, hu, if_true]
  cases ht : findTarget (locksDue s) req a with
  | ends t n => simp [ht] at h
  | reg d r =>
    simp only [ht, Bool.and_eq_true, Bool.not_eq_true', bne_iff_ne, ne_eq, Option.isNone_iff_eq_none] at h
    simp only [busWriteR, busWrite, busWriteAt, ht, h.1.1.1, h.1.1.2, h.1.2, h.2, takeStaged, takeFenced,
      findTarget_reg ht, findTarget_up ht, if_false, Bool.false_eq_true]

/-- What a read that is answered at once leaves. -/
theorem viaBusRead_takes {s : State} {req a : Nat} (h : takesRead s req a = true) :
    viaBusRead s req a = settle (answered (reply (noteReply (readTouch (locksDue s) req a) a) req 0
      [readWord (locksDue s) req a]) req) := by
  simp only [takesRead, Bool.and_eq_true] at h
  obtain ⟨hu, h⟩ := h
  simp only [viaBusRead, hu, if_true]
  cases ht : findTarget (locksDue s) req a with
  | ends t n => simp [ht] at h
  | reg d r =>
    simp only [ht, Bool.not_eq_true'] at h
    simp [busReadR, busRead, busReadAt, ht, h]

/-- The error reported is one of the errors there are, and none comes before it in the order of R57. -/
theorem firstError_spec {es : List (Err × Nat)} {e : Err × Nat} (h : firstError es = some e) :
    e ∈ es ∧ ∀ x ∈ es, e.1.prio ≤ x.1.prio := by
  cases es with
  | nil => cases h
  | cons b es =>
    simp only [firstError, Option.some.injEq] at h
    have key : ∀ (l : List (Err × Nat)) (b : Err × Nat),
        let r := l.foldl (fun b x => if x.1.prio < b.1.prio ∨ (x.1.prio = b.1.prio ∧ x.2 < b.2) then x else b) b
        r ∈ b :: l ∧ ∀ x ∈ b :: l, r.1.prio ≤ x.1.prio := by
      intro l
      induction l with
      | nil => intro b; simp
      | cons y l ih =>
        intro b
        simp only [List.foldl_cons]
        split
        · next hc =>
          have := ih y
          refine ⟨List.mem_cons_of_mem _ this.1, fun x hx => ?_⟩
          rcases List.mem_cons.1 hx with rfl | hx
          · have := this.2 y List.mem_cons_self; omega
          · exact this.2 x hx
        · next hc =>
          have := ih b
          refine ⟨?_, fun x hx => ?_⟩
          · rcases List.mem_cons.1 this.1 with e | e
            · rw [e]; exact List.mem_cons_self
            · exact List.mem_cons_of_mem _ (List.mem_cons_of_mem _ e)
          · rcases List.mem_cons.1 hx with rfl | hx
            · exact this.2 x List.mem_cons_self
            · rcases List.mem_cons.1 hx with rfl | hx
              · have := this.2 b List.mem_cons_self; omega
              · exact this.2 x (List.mem_cons_of_mem _ hx)
    rw [← h]
    exact key es b

end Sys2Proof.Machine
end

