-- ==== Sys2Proof/Machine/Pins.lean ====
section
/-! DEFINITION. Connectors and cages (20.2): which pin or cage carries what. -/

namespace Sys2Proof.Machine

/-- Connector and pin of string sink `n` (R575, Table 20-3). -/
def sinkPin (n : Nat) : Nat × Nat := (2 + n / 32, if n % 32 < 16 then 3 + n % 32 else 21 + (n % 32 - 16))

/-- Connector and pins of rail `r`, A to D (R575, Table 20-3). -/
def railPins (r : Nat) : Nat × List Nat := (2 + r / 2, if r % 2 = 0 then [1, 2] else [19, 20])

/-- Connector of matrix port `x`, and the pins of its lines and columns (R576). -/
def mxConn (x : Nat) : Nat := 4 + x
def linePin (l : Nat) : Nat := 1 + l
def columnPin (c : Nat) : Nat := 33 + c
def mxGround : List Nat := (List.range 16).map (· + 225)

/-- What stands on the fitted pins of J6 (R577, R578, Table 20-4). -/
def j6 : SMap String :=
  [(1, "V1"), (3, "V2"), (5, "V3"), (7, "N"), (9, "I1_P"), (10, "I1_N"), (11, "I2_P"), (12, "I2_N"), (13, "I3_P"), (14, "I3_N"),
    (15, "IN_P"), (16, "IN_N"), (17, "PO0_P"), (18, "PO0_N"), (19, "PO1_P"), (20, "PO1_N")]

/-- What stands on the pins of J7, 1 to 26 (Table 20-5). -/
def j7 : List String :=
  ["GND", "HOST_SCK", "GND", "HOST_CS_N", "HOST_IO0", "HOST_IO1", "HOST_IO2", "HOST_IO3", "GND", "RST_N", "ALERT_N", "GND",
    "PPS_IN"] ++
  ["PPS_OUT", "GND", "LTC_P", "LTC_N", "LTC_SHLD", "WCLK_IN", "GND", "TAMP_A", "TAMP_B", "STAT_COM", "STAT_NO", "STAT_NC",
    "AUX_3V3"]

/-- Pins of bus `n` on J8: positive, negative, shield (R579). -/
def busPins (n : Nat) : Nat × Nat × Nat := (3 * n + 1, 3 * n + 2, 3 * n + 3)

/-- The ports of the cages in their order from left to right (R580, Table 20-6). -/
def cagePorts : List String :=
  ["U0", "U1", "P0", "P1", "P2", "P3", "P4", "P5", "P6", "P7", "H0", "H1", "M"]

/-- SFP28 cages; the others are SFP+ (Table 20-6). -/
def cageSfp28 (c : Nat) : Bool := decide (c < 2)

end Sys2Proof.Machine
end

