-- ==== Sys2Proof/Tests/Slice0.lean ====
section
/-! SUPPORT. Tests: ill-formed commands, states that meet the hypotheses of every statement, and values of the manual. -/

set_option maxRecDepth 100000

namespace Sys2Proof.Tests

open Machine

/-! Commands that the checks of their operands refuse, one for each check -/

theorem test_ill_formed :
    ([.flagSet 8 0#32,
      .registerWrite 0 0x1000000 0#32,
      .commit 0 0x07,
      .fenceTimeout 14 ⟨none, none⟩,
      .hostWrb 0 [] none 0,
      .hostWrb 0 (List.replicate 65 0#32) none 0,
      .hostRdb 0 64 none 0,
      .hostUnknownCommand 0x02#8 [] 0,
      .hostFrameAbort 0 (List.replicate 65 0#32),
      .remoteRead 0 2,
      .remoteRequest 0 0 1 0 2 0 0 [] none,
      .remoteRequest 0 1 1 0 2 16 0 [] none,
      .busGrant 256 0,
      .flush 0 256,
      .itemComplete (.engine 24) true 0,
      .itemComplete (.framer 17) true 0,
      .pushHandoff 16,
      .testComplete 0 0x100000000,
      .perferInRegion 0 0 [0#8],
      .e131Data 0 ⟨0, none⟩ 0 0 0 0 false false 0 [],
      .e131Sync 0 ⟨0, 64000⟩,
      .ingestItemClose 0 192,
      .e131SourceTimeout 8192,
      .latchPoint 4,
      .echoTimeout 64,
      .echoRep 0 65536 0 0 0 0 0,
      .frameTxEnd 0x11111,
      .busCollision 0x12,
      .sfpRemove 0x1A,
      .sfpInsert 0x10 [] [],
      .pauseReceive 0x10 65536,
      .sakRekey 5 0,
      .stringFault 64 true,
      .drvFclrRail 0 16,
      .mxColumnFault 0 192 true,
      .mxLineShort 0 32,
      .drivePresentation ⟨[], 0, 0⟩,
      .meterQuantum ⟨[], [], 0, (0, 0), [], []⟩,
      .meterQuantum ⟨[8388608, 0, 0], [0, 0, 0], 0, (0, 0), [(0, 0), (0, 0), (0, 0), (0, 0)], []⟩,
      .setvalid 0 0#32,
      .ptpSyncSend 21,
      .ltcFrame 0 24 0 0 0,
      .hello 0 0 256 0 true,
      .hello 0 0 0 (2 ^ 64) true,
      .announce 0 1 1 0 0 (2 ^ 48 * 1000000000) false false 0,
      .join 0 1 1 0 0 255 false,
      .presentExpire 255,
      .updSeg 0 0 0 64 [],
      .updAck 0 0 0 3,
      .heartbeat (.cuff 0 (2 ^ 64)) 0 0 0,
      .heartbeat (.cuff 0 0) 3 0 0,
      .yieldReceive 0 0 0 4,
      .yieldAck 0 4,
      .digest 0 0 [(64, 0, false, 0)],
      .resyncEnd 0 0 2,
      .diagCheckFail 7,
      .liningAppendComplete 8,
      .sectorErase 1024 0,
      .liningReplay ⟨[(1024, 0)], [], []⟩ false,
      .liningReplay ⟨[], [1024], []⟩ false,
      .sensorSample 64,
      .glitchTrip 5 true,
      .frameTxStart ⟨0x1A, ⟨5, some 4, 0⟩⟩,
      .frameTxStart ⟨0x1A, ⟨0, none, 8⟩⟩,
      .busBackoffEnd ⟨0x19, ⟨0, none, 0⟩⟩,
      .hostWrb 0 [0#32] (some 0) 0,
      .tenureCutoff 4 0 .burst,
      .policyWrite 0 9 0#32,
      .applyComplete 3,
      .calDue 0x50 false,
      .sclOne 0 256,
      .post 32 0,
      .testVectorEnqueue 24,
      .scrubError (2 ^ 28) true,
      .cageOvercurrent 13 ⟨0, 0⟩,
      .cagePowerOn 0 8192,
      .enumRep 0 0 0 (2 ^ 48) 0] : List Instr).all (fun i => !i.wf) = true := by decide

/-! States that the witnesses start from -/

/-- A started module: every island runs, every page is enabled, the Lining is ready and the bank is charged. -/
def base : State :=
  { State.reset with
    isl := { State.reset.isl with up := 0x3FFF }, lin := { State.reset.lin with state := 1 }
    pwr := { State.reset.pwr with ready := true, started := 13, charged := true }
    regs := (allPages.filter fun d => !d.core).foldl (fun m d => sset m (R.PG_CTL d.num) 1#32) State.reset.regs }

/-- Its link on one port page is up. -/
def linkedTo (p : Nat) : State := base.setMac p { mac0 with link := true }

/-- An item of a kind in service, and the module with it. -/
def svc (k : Nat) (x : Exec) : Svc := ⟨0, ⟨w32 k :: List.replicate 15 0#32, 0, false, false⟩, x, 0, 0, [], false⟩
def serving (v : Svc) : State := { base with htk := { base.htk with svc := [v] } }
def noUe : Ue := ⟨[], [], [], [], [], 0⟩

/-- An item that expires at its deadline 0. -/
def old : Item := ⟨0x00080001#32 :: List.replicate 15 0#32, 0, false, false⟩

/-- A RENDER item whose runs lie beyond the run store. -/
def farRun : Svc :=
  ⟨0, ⟨[1#32, 0#32, 0#32, 0#32, 0#32, 0#32, 0#32, 0xFFFFFF#32, 5#32] ++ List.replicate 7 0#32, 0, false, false⟩,
    .engine 3, 0, 0, [], false⟩

/-- Flow 0 enabled, and a PUSH item for it in the management core's enqueue buffer. -/
def pushReady : State :=
  ((base.setEnt tHFL 0 ([65#32, 0#32, 16#32] ++ List.replicate 16 0#32)).setBreg 0 0x040080 2#32).setBreg 0 0x040094 1#32 |>
    fun s => (s.setBreg 0 0x040098 0x1000#32).setBreg 0 0x0400A0 0x10001#32

/-- Layer 0 enabled with one RGB pixel, for Perfer-IN on port 0, and its messages. -/
def perferIn : State :=
  (base.setEnt tLAY 0 [0x00020101#32, 0x10001#32, 0#32, 0#32, 0#32, 0#32]).setReg R.LAY_PIN 0x10000#32 |> fun s =>
    s.setReg (R.FST_RXCFG 0) 64#32
def regionMsg : List Byte :=
  [1#8, 1#8, 0#8, 0#8, 0#8, 0#8, 0#8, 0#8, 0#8, 0#8, 0#8, 0#8, 0#8, 1#8, 0#8, 1#8, 0#8, 0#8, 0#8, 4#8, 1#8, 2#8, 3#8, 4#8]
def commitMsg : List Byte := [1#8, 2#8] ++ List.replicate 18 0#8

/-- Stream 0 enabled for an RGB layer of one pixel. -/
def streaming : State :=
  (base.setEnt tLAY 0 [0x00020103#32, 0x10001#32, 0#32, 0#32, 0#32, 0#32]).setReg (R.LAY_SCTL 0) 0x00000801#32

/-- E1.31 on port 0 with buffers. -/
def e131 : State := (base.setReg R.LAY_E131CTL 1#32).setReg (R.FST_RXCFG 0) 64#32

/-- Domain 0 runs with a latch point that has passed. -/
def running : State :=
  { base with
    pres := { base.pres with doms := [(0, { dom0 with running := true, cur := some ⟨0, 0, 0, 0⟩, next := ⟨1, 1, 0, 0⟩ })] }
    clk := 1000000000 * 16777216 }

/-- Matrix port 0 scans. -/
def scan : State := { base with drv := { base.drv with mx := [{ mx0 with scanning := true }, mx0] }, clk := 10000000000 * 16777216 }

/-- A checkpoint of an empty journal. -/
def ckpt0 : Ckpt := { c := 0, ack := 0, recs := [], gen := 0, pos := 0, mir := 0, base := false, wear := [], drops := 0, count := 0, crc := 0 }

/-- A bound member in a role, with its Cuff up. -/
def pairAs (r : Role) : State :=
  { (linkedTo 0x24).setReg R.MIR_CFG 1#32 with pair := { base.pair with role := r } }

/-- A PROVISION block for serial 1 and nonce 5. -/
def provBlock : List Byte :=
  [0x47#8, 0x43#8, 1#8, 0x10#8, 0#8, 0#8, 0#8, 0#8, 0#8, 0#8, 0#8, 1#8, 0#8, 0#8, 0#8, 0#8, 0#8, 0#8, 0#8, 5#8] ++
    List.replicate 204 0#8


/-- Items whose operands stand in word 6, for the executors that read them there. -/
def svc6 (k w : Nat) (x : Exec) : Svc :=
  ⟨0, ⟨[w32 k, 0#32, 0#32, 0#32, 0#32, 0#32, w32 w] ++ List.replicate 9 0#32, 0, false, false⟩, x, 0, 0, [], false⟩

/-- Cue 0 with the first word `w`, and its item in service; the action of a cue that has one writes a reserved offset. -/
def cueing (w : Word) : State := (serving (svc 9 .cue)).setEnt tTDMQ 0 [w, 0#32, 0#32]

/-- Port 0's SecY is SECURED by an SA with the next packet number `pn`, installed at up time 0. -/
def secured (pn : Nat) : State :=
  { (base.setMac 0x10 { mac0 with txSa := some ⟨0, pn, 0⟩, rxAns := [0] }).setReg (R.MAC_SEC 0x10) 1#32 with
    gnt := { base.gnt with slots := [(4, List.replicate 96 1#8)] } }

/-- A medium without carrier. -/
def quiet : Medium := ⟨0, none, 0⟩

/-- One meter point that alone carries the first phase past 40 % of Un, and crossings at `t0` and `t`. -/
def crossed (t0 t : Nat) : State :=
  { base with mtr := { base.mtr with win := [⟨[10 ^ 10, 0, 0], [0, 0, 0], 0⟩], cross := some t0, newCross := some t } }

/-- Requester 1 holds page 4. -/
def holding : State := { base with ctl := { base.ctl with seqs := [(1, ⟨0, 1000, [4], []⟩)] } }

/-- Requester 1 is barred. -/
def barred : State := base.setReg R.CB_BARRIER 2#32

/-- A software source that drives the alert. -/
def alerting : State :=
  { (base.setReg R.EVT_ALERT 1#32).setReg (R.EVT_AMSK 6) 1#32 with evt := { base.evt with src := [(6, 1)] } }

/-- Slot 9 with a key whose secret bytes are all `b`. -/
def withKey (b : Byte) : State :=
  { base with gnt := { base.gnt with slots := [(9, List.replicate 32 b ++ List.replicate 64 0#8)] } }

/-- The journal holds one ENERGY record. -/
def recorded : State :=
  { base with lin := { base.lin with dur := 1, sectors := [(0, ⟨1, 0, 1, 1, 32, [⟨false, 0x30, false, false, false, 1, 0, 0, []⟩], none⟩)] } }

/-- A register behind a served page is found. -/
theorem found_of {s : State} {req a : Nat} {x : PageD × RegD} (h12 : s.islUp 12 = true) (hl : locate s a = some x)
    (ha : a % 4 = 0) (hp : servedPage s x.1.num = true)
    (hh : (s.fitted x.1.num && !s.islUp x.1.isl && !heldHeader (offOf a)) = false) :
    findTarget s req a = .reg x.1 x.2 := by
  simp [findTarget, h12, hl, ha, hp, hh]

/-- Two registers that the witnesses address. -/
theorem found_cb_losslim : findTarget base 1 0x020088 = .reg ((locate base 0x020088).get (by decide)).1
    ((locate base 0x020088).get (by decide)).2 :=
  found_of (by decide) (Option.some_get _).symm (by decide) (by decide) (by decide)
theorem found_map_op : findTarget barred 1 0x0B0054 = .reg ((locate barred 0x0B0054).get (by decide)).1
    ((locate barred 0x0B0054).get (by decide)).2 :=
  found_of (by decide) (Option.some_get _).symm (by decide) (by decide) (by decide)

/-! Every statement has states that meet its hypotheses -/

theorem witness_BusEventsComplete :
    (∃ (s : State) (i : Nat), (.islandResetEnd i : Instr).wf = true ∧ resetOver s i = true) ∧
    (∃ (s : State) (i : Nat) (age : FenceAge), (.fenceTimeout i age : Instr).wf = true ∧ fenceDue s i age = true) ∧
    (∃ (s : State) (i : Nat), (.orphanReply i : Instr).wf = true ∧ s.islUp i = false ∧ (sget s.isl.resetAt i).isSome =
      true ∧ s.isl.outs.find? (fun o => o.orphan && reqIsland o.req == i) = none) ∧
    (∃ (s : State) (mask addr w : Nat), (.busGrant mask addr : Instr).wf = true ∧ winner s (contestants s mask) = some
      w) ∧
    (∃ (s : State) (r t : Nat), (.backoffExpiry r : Instr).wf = true ∧ sget s.arb.backoff r = some t ∧ t ≤ s.up) ∧
    (∃ (s : State) (r addr : Nat), (.tenureCutoff r addr .burst : Instr).wf = true ∧ s.arb.owner = some r ∧ elapsed s
      s.arb.tenureStart (5 * s.regF R.CB_HOLD 0 16) = true) ∧
    (∃ (s : State) (r addr : Nat) (v : Word), (.tenureCutoff r addr (.write v) : Instr).wf = true ∧ s.arb.owner = some
      r ∧ elapsed s s.arb.tenureStart (5 * s.regF R.CB_HOLD 0 16) = true) ∧
    (∃ (s : State) (r addr : Nat), (.tenureCutoff r addr .read : Instr).wf = true ∧ s.arb.owner = some r ∧ elapsed s
      s.arb.tenureStart (5 * s.regF R.CB_HOLD 0 16) = true) ∧
    (∃ (s : State) (r addr : Nat) (v : Option Word), (.tenureCutoff r addr (.waits v) : Instr).wf = true ∧ s.arb.owner
      = some r ∧ elapsed s s.arb.tenureStart (5 * s.regF R.CB_HOLD 0 16) = true) ∧
    (∃ (s : State) (r : Nat) (q : LockSeq), (.lockHoldExpiry r : Instr).wf = true ∧ sget s.ctl.seqs r = some q ∧
      elapsed s q.acq (q.lockUs * 1000) = true) ∧
    (∃ (s : State) (i : Nat) (o : OutReq) (v : Word), (.orphanReply i : Instr).wf = true ∧ s.isl.outs.find? (fun o =>
      o.orphan && reqIsland o.req == i) = some o ∧ o.val = some v) :=
  ⟨⟨{ base with isl := { base.isl with up := 0x3FFB, resetAt := [(2, 0)] }, up := 100000 }, 2, (by decide), (by
     decide)⟩,
   ⟨{ base with up := 2000000 }, 3, ⟨some 1500000, none⟩, (by decide), (by decide)⟩,
   ⟨{ base with isl := { base.isl with up := 0x3FF7, resetAt := [(3, 0)] } }, 3, (by decide), (by decide), (by
     decide), (by decide)⟩,
   ⟨base, 3, 0x020084, 0, (by decide), (by decide)⟩,
   ⟨{ base with arb := { base.arb with backoff := [(1, 5)] }, up := 5 }, 1, 5, (by decide), (by decide), (by decide)⟩,
   ⟨{ base with arb := { base.arb with owner := some 1 }, up := 1280 }, 1, 0x020084, (by decide), (by decide), (by
     decide)⟩,
   ⟨{ base with arb := { base.arb with owner := some 1 }, up := 1280 }, 1, 0x020084, 0x54#32, (by decide), (by
     decide), (by decide)⟩,
   ⟨{ base with arb := { base.arb with owner := some 1 }, up := 1280 }, 1, 0x020084, (by decide), (by decide), (by
     decide)⟩,
   ⟨{ base with arb := { base.arb with owner := some 1 }, up := 1280 }, 1, 0x020084, none, (by decide), (by decide),
     (by decide)⟩,
   ⟨{ base with ctl := { base.ctl with seqs := [(1, ⟨0, 10, [4], []⟩)] }, up := 10000 }, 1, ⟨0, 10, [4], []⟩, (by
     decide), (by decide), (by decide)⟩,
   ⟨{ base with isl := { base.isl with up := 0x3F7F, outs := [⟨12, 2, 0x020084, some 0x54#32, 0, true⟩] } }, 7, ⟨12,
     2, 0x020084, some 0x54#32, 0, true⟩, 0x54#32, (by decide), (by decide), (by decide)⟩⟩

theorem witness_AccessPathsComplete :
    (∃ (s : State) (addr crc : Nat) (v : Word), (.hostWr addr v crc : Instr).wf = true ∧ crc = crc16 (hostHead 0x02
      addr ++ wordBytes [v]) ∧ awaited s 1 addr (some v) = true) ∧
    (∃ (s : State) (addr crc : Nat) (ws : List Word) (cut : Option Nat), (.hostWrb addr ws cut crc : Instr).wf = true
      ∧ crc = crc16 (hostHead 0x03 addr ++ beBytes 1 (ws.length - 1) ++ wordBytes ws) ∧ mayBurst s 1 = true) ∧
    (∃ (s : State) (addr crc : Nat), (.hostRd addr crc : Instr).wf = true ∧ crc = crc16 (hostHead 0x0B addr) ∧ awaited
      s 1 addr none = true) ∧
    (∃ (s : State) (addr n crc : Nat) (cut : Option Nat), (.hostRdb addr n cut crc : Instr).wf = true ∧ crc = crc16
      (hostHead 0x0C addr ++ beBytes 1 n) ∧ mayBurst s 1 = true) ∧
    (∃ (s : State) (cmd : Byte) (body : List Byte) (crc : Nat), (.hostUnknownCommand cmd body crc : Instr).wf = true) ∧
    (∃ (s : State) (addr : Nat) (ws : List Word), (.hostFrameAbort addr ws : Instr).wf = true ∧ ws ≠ [] ∧ mayBurst s 1
      = true) ∧
    (∃ (s : State) (p dst src id cmd n addr : Nat) (ws : List Word) (cut : Option Nat) (t : State), (.remoteRequest p
      dst src id cmd n addr ws cut : Instr).wf = true ∧ hbIn s p = true ∧ ryuArrive s p ⟨0x20, dst, src, id,
      remotePayload cmd n addr 0 ws⟩ = (t, true)) ∧
    (∃ (s : State) (p dst src id cmd n addr st : Nat) (ws : List Word) (t : State), (.remoteReply p dst src id cmd n
      addr st ws : Instr).wf = true ∧ hbIn s p = true ∧ ryuArrive s p ⟨0x21, dst, src, id, remotePayload cmd n addr st
      ws⟩ = (t, true)) ∧
    (∃ (s : State) (r p : Nat) (q : RaReq), (.remoteTimeout r p : Instr).wf = true ∧ sget s.hb.ras (raKey r p) = some
      q ∧ elapsed s q.sent 2000000 = true) :=
  ⟨⟨base, 0x020084, _, 0x54#32, (by decide), rfl, (by decide)⟩,
   ⟨base, 0x020084, _, [0x54#32, 0x100#32], none, (by decide), rfl, (by decide)⟩,
   ⟨base, 0x020084, _, (by decide), rfl, (by decide)⟩,
   ⟨base, 0x020084, 1, _, none, (by decide), rfl, (by decide)⟩,
   ⟨base, 0x05#8, [], 0, (by decide)⟩,
   ⟨base, 0x020084, [0x54#32], (by decide), (by decide), (by decide)⟩,
   ⟨linkedTo 0x22, 0, 255, 1, 7, 2, 0, 0x020084, [0x54#32], none, _, (by decide), (by decide), Prod.ext rfl (by
     decide)⟩,
   ⟨linkedTo 0x22, 0, 255, 1, 7, 2, 0, 0x020084, 0, [], _, (by decide), (by decide), Prod.ext rfl (by decide)⟩,
   ⟨{ base with hb := { base.hb with ras := [(2, ⟨5, 1, 0, false, false, 1⟩)] }, up := 2000000 }, 1, 0, ⟨5, 1, 0,
     false, false, 1⟩, (by decide), (by decide), (by decide)⟩⟩

theorem witness_HatrackEventsComplete :
    (∃ (s : State), s.islUp 2 = true ∧ s.htk.lastTick ≠ some (tickNow s)) ∧
    (∃ (s : State), s.islUp 2 = true ∧ s.htk.lastSlot ≠ some (s.up / 20)) ∧
    (∃ (s : State), s.islUp 2 = true) ∧
    (∃ (s : State) (f : Nat) (h : Item), (.itemExpire f : Instr).wf = true ∧ s.islUp 2 = true ∧ (s.flow f).queue.head?
      = some h ∧ ((s.flow f).state = .waiting ∨ (s.flow f).state = .ready ∨ (s.flow f).state = .reserved) ∧ headExpired
      s h = true) ∧
    (∃ (s : State) (x : Exec) (v : Svc), (.executorFault x : Instr).wf = true ∧ svcOf s x = some v ∧ (∀ e, x ≠ .engine
      e)) ∧
    (∃ (s : State) (e : Nat) (v : Svc), (.executorFault (.engine e) : Instr).wf = true ∧ svcOf s (.engine e) = some v) ∧
    (∃ (s : State) (x : Exec) (v : Svc), (.itemWatchdog x : Instr).wf = true ∧ svcOf s x = some v ∧ elapsed s v.start
      (s.regF R.HTK_WDOG 0 16 * 1000) = true ∧ (∀ e, x ≠ .engine e)) :=
  ⟨⟨base, (by decide), (by decide)⟩,
   ⟨base, (by decide), (by decide)⟩,
   ⟨base, (by decide)⟩,
   ⟨{ base with htk := { base.htk with flows := [(0, { flow0 0 with state := .ready, queue := [old] })] } }, 0, old,
     (by decide), (by decide), (by decide), (by decide), (by decide)⟩,
   ⟨serving (svc 5 .fold), .fold, svc 5 .fold, (by decide), (by decide), (by intro e h; cases h)⟩,
   ⟨serving (svc 1 (.engine 3)), 3, svc 1 (.engine 3), (by decide), (by decide)⟩,
   ⟨{ serving (svc 5 .fold) with up := 10000000000 }, .fold, svc 5 .fold, (by decide), (by decide), (by decide), (by
     intro e h; cases h)⟩⟩

theorem witness_CompletionsComplete :
    (∃ (s : State) (x : Exec) (q : Int) (v : Svc), (.itemComplete x true q : Instr).wf = true ∧ svcOf s x = some v) ∧
    (∃ (s : State) (q : Int) (v : Svc), (.itemComplete .fold false q : Instr).wf = true ∧ svcOf s .fold = some v) ∧
    (∃ (s : State) (e : Nat) (ue : Ue) (v : Svc) (t : State) (dg : Nat), (.renderComplete e ue : Instr).wf = true ∧
      svcOf s (.engine e) = some v ∧ v.item.kind = kRender ∧ renderItem s v.item v.reads ue = (t, some dg)) ∧
    (∃ (s : State) (e : Nat) (ue : Ue) (v : Svc) (t : State), (.renderComplete e ue : Instr).wf = true ∧ svcOf s
      (.engine e) = some v ∧ v.item.kind = kRender ∧ renderItem s v.item v.reads ue = (t, none)) ∧
    (∃ (s : State) (p : Nat) (v : Svc), (.pushHandoff p : Instr).wf = true ∧ svcOf s (.framer p) = some v ∧
      v.item.kind = kPush ∧ suppressed s v.item = false ∧ p < 16 ∧ v.credits ≤ (dataFrames s v.item (fClass s v.flow)
      v.credits).length) ∧
    (∃ (s : State) (e : Nat) (v : Svc), (.checkComplete e : Instr).wf = true ∧ svcOf s (.engine e) = some v ∧
      v.item.kind = kCheck) ∧
    (∃ (s : State) (e : Nat) (v : Svc), (.ingestFixComplete e : Instr).wf = true ∧ svcOf s (.engine e) = some v ∧
      v.item.kind = kIngest) ∧
    (∃ (s : State) (v : Svc), svcOf s .fold = some v) ∧
    (∃ (s : State) (v : Svc), svcOf s .cal = some v) ∧
    (∃ (s : State) (r : Int) (v : Svc), svcOf s .cal = some v ∧ v ∉ s.htk.orphans ∧ v.item.f 6 8 2 = 0 ∧ qtyMeasurable
      s (v.item.f 6 0 8) true = true ∧ ((completeItem s v).qty (v.item.f 6 0 8)).state = 1) ∧
    (∃ (s : State) (r : Int) (v : Svc), svcOf s .cal = some v ∧ v ∉ s.htk.orphans ∧ v.item.f 6 8 2 = 1 ∧ qtyMeasurable
      s (v.item.f 6 0 8) true = true ∧ ((completeItem s v).qty (v.item.f 6 0 8)).state = 2) ∧
    (∃ (s : State) (r : Int) (v : Svc), svcOf s .cal = some v ∧ v ∉ s.htk.orphans ∧ v.item.f 6 8 2 = 2 ∧
      ((completeItem s v).qty (v.item.f 6 0 8)).state = 3) ∧
    (∃ (s : State) (p : Nat) (v : Svc), (.nodePoll p : Instr).wf = true ∧ svcOf s (.framer p) = some v ∧ v.item.kind =
      kPoll ∧ suppressed s v.item = false ∧ v.item.f 6 24 4 ≠ 3) ∧
    (∃ (s : State) (p : Nat) (v : Svc), (.nodePoll p : Instr).wf = true ∧ svcOf s (.framer p) = some v ∧ v.item.kind =
      kPoll ∧ suppressed s v.item = false ∧ v.item.f 6 24 4 = 3 ∧ v.item.f 6 12 12 = 4095) ∧
    (∃ (s : State) (v : Svc), s.arb.waiting.testBit 5 = false ∧ svcOf s .cue = some v ∧ s.entF tTDMQ (v.item.f 6 0 12)
      0 0 1 = 0) ∧
    (∃ (s : State) (v : Svc) (t : State), s.arb.waiting.testBit 5 = false ∧ svcOf s .cue = some v ∧ s.entF tTDMQ
      (v.item.f 6 0 12) 0 0 1 = 1 ∧ s.entF tTDMQ (v.item.f 6 0 12) 0 1 1 = 0 ∧ cueWrites s (cueActions s (v.item.f 6 0
      12)) = (t, true)) ∧
    (∃ (s : State) (v : Svc) (t : State), s.arb.waiting.testBit 5 = false ∧ svcOf s .cue = some v ∧ s.entF tTDMQ
      (v.item.f 6 0 12) 0 0 1 = 1 ∧ s.entF tTDMQ (v.item.f 6 0 12) 0 1 1 = 1 ∧ cueLocked s (cueActions s (v.item.f 6 0
      12)) = (t, true)) ∧
    (∃ (s : State) (v : Svc) (t : State), s.arb.waiting.testBit 5 = false ∧ svcOf s .cue = some v ∧ s.entF tTDMQ
      (v.item.f 6 0 12) 0 0 1 = 1 ∧ s.entF tTDMQ (v.item.f 6 0 12) 0 1 1 = 0 ∧ cueWrites s (cueActions s (v.item.f 6 0
      12)) = (t, false)) ∧
    (∃ (s : State) (e crc : Nat) (v : Svc), (.testComplete e crc : Instr).wf = true ∧ svcOf s (.engine e) = some v) :=
  ⟨⟨serving (svc 5 .fold), .fold, 0, svc 5 .fold, (by decide), (by decide)⟩,
   ⟨serving (svc 5 .fold), 0, svc 5 .fold, (by decide), (by decide)⟩,
   ⟨serving (svc 1 (.engine 3)), 3, noUe, svc 1 (.engine 3), _, 0, (by decide), (by decide), (by decide), Prod.ext rfl
     (by decide)⟩,
   ⟨serving farRun, 3, noUe, farRun, _, (by decide), (by decide), (by decide), Prod.ext rfl (by decide)⟩,
   ⟨serving (svc 2 (.framer 3)), 3, svc 2 (.framer 3), (by decide), (by decide), (by decide), (by decide), (by
     decide), (by decide)⟩,
   ⟨serving (svc 3 (.engine 3)), 3, svc 3 (.engine 3), (by decide), (by decide), (by decide)⟩,
   ⟨serving (svc 4 (.engine 3)), 3, svc 4 (.engine 3), (by decide), (by decide), (by decide)⟩,
   ⟨serving (svc 5 .fold), svc 5 .fold, (by decide)⟩,
   ⟨serving (svc 7 .cal), svc 7 .cal, (by decide)⟩,
   ⟨(serving (svc 7 .cal)).setQty 0 { qty0 with state := 1 }, 5, svc 7 .cal, (by decide), (by decide), (by decide),
     (by decide), (by decide)⟩,
   ⟨(serving (svc6 7 0x100 .cal)).setQty 0 { qty0 with state := 2 }, 5, svc6 7 0x100 .cal, (by decide), (by decide),
     (by decide), (by decide), (by decide)⟩,
   ⟨(serving (svc6 7 0x200 .cal)).setQty 0 { qty0 with state := 3 }, 5, svc6 7 0x200 .cal, (by decide), (by decide),
     (by decide), (by decide)⟩,
   ⟨serving (svc 8 (.framer 3)), 3, svc 8 (.framer 3), (by decide), (by decide), (by decide), (by decide), (by
     decide)⟩,
   ⟨serving (svc6 8 0x3FFF000 (.framer 3)), 3, svc6 8 0x3FFF000 (.framer 3), (by decide), (by decide), (by decide),
     (by decide), (by decide), (by decide)⟩,
   ⟨serving (svc 9 .cue), svc 9 .cue, (by decide), (by decide), (by decide)⟩,
   ⟨cueing 1#32, svc 9 .cue, _, (by decide), (by decide), (by decide), (by decide), Prod.ext rfl (by decide)⟩,
   ⟨cueing 3#32, svc 9 .cue, _, (by decide), (by decide), (by decide), (by decide), Prod.ext rfl (by decide)⟩,
   ⟨cueing 0x101#32, svc 9 .cue, (cueWrites (cueing 0x101#32) (cueActions (cueing 0x101#32) 0)).1, (by decide), (by
     decide), (by decide), (by decide), Prod.ext rfl (by decide)⟩,
   ⟨serving (svc 10 (.engine 3)), 3, 0, svc 10 (.engine 3), (by decide), (by decide)⟩⟩

theorem witness_IngestEventsComplete :
    (∃ (s : State) (u len : Nat) (m : List Byte) (t : State) (id : Nat), (.perferInRegion u len m : Instr).wf = true ∧
      parserOn s R.LAY_PIN u = true ∧ regionOk s m = true ∧ (slotAt s (beAt m 2 1) (beAt m 3 1)).st = 1 ∧ poolTake s u
      len = some (t, id)) ∧
    (∃ (s : State) (u len : Nat) (m : List Byte) (t : State) (id : Nat), (.perferInCommit u len m : Instr).wf = true ∧
      parserOn s R.LAY_PIN u = true ∧ commitOk s m = true ∧ poolTake s u len = some (t, id)) ∧
    (∃ (s : State) (n len ssrc seq ts : Nat) (mk : Bool) (rs : List Srd) (v : VFrame), (.st2110Packet n len ssrc seq
      ts mk rs : Instr).wf = true ∧ (s.en 0x08 && s.en 0x09 && s.islUp 4 && s.regB (R.LAY_SCTL n) 0) = true ∧ srdsOk
      (s.regF (R.LAY_SCTL n) 10 2) (s.regF (R.LAY_SCTL n) 12 2) (layW s (s.regF (R.LAY_SCTL n) 2 8)) (layH s (s.regF
      (R.LAY_SCTL n) 2 8)) rs = true ∧ (s.stream n).ssrc = some ssrc ∧ (s.stream n).cur = some v ∧ v.ts = ts ∧ frameBufs
      len ≤ poolFree s (s.regF (R.LAY_SCTL n) 1 1)) ∧
    (∃ (s : State) (u len univ cid prio seq start : Nat) (dest : Option Nat) (preview term : Bool) (slots : List Byte)
      (v : State), (.e131Data u ⟨len, dest⟩ univ cid prio seq preview term start slots : Instr).wf = true ∧ v =
      ((univEntries s).filter fun e => univNum s e == univ).foldl e131SourceTimeout s ∧ (v.en 0x08 && v.en 0x09 &&
      v.islUp 4 && v.regB R.LAY_E131CTL u) = true ∧ e131Dest v dest = true ∧ (univEntries v).find? (fun e => univNum v e
      == univ) = none) ∧
    (∃ (s : State) (u len univ cid prio seq e id : Nat) (dest : Option Nat) (slots : List Byte) (v t : State),
      (.e131Data u ⟨len, dest⟩ univ cid prio seq false false 0 slots : Instr).wf = true ∧ v = ((univEntries s).filter
      fun e => univNum s e == univ).foldl e131SourceTimeout s ∧ (v.en 0x08 && v.en 0x09 && v.islUp 4 && v.regB
      R.LAY_E131CTL u) = true ∧ e131Dest v dest = true ∧ (univEntries v).find? (fun e => univNum v e == univ) = some e ∧
      (univSrcs v e).seen = [] ∧ poolTake v u len = some (t, id) ∧ (univSrcs (sourceTaken v t u id e cid prio seq)
      e).taken = some cid ∧ (sourceTaken v t u id e cid prio seq).entF tLAYU e 3 0 16 = 0) ∧
    (∃ (s : State) (u len a id : Nat) (t : State), (.e131Sync u ⟨len, a⟩ : Instr).wf = true ∧ (s.en 0x08 && s.en 0x09
      && s.islUp 4 && s.regB R.LAY_E131CTL u) = true ∧ a ≠ 0 ∧ poolTake s u len = some (t, id)) ∧
    (∃ (s : State) (u n : Nat) (o : OpenItem), (.ingestItemClose u n : Instr).wf = true ∧ openOf s u n = some o ∧
      elapsed s o.since 20000 = true) ∧
    (∃ (s : State) (n : Nat), (.streamLoss n : Instr).wf = true ∧ (s.stream n).live = true ∧ elapsed s (s.stream
      n).lastPkt (3 * 1000000000 * (streamRate s n).2 / (streamRate s n).1) = true) ∧
    (∃ (s : State) (e : Nat), (.e131SourceTimeout e : Instr).wf = true ∧ (univSrcs s e).seen.any (fun y => elapsed s
      y.last 2500000000 && (univSrcs s e).taken == some y.cid) = true) ∧
    (∃ (s : State) (a : Nat) (y : SyncRt), (.e131SyncTimeout a : Instr).wf = true ∧ sget s.ing.syncs a = some y ∧
      y.lost = false ∧ elapsed s y.last 2500000000 = true) ∧
    (∃ (s : State) (d prep kEnd : Nat), (.e131Scatter d : Instr).wf = true ∧ s.islUp 4 = true ∧ (s.dom d).running =
      true ∧ prep = s.regF R.LAY_E131CTL 16 13 * 1000 ∧ kEnd = (latchFrom s d (nowNs s + prep + 1)).k) :=
  ⟨⟨setSlot perferIn 0 0 ⟨1, 0, false⟩, 0, 100, regionMsg, _, _, (by decide), (by decide), (by decide), (by decide),
     (Option.some_get (by decide)).symm⟩,
   ⟨perferIn, 0, 100, commitMsg, _, _, (by decide), (by decide), (by decide), (Option.some_get (by decide)).symm⟩,
   ⟨{ streaming with ing := { streaming.ing with streams := [(0, { stream0 with ssrc := some 9, live := true, cur := some ⟨5, 0, 0, 0, 0⟩ })] } },
     0, 100, 9, 0, 5, false, [⟨false, 0, 0, [1#8, 2#8, 3#8]⟩], ⟨5, 0, 0, 0, 0⟩, (by decide), (by decide), (by decide),
     (by decide), (by decide), (by decide), (by decide)⟩,
   ⟨e131, 0, 100, 7, 1, 100, 0, 0, none, false, false, [], _, (by decide), rfl, (by decide), (by decide), (by decide)⟩,
   ⟨e131.setEnt tLAYU 4 [7#32, 0#32, 0x10001#32, 0#32], 0, 100, 7, 1, 100, 0, 4, _, none, [], _, _, (by decide), rfl,
     (by decide), (by decide), (by decide), (by decide), (Option.some_get (by decide)).symm, (by decide), (by decide)⟩,
   ⟨e131, 0, 100, 5, _, _, (by decide), (by decide), (by decide), (Option.some_get (by decide)).symm⟩,
   ⟨{ base with ing := { base.ing with open_ := [⟨0, 5, 0, 1, 0, 0⟩] }, up := 20000 }, 0, 5, ⟨0, 5, 0, 1, 0, 0⟩, (by
     decide), (by decide), (by decide)⟩,
   ⟨{ base with ing := { base.ing with streams := [(0, { stream0 with live := true })] }, up := 1000000000 }, 0, (by
     decide), (by decide), (by decide)⟩,
   ⟨{ base with ing := { base.ing with srcs := [(4, ⟨[⟨1, 100, 0, 0⟩], some 1⟩)] }, up := 2500000000 }, 4, (by
     decide), (by decide)⟩,
   ⟨{ base with ing := { base.ing with syncs := [(5, ⟨0, false⟩)] }, up := 2500000000 }, 5, ⟨0, false⟩, (by decide),
     (by decide), (by decide), (by decide)⟩,
   ⟨running, 0, _, _, (by decide), (by decide), (by decide), rfl, rfl⟩⟩

theorem witness_PresentationEventsComplete :
    (∃ (s : State) (d : Nat) (e : EpochPt) (br : Bool) (v : State), (.latchPoint d : Instr).wf = true ∧ v = handover s
      ∧ v.pair.role ≠ .standby ∧ v.pair.role ≠ .active ∧ dueEpoch v d (nowNs v) = some (e, br)) ∧
    (∃ (s : State) (d : Nat) (e : EpochPt) (br : Bool) (v t : State), (.latchPoint d : Instr).wf = true ∧ v = handover
      s ∧ v.pair.role = .active ∧ dueEpoch v d (nowNs v) = some (e, br) ∧ t = processLatch v d e br (fun u => applySets
      u d e.k e.l)) ∧
    (∃ (s : State) (p node first n k crc fe : Nat), (.echoRep p node first n k crc fe : Instr).wf = true ∧ nodeIn s p
      fe = true) ∧
    (∃ (s : State) (n : Nat) (w : EchoWait), (.echoTimeout n : Instr).wf = true ∧ (s.chk n).echoes.find? (fun w =>
      decide (w.limit ≤ now32 s)) = some w) :=
  ⟨⟨running, 0, _, _, _, (by decide), rfl, (by decide), (by decide), (Option.some_get (by decide)).symm⟩,
   ⟨{ running with pair := { running.pair with role := .active } }, 0, _, _, _, _, (by decide), rfl, (by decide),
     (Option.some_get (by decide)).symm, rfl⟩,
   ⟨linkedTo 0x12, 0, 0, 0, 0, 0, 0, 0, (by decide), (by decide)⟩,
   ⟨base.setChk 0 { chk0 with echoes := [⟨0, 0, 0, 0, 0, 0, 0⟩] }, 0, ⟨0, 0, 0, 0, 0, 0, 0⟩, (by decide), (by decide)⟩⟩

theorem witness_PushAndMacEventsComplete :
    (∃ (s : State) (pg : Nat) (med : Medium) (f : MacFrame), (.frameTxStart ⟨pg, med⟩ : Instr).wf = true ∧ txBusy s pg
      = false ∧ linkUp s pg = true ∧ s.en pg = true ∧ (s.mac pg).backoff = none ∧ ((isBus pg = false ∨ gapOver s med =
      true)) ∧ firstPri s pg 0 = some f ∧ calIndex pg = none) ∧
    (∃ (s : State) (pg k : Nat) (med : Medium) (f : MacFrame) (t : State), (.frameTxStart ⟨pg, med⟩ : Instr).wf = true
      ∧ txBusy s pg = false ∧ linkUp s pg = true ∧ s.en pg = true ∧ (s.mac pg).backoff = none ∧ isBus pg = false ∧
      firstPri s pg 0 = some f ∧ calIndex pg = some k ∧ t = beginMacFrame s pg f ∧ txBusy t pg = true) ∧
    (∃ (s : State) (pg : Nat), (.frameTxEnd pg : Instr).wf = true ∧ txBusy s pg = true) ∧
    (∃ (s : State) (p node seq kd nf fh ls ser mac fe : Nat), (.pollRep p node seq ⟨kd, nf⟩ fh ls ser mac fe :
      Instr).wf = true ∧ nodeIn s p fe = true) ∧
    (∃ (s : State) (p ser addr mac fe : Nat), (.enumRep p ser addr mac fe : Instr).wf = true ∧ nodeIn s p fe = true ∧
      (replyFence s p fe).pair.role ≠ .standby) ∧
    (∃ (s : State) (p ser addr fe : Nat), (.assignAck p ser addr fe : Instr).wf = true ∧ nodeIn s p fe = true ∧
      (replyFence s p fe).pair.role ≠ .standby) ∧
    (∃ (s : State) (p : Nat) (a : AssignWait), (.assignTimeout p : Instr).wf = true ∧ (s.port p).assigns.find? (fun a
      => elapsed s a.left 10000000) = some a) ∧
    (∃ (s : State) (p : Nat) (w : PollWait), (.pollTimeout p : Instr).wf = true ∧ (s.port p).polls.find? (fun w =>
      elapsed s w.sent (w.timeout * 1000)) = some w ∧ w.node = 4095) ∧
    (∃ (s : State) (p : Nat) (w : PollWait) (t : State), (.pollTimeout p : Instr).wf = true ∧ (s.port p).polls.find?
      (fun w => elapsed s w.sent (w.timeout * 1000)) = some w ∧ w.node ≠ 4095 ∧ t = (s.setPort p
      { s.port p with polls := (s.port p).polls.erase w }).count (R.PP_NOREPLY p) 0 32 1 ∧ (t.node p w.node).misses ≠ 2) ∧
    (∃ (s : State) (p : Nat) (w : PollWait) (t : State), (.pollTimeout p : Instr).wf = true ∧ (s.port p).polls.find?
      (fun w => elapsed s w.sent (w.timeout * 1000)) = some w ∧ w.node ≠ 4095 ∧ t = (s.setPort p
      { s.port p with polls := (s.port p).polls.erase w }).count (R.PP_NOREPLY p) 0 32 1 ∧ (t.node p w.node).misses = 2) ∧
    (∃ (s : State) (p t : Nat), (.enumDone p : Instr).wf = true ∧ (s.port p).enumDue.find? (fun t => decide (t ≤
      s.up)) = some t) ∧
    (∃ (s : State) (pg : Nat) (f : RxFrame), (.frameReceive pg f : Instr).wf = true ∧ linkUp s pg = true ∧ f.len < 64) ∧
    (∃ (s : State) (pg : Nat) (f : RxFrame) (t : State), (.frameReceive pg f : Instr).wf = true ∧ linkUp s pg = true ∧
      rxOuter (ringReturn (rxStamp s pg f) pg f.back) pg f = (t, true) ∧ isRyu s pg f.bytes = false) ∧
    (∃ (s : State) (pg q : Nat), (.pauseReceive pg q : Instr).wf = true ∧ linkUp s pg = true ∧ isBus pg = false ∧
      s.regB (R.MAC_PAUSE pg) 0 = true ∧ txBusy s pg = false ∧ s.regF (R.MAC_CFG pg) 14 2 = 0) ∧
    (∃ (s : State) (pg : Nat) (h : Hold), (.pauseHoldEnd pg : Instr).wf = true ∧ (s.mac pg).hold = some h ∧ h.until_ ≤
      s.up) ∧
    (∃ (s : State) (pg : Nat) (h : Hold), (.pauseLong pg : Instr).wf = true ∧ (s.mac pg).hold = some h ∧ h.long =
      false ∧ s.regF (R.MAC_PAUSE pg) 16 16 ≠ 0 ∧ s.regF (R.MAC_PAUSE pg) 16 16 * 1000 ≤ min s.up h.until_ - h.start) ∧
    (∃ (s : State) (pg : Nat), (.pauseRepeat pg : Instr).wf = true ∧ (s.mac pg).pausing = true ∧ s.regB (R.MAC_PAUSE
      pg) 1 = true ∧ elapsed s (s.mac pg).pauseAt 500000 = true ∧ poolFree s (pg - 0x10) < 2 * pauseX s (pg - 0x10)) ∧
    (∃ (s : State) (pg : Nat), (.busCollision pg : Instr).wf = true ∧ isBus pg = true ∧ txBusy s pg = true ∧ s.up -
      (s.mac pg).txAt ≤ 51200 ∧ (s.mac pg).backoff = none ∧ ((s.count (R.MAC_COLL pg) 0 32 1).mac pg).tries + 1 < 16) ∧
    (∃ (s : State) (pg : Nat), (.busCollision pg : Instr).wf = true ∧ isBus pg = true ∧ txBusy s pg = true ∧ s.up -
      (s.mac pg).txAt ≤ 51200 ∧ (s.mac pg).backoff = none ∧ 16 ≤ ((s.count (R.MAC_COLL pg) 0 32 1).mac pg).tries + 1) ∧
    (∃ (s : State) (pg : Nat), (.lateCollision pg : Instr).wf = true ∧ isBus pg = true ∧ txBusy s pg = true ∧ 51200 <
      s.up - (s.mac pg).txAt ∧ (s.mac pg).backoff = none) ∧
    (∃ (s : State) (pg t : Nat) (med : Medium), (.busBackoffEnd ⟨pg, med⟩ : Instr).wf = true ∧ (s.mac pg).backoff =
      some t ∧ t ≤ s.up ∧ gapOver s med = true) ∧
    (∃ (s : State) (pg : Nat) (d : PageD), (.linkUp pg : Instr).wf = true ∧ findPage pg = some d ∧ s.islUp d.isl =
      true) ∧
    (∃ (s : State) (pg : Nat), (.linkDown pg : Instr).wf = true ∧ pg ≠ 0x10 ∧ pg ≠ 0x11) ∧
    (∃ (s : State) (pg : Nat), (.linkDown pg : Instr).wf = true ∧ (pg = 0x10 ∨ pg = 0x11) ∧ (s.mac pg).link = true) ∧
    (∃ (s : State) (pg : Nat) (a b : List Byte) (d : PageD), (.sfpInsert pg a b : Instr).wf = true ∧ findPage pg =
      some d ∧ s.islUp d.isl = true ∧ (s.mac pg).sfp = false) ∧
    (∃ (s : State) (pg : Nat) (d : PageD), (.sfpRemove pg : Instr).wf = true ∧ findPage pg = some d ∧ s.islUp d.isl =
      true ∧ (s.mac pg).sfp = true) ∧
    (∃ (s : State) (pg : Nat) (b : List Byte) (d : PageD), (.sfpDiagRefresh pg b : Instr).wf = true ∧ findPage pg =
      some d ∧ s.islUp d.isl = true ∧ (s.mac pg).sfp = true ∧ (s.mac pg).diag = true) ∧
    (∃ (s : State) (pg : Nat) (los : Bool) (d : PageD), (.txFault pg true los : Instr).wf = true ∧ findPage pg = some
      d ∧ s.islUp d.isl = true ∧ hasCage pg = true ∧ (s.mac pg).txFault = false) ∧
    (∃ (s : State) (p peer : Nat), (.sakRekey p peer : Instr).wf = true ∧ s.islUp 12 = true ∧ (s.mac (secPage p)).txSa
      = none ∧ secState s p ≠ 2) ∧
    (∃ (s : State) (p peer : Nat) (a : SaTx) (t : State), (.sakRekey p peer : Instr).wf = true ∧ s.islUp 12 = true ∧
      (s.mac (secPage p)).txSa = some a ∧ s.regF (R.SEC_CFG p) 8 8 ≤ peer ∧ (if (s.mac (secPage p)).xpn then
      0xC000000000000000 else 0xC0000000) ≤ a.pn ∧ t = s.setRegB (R.SEC_STAT p) 3 true ∧ secState s p = 3) ∧
    (∃ (s : State) (p peer last : Nat) (a : SaTx) (t : State), (.sakRekey p peer : Instr).wf = true ∧ s.islUp 12 =
      true ∧ (s.mac (secPage p)).txSa = some a ∧ s.regF (R.SEC_CFG p) 8 8 ≤ peer ∧ s.regF (R.SEC_CFG p) 16 16 ≠ 0 ∧ sget
      s.gnt.rekey p = some last ∧ elapsed s last (s.regF (R.SEC_CFG p) 16 16 * 1000000000) = true ∧ t = s.setRegB
      (R.SEC_STAT p) 3 true ∧ secState s p = 3) ∧
    (∃ (s : State) (p peer : Nat) (t : State), (.sakRekey p peer : Instr).wf = true ∧ s.islUp 12 = true ∧ (s.mac
      (secPage p)).txSa = none ∧ s.regF (R.SEC_CFG p) 8 8 ≤ peer ∧ secState s p = 2 ∧ t = s.setRegB (R.SEC_STAT p) 3
      true) :=
  ⟨⟨{ base.setMac 0x1A { mac0 with link := true, txq := [⟨0, [], none⟩] } with up := 10000 }, 0x1A, quiet, ⟨0, [],
     none⟩, (by decide), (by decide), (by decide), (by decide), (by decide), (by decide), (by decide), (by decide)⟩,
   ⟨base.setMac 0x18 { mac0 with link := true, txq := [⟨0, [], none⟩] }, 0x18, 8, quiet, ⟨0, [], none⟩, _, (by
     decide), (by decide), (by decide), (by decide), (by decide), (by decide), (by decide), (by decide), rfl, (by
     decide)⟩,
   ⟨{ base with macs := [(0x10, { mac0 with tx := some ⟨0, [], none⟩ })] }, 0x10, (by decide), (by decide)⟩,
   ⟨linkedTo 0x12, 0, 0, 0, 0, 0, 0, 0, 0, 0, 0, (by decide), (by decide)⟩,
   ⟨linkedTo 0x12, 0, 0, 0, 0, 0, (by decide), (by decide), (by decide)⟩,
   ⟨linkedTo 0x12, 0, 0, 0, 0, (by decide), (by decide), (by decide)⟩,
   ⟨{ base.setPort 0 { port0 with assigns := [⟨1, 2, 0⟩] } with up := 10000000 }, 0, ⟨1, 2, 0⟩, (by decide), (by
     decide)⟩,
   ⟨{ base.setPort 0 { port0 with polls := [⟨4095, 0, 0, 0, 5⟩] } with up := 5000 }, 0, ⟨4095, 0, 0, 0, 5⟩, (by
     decide), (by decide), (by decide)⟩,
   ⟨{ base.setPort 0 { port0 with polls := [⟨1, 0, 0, 0, 5⟩] } with up := 5000 }, 0, ⟨1, 0, 0, 0, 5⟩, _, (by decide),
     (by decide), (by decide), rfl, (by decide)⟩,
   ⟨{ (base.setPort 0 { port0 with polls := [⟨1, 0, 0, 0, 5⟩] }).setNode 0 1 { base.node 0 1 with misses := 2 } with up := 5000 },
     0, ⟨1, 0, 0, 0, 5⟩, _, (by decide), (by decide), (by decide), rfl, (by decide)⟩,
   ⟨base.setPort 0 { port0 with enumDue := [0] }, 0, 0, (by decide), (by decide)⟩,
   ⟨linkedTo 0x10, 0x10, ⟨[], 60, true, none, false, false, 0, 0⟩, (by decide), (by decide), (by decide)⟩,
   ⟨linkedTo 0x10, 0x10, ⟨List.replicate 6 0xFF#8 ++ List.replicate 58 0#8, 64, true, none, false, false, 0, 0⟩, _,
     (by decide), (by decide), Prod.ext rfl (by decide), (by decide)⟩,
   ⟨(linkedTo 0x10).setReg (R.MAC_PAUSE 0x10) 1#32, 0x10, 5, (by decide), (by decide), (by decide), (by decide), (by
     decide), (by decide)⟩,
   ⟨base.setMac 0x10 { mac0 with hold := some ⟨0, 0, 0, false⟩ }, 0x10, ⟨0, 0, 0, false⟩, (by decide), (by decide),
     (by decide)⟩,
   ⟨{ (base.setReg (R.MAC_PAUSE 0x10) 0x00010000#32).setMac 0x10 { mac0 with hold := some ⟨0, 0, 5000, false⟩ } with up := 1000 },
     0x10, ⟨0, 0, 5000, false⟩, (by decide), (by decide), (by decide), (by decide), (by decide)⟩,
   ⟨{ ((base.setReg (R.MAC_PAUSE 0x10) 0x142#32).setReg (R.FST_RXCFG 0) 64#32).setMac 0x10 { mac0 with pausing := true } with ing := { base.ing with pools := [(0, ⟨[⟨0, 1, false⟩], 1⟩)] }, up := 500000 },
     0x10, (by decide), (by decide), (by decide), (by decide), (by decide)⟩,
   ⟨base.setMac 0x1A { mac0 with tx := some ⟨0, [], none⟩ }, 0x1A, (by decide), (by decide), (by decide), (by decide),
     (by decide), (by decide)⟩,
   ⟨base.setMac 0x1A { mac0 with tx := some ⟨0, [], none⟩, tries := 15 }, 0x1A, (by decide), (by decide), (by decide),
     (by decide), (by decide), (by decide)⟩,
   ⟨{ base.setMac 0x1A { mac0 with tx := some ⟨0, [], none⟩ } with up := 51201 }, 0x1A, (by decide), (by decide), (by
     decide), (by decide), (by decide)⟩,
   ⟨{ base.setMac 0x1A { mac0 with backoff := some 0 } with up := 10000 }, 0x1A, 0, quiet, (by decide), (by decide),
     (by decide), (by decide)⟩,
   ⟨base, 0x10, _, (by decide), (Option.some_get (by decide)).symm, (by decide)⟩,
   ⟨base, 0x12, (by decide), (by decide), (by decide)⟩,
   ⟨linkedTo 0x10, 0x10, (by decide), (by decide), (by decide)⟩,
   ⟨base, 0x10, List.replicate 256 0#8, List.replicate 256 0#8, _, (by decide), (Option.some_get (by decide)).symm,
     (by decide), (by decide)⟩,
   ⟨base.setMac 0x10 { mac0 with sfp := true }, 0x10, _, (by decide), (Option.some_get (by decide)).symm, (by decide),
     (by decide)⟩,
   ⟨base.setMac 0x10 { mac0 with sfp := true, diag := true }, 0x10, List.replicate 256 0#8, _, (by decide),
     (Option.some_get (by decide)).symm, (by decide), (by decide), (by decide)⟩,
   ⟨base, 0x10, false, _, (by decide), (Option.some_get (by decide)).symm, (by decide), (by decide), (by decide)⟩,
   ⟨base, 0, 0, (by decide), (by decide), (by decide), (by decide)⟩,
   ⟨secured 0xC0000000, 0, 255, ⟨0, 0xC0000000, 0⟩, _, (by decide), (by decide), (by decide), (by decide), (by
     decide), rfl, (by decide)⟩,
   ⟨{ (secured 0).setReg (R.SEC_CFG 0) 0x10000#32 with gnt := { (secured 0).gnt with rekey := [(0, 0)] }, up := 1000000000 },
     0, 255, 0, ⟨0, 0, 0⟩, _, (by decide), (by decide), (by decide), (by decide), (by decide), (by decide), (by decide),
     rfl, (by decide)⟩,
   ⟨{ base with gnt := { base.gnt with slots := [(4, List.replicate 96 1#8)] } }.setReg (R.MAC_SEC 0x10) 1#32, 0, 255,
     _, (by decide), (by decide), (by decide), (by decide), (by decide), rfl⟩⟩

theorem witness_DriveEventsComplete :
    (∃ (s : State) (v : Svc), svcOf s (.framer 16) = some v ∧ s.islUp 3 = false) ∧
    (∃ (s : State) (v : Svc), svcOf s (.framer 16) = some v ∧ s.islUp 3 = true) ∧
    (∃ (s : State) (i : Nat × SMap Nat), driveUp s = true ∧ dueImage s (now32 s) = some i) ∧
    (∃ (s : State) (m : DrvMeas) (e : EpochPt), (.drivePresentation m : Instr).wf = true ∧ driveUp s = true ∧ (s.dom
      (drvDom s)).cur = some e ∧ (s.dom (drvDom s)).running = true ∧ e.p ≤ nowNs s ∧ s.drv.p ≠ some e.p) ∧
    (∃ (s : State) (n vr vs im tk : Nat), (.stringMeasurement n vr vs im tk : Instr).wf = true ∧ driveUp s = true ∧
      (strOn s n && s.drv.dark == 0) = true ∧ tk < 500 ∧ 30 ≤ vs) ∧
    (∃ (s : State) (n vr vs im tk : Nat) (m : State), (.stringMeasurement n vr vs im tk : Instr).wf = true ∧ driveUp s
      = true ∧ (strOn s n && s.drv.dark == 0) = true ∧ 500 ≤ tk ∧ 30 ≤ vs ∧ m = ((railMove s).setRegF (R.DRV_RAILS (n /
      16)) 16 14 (railSense s (n / 16) vr)).setStr n { s.str n with imeas := refCurrent s 0x34 im }) ∧
    (∃ (s : State) (n vr vs im tk : Nat) (m : State), (.stringMeasurement n vr vs im tk : Instr).wf = true ∧ driveUp s
      = true ∧ (strOn s n && s.drv.dark == 0) = true ∧ tk < 500 ∧ vs < 30 ∧ refCurrent s 0x34 im * 100 * 256 < 95 *
      (s.str n).iset * factor s ∧ m = ((railMove s).setRegF (R.DRV_RAILS (n / 16)) 16 14 (railSense s (n / 16)
      vr)).setStr n { s.str n with imeas := refCurrent s 0x34 im }) ∧
    (∃ (s : State) (n : Nat) (short : Bool), (.stringFault n short : Instr).wf = true ∧ driveUp s = true ∧ (s.str
      n).fault = 0) ∧
    (∃ (s : State) (r : Nat), (.railFault r : Instr).wf = true ∧ driveUp s = true ∧ (s.rail r).fault = false) ∧
    (∃ (s : State) (p : Nat), (.mxFrameLatch p : Instr).wf = true ∧ driveUp s = true ∧ (s.mxp p).scanning = true ∧
      mxLatch s p ≤ nowNs s) ∧
    (∃ (s : State) (p t : Nat), (.mxFrameCut p : Instr).wf = true ∧ driveUp s = true ∧ (s.mxp p).scanning = true ∧
      (s.mxp p).clamped = true ∧ s.drv.p = some t ∧ s.drv.next ≤ nowNs s ∧ s.drv.next < (s.mxp p).start + 32 * (s.mxp
      p).pass) ∧
    (∃ (s : State) (p k : Nat) (short : Bool), (.mxColumnFault p k short : Instr).wf = true ∧ driveUp s = true ∧
      (s.mxp p).scanning = true) ∧
    (∃ (s : State) (p l : Nat), (.mxLineShort p l : Instr).wf = true ∧ driveUp s = true) ∧
    (∃ (s : State), driveUp s = true) :=
  ⟨⟨{ serving (svc 2 (.framer 16)) with isl := { base.isl with up := 0x3FF7 } }, svc 2 (.framer 16), (by decide), (by
     decide)⟩,
   ⟨serving (svc 2 (.framer 16)), svc 2 (.framer 16), (by decide), (by decide)⟩,
   ⟨{ base with drv := { base.drv with img := [(0, [])] } }, (0, []), (by decide), (by decide)⟩,
   ⟨running, ⟨[(0, 0, 0), (0, 0, 0), (0, 0, 0), (0, 0, 0)], 0, 0⟩, ⟨0, 0, 0, 0⟩, (by decide), (by decide), (by
     decide), (by decide), (by decide), (by decide)⟩,
   ⟨((base.setEnt tSTR 0 [0x6401#32, 0#32, 0#32]).setStr 0 { str0 with word := 5 }) |> fun s =>
     { s with drv := { s.drv with dark := 0 } }, 0, 0, 30, 0, 0, (by decide), (by decide), (by decide), (by decide), (by
     decide)⟩,
   ⟨((base.setEnt tSTR 0 [0x6401#32, 0#32, 0#32]).setStr 0 { str0 with word := 5 }) |> fun s =>
     { s with drv := { s.drv with dark := 0 } }, 0, 0, 30, 0, 500, _, (by decide), (by decide), (by decide), (by
     decide), (by decide), rfl⟩,
   ⟨((base.setEnt tSTR 0 [0x6401#32, 0#32, 0#32]).setStr 0 { str0 with word := 5, iset := 100 }) |> fun s =>
     { s with drv := { s.drv with dark := 0 } }, 0, 0, 0, 0, 0, _, (by decide), (by decide), (by decide), (by decide),
     (by decide), (by decide), rfl⟩,
   ⟨base, 0, true, (by decide), (by decide), (by decide)⟩,
   ⟨base, 0, (by decide), (by decide), (by decide)⟩,
   ⟨scan, 0, (by decide), (by decide), (by decide), (by decide)⟩,
   ⟨{ scan with drv := { scan.drv with p := some 0, mx := [{ mx0 with scanning := true, clamped := true, pass := 10 }, mx0] } },
     0, 0, (by decide), (by decide), (by decide), (by decide), (by decide), (by decide), (by decide)⟩,
   ⟨scan, 0, 0, true, (by decide), (by decide), (by decide)⟩,
   ⟨base, 0, 0, (by decide), (by decide)⟩,
   ⟨base, (by decide)⟩⟩

theorem witness_MeterEventsComplete :
    (∃ (s : State) (x : MtrSample), (.meterQuantum x : Instr).wf = true ∧ s.islUp 10 = true) ∧
    (∃ (s : State), s.islUp 10 = true) ∧
    (∃ (s : State) (t : Nat), s.islUp 10 = true ∧ s.mtr.newCross = some t ∧ s.mtr.cross = none) ∧
    (∃ (s : State) (t t0 : Nat), s.islUp 10 = true ∧ s.mtr.newCross = some t ∧ s.mtr.cross = some t0 ∧ 1000000000 ≤ 66
      * (t - t0) ∧ 45 * (t - t0) ≤ 1000000000 ∧ (refPhase s s.mtr.win).isSome = true ∧ s.mtr.run = false) ∧
    (∃ (s : State) (t t0 : Nat), s.islUp 10 = true ∧ s.mtr.newCross = some t ∧ s.mtr.cross = some t0 ∧ 1000000000 ≤ 66
      * (t - t0) ∧ 45 * (t - t0) ≤ 1000000000 ∧ (refPhase s s.mtr.win).isSome = true ∧ s.mtr.run = true) ∧
    (∃ (s : State) (t t0 : Nat), s.islUp 10 = true ∧ s.mtr.newCross = some t ∧ s.mtr.cross = some t0 ∧ (66 * (t - t0)
      < 1000000000 ∨ 1000000000 < 45 * (t - t0))) ∧
    (∃ (s : State) (f : Nat), s.islUp 10 = true ∧ s.mtr.freeze = some f ∧ s.mtr.finalDone = false ∧ (setsOf s).all
      (fun k => (s.mset k).q.isEmpty) = true) ∧
    (∃ (s : State) (k : Nat), (.pulseEmit k : Instr).wf = true ∧ s.islUp 10 = true ∧ 0 < (lget s.mtr.po k ⟨0, 0,
      0⟩).queued ∧ (lget s.mtr.po k ⟨0, 0, 0⟩).ready ≤ s.up ∧ s.mtr.run = true ∧ s.mtr.freeze = none) :=
  ⟨⟨base, ⟨[0, 0, 0], [0, 0, 0], 0, (0, 0), [(0, 0), (0, 0), (0, 0), (0, 0)], []⟩, (by decide), (by decide)⟩,
   ⟨base, (by decide)⟩,
   ⟨{ base with mtr := { base.mtr with newCross := some 0 } }, 0, (by decide), (by decide), (by decide)⟩,
   ⟨crossed 0 20000000, 20000000, 0, (by decide), (by decide), (by decide), (by decide), (by decide), (by decide), (by
     decide)⟩,
   ⟨{ crossed 0 20000000 with mtr := { (crossed 0 20000000).mtr with run := true } }, 20000000, 0, (by decide), (by
     decide), (by decide), (by decide), (by decide), (by decide), (by decide)⟩,
   ⟨crossed 0 1000000, 1000000, 0, (by decide), (by decide), (by decide), (by decide)⟩,
   ⟨{ base with mtr := { base.mtr with freeze := some 0 } }, 0, (by decide), (by decide), (by decide), (by decide)⟩,
   ⟨{ base with mtr := { base.mtr with run := true, po := [⟨1, 0, 0⟩, ⟨0, 0, 0⟩] } }, 0, (by decide), (by decide), (by
     decide), (by decide), (by decide), (by decide)⟩⟩

theorem witness_ClockEventsComplete :
    (∃ (s : State) (x : Slew), s.islUp 9 = true ∧ s.clkr.slew = some x ∧ x.left.natAbs ≤ x.rate ∧ s.clkr.ops = []) ∧
    (∃ (s : State) (inc : Option Nat) (o : Int), s.islUp 9 = true ∧ s.clkr.meas = some o) ∧
    (∃ (s : State), s.islUp 9 = true ∧ srcGood s = false) ∧
    (∃ (s : State) (k : Nat), s.islUp 9 = true ∧ srcGood s = true ∧ revertSource s = some k ∧ k ≠ s.clkr.src) ∧
    (∃ (s : State), s.islUp 9 = true ∧ s.clkr.src ≠ 0 ∧ srcGood s = false ∧ (bestSource s).isSome = true) ∧
    (∃ (s : State), s.islUp 9 = true ∧ s.clkr.src ≠ 0 ∧ srcGood s = false ∧ bestSource s = none ∧ s.clkr.state = 0) ∧
    (∃ (s : State), s.islUp 9 = true ∧ s.clkr.state = 3 ∧ s.clkr.expired = false ∧ elapsed s s.clkr.holdStart (s.regF
      R.CLK_SERVO 16 16 * 1000000000) = true) ∧
    (∃ (s : State), s.islUp 9 = true ∧ s.clkr.valid = true ∧ secondTick (nowNs s) = true ∧ s.clkr.lastSec ≠ secOf
      (nowNs s)) :=
  ⟨⟨{ base with clkr := { base.clkr with slew := some ⟨5, 10⟩ } }, ⟨5, 10⟩, (by decide), (by decide), (by decide), (by
     decide)⟩,
   ⟨{ base with clkr := { base.clkr with meas := some 5 } }, none, 5, (by decide), (by decide)⟩,
   ⟨base, (by decide), (by decide)⟩,
   ⟨{ base with ptp := ⟨[(0, { ptp0 with state := 3 }), (2, { ptp0 with state := 3 })]⟩, clkr := { base.clkr with src := 2, avail := [(1, 0)] }, up := 10000000000000 }.setReg
     R.CLK_SEL 0x00000021#32, 1, (by decide), (by decide), (by decide), (by decide)⟩,
   ⟨{ base with ptp := ⟨[(0, { ptp0 with state := 3 })]⟩, clkr := { base.clkr with src := 2 } }.setReg R.CLK_SEL
     0x00000021#32, (by decide), (by decide), (by decide), (by decide)⟩,
   ⟨{ base with clkr := { base.clkr with src := 2 } }, (by decide), (by decide), (by decide), (by decide), (by
     decide)⟩,
   ⟨{ base with clkr := { base.clkr with state := 3 }, up := 100000000000000 }, (by decide), (by decide), (by decide),
     (by decide)⟩,
   ⟨{ base with clkr := { base.clkr with valid := true, lastSec := 5 } }, (by decide), (by decide), (by decide), (by
     decide)⟩⟩

theorem witness_PtpAndTimingEventsComplete :
    (∃ (s : State) (p dom : Nat) (m : PtpMsg), (.ptpMessageReceive p dom m : Instr).wf = true ∧ s.islUp 9 = true ∧
      (s.pport p).state = 0) ∧
    (∃ (s : State) (p dom q t : Nat), (.ptpMessageReceive p dom (.sync q t) : Instr).wf = true ∧ s.islUp 9 = true ∧
      (s.pport p).state = 3 ∧ dom = ptpDomain s p ∧ isN p = false) ∧
    (∃ (s : State) (p : Nat), (.ptpSyncSend p : Instr).wf = true ∧ s.islUp 9 = true ∧ 2 ≤ p ∧ (s.pport p).state = 4 ∧
      ptpSilent s p = false ∧ elapsed s (s.pport p).lastSync (logNs (syncLog s p)) = true) ∧
    (∃ (s : State) (p : Nat), (.ptpAnnounceSend p : Instr).wf = true ∧ s.islUp 9 = true ∧ 2 ≤ p ∧ p < 13 ∧ (s.pport
      p).state = 4 ∧ ptpSilent s p = false ∧ elapsed s (s.pport p).lastAnn 1000000000 = true) ∧
    (∃ (s : State) (p : Nat), (.ptpDelayReqSend p : Instr).wf = true ∧ s.islUp 9 = true ∧ p < 5 ∧ (s.pport p).state =
      3 ∧ elapsed s (s.pport p).lastReq (max 125000000 (s.pport p).reqInt) = true) ∧
    (∃ (s : State) (p : Nat), (.announceTimeout p : Instr).wf = true ∧ s.islUp 9 = true ∧ p < 5 ∧ (s.pport
      p).foreign.any (fun f => elapsed s f.last (3 * f.interval)) = true) ∧
    (∃ (s : State) (t : Nat), s.islUp 9 = true ∧ t = ((nowNs s : Int) - toSigned 16 (s.regF R.TIO_PPSOUT 16 16) +
      calDelay s 0x20).toNat ∧ s.tio.ppsOut = true ∧ (s.regF R.TIO_PPSOUT 2 10 * 1000000 ≤ nsOf t ∨ s.tio.ppsSec ≠ some
      (secOf t))) ∧
    (∃ (s : State) (t : Nat), s.islUp 9 = true ∧ t = ((nowNs s : Int) - toSigned 16 (s.regF R.TIO_PPSOUT 16 16) +
      calDelay s 0x20).toNat ∧ s.tio.ppsOut = false ∧ ppsRuns s = true ∧ secondTick t = true ∧ s.tio.ppsSec ≠ some
      (secOf t)) ∧
    (∃ (s : State) (t : Nat) (e : Bool), s.islUp 9 = true ∧ (s.en 0x2A && s.regB R.TIO_PPSIN 0) = true ∧ e = s.regB
      R.TIO_PPSIN 1) ∧
    (∃ (s : State) (l : Nat), s.islUp 9 = true ∧ s.tio.ppsLast = some l ∧ l + 1100000000 ≤ nowNs s ∧ s.tio.ppsOk =
      false) ∧
    (∃ (s : State) (l : Nat), s.islUp 9 = true ∧ s.tio.ppsLast = some l ∧ l + 1100000000 ≤ nowNs s ∧ s.tio.ppsOk =
      true) ∧
    (∃ (s : State) (t h m sec f : Nat), (.ltcFrame t h m sec f : Instr).wf = true ∧ s.islUp 9 = true ∧ (s.en 0x2A &&
      s.regB R.TIO_LTC 0) = true) ∧
    (∃ (s : State) (g : Grid), s.islUp 9 = true ∧ s.tio.ltc.lock = true ∧ s.tio.ltc.pred = some g ∧ g.pt
      (s.tio.ltc.idx + 5) ≤ inputTime s R.TIO_LTC (nowNs s)) ∧
    (∃ (s : State) (t : Nat), s.islUp 9 = true ∧ (s.en 0x2A && s.regB R.TIO_WCLK 0) = true) ∧
    (∃ (s : State) (g : Grid), s.islUp 9 = true ∧ s.tio.wclk.lock = true ∧ s.tio.wclk.pred = some g ∧ g.pt
      (s.tio.wclk.idx + 4) ≤ inputTime s R.TIO_WCLK (nowNs s)) :=
  ⟨⟨base, 0, 127, .sync 0 0, (by decide), (by decide), (by decide)⟩,
   ⟨{ base with ptp := ⟨[(0, { ptp0 with state := 3 })]⟩ }, 0, ptpDomain base 0, 0, 0, (by decide), (by decide), (by
     decide), (by decide), (by decide)⟩,
   ⟨{ base with ptp := ⟨[(5, { ptp0 with state := 4 })]⟩, up := 100000000000 }, 5, (by decide), (by decide), (by
     decide), (by decide), (by decide), (by decide)⟩,
   ⟨{ base with ptp := ⟨[(5, { ptp0 with state := 4 })]⟩, up := 1000000000 }, 5, (by decide), (by decide), (by
     decide), (by decide), (by decide), (by decide), (by decide)⟩,
   ⟨{ base with ptp := ⟨[(0, { ptp0 with state := 3 })]⟩, up := 1000000000000 }, 0, (by decide), (by decide), (by
     decide), (by decide), (by decide)⟩,
   ⟨{ base with ptp := ⟨[(0, { ptp0 with foreign := [⟨⟨0, 0, 0, 0, 0, 0, 0, 0, 0, 0, false, false, false⟩, 0, 10, true⟩] })]⟩, up := 1000 },
     0, (by decide), (by decide), (by decide), (by decide)⟩,
   ⟨{ base with tio := { base.tio with ppsOut := true }, clk := 600000000 * 16777216 }, _, (by decide), rfl, (by
     decide), (by decide)⟩,
   ⟨{ base.setReg R.TIO_PPSOUT 0x13#32 with tio := { base.tio with ppsOut := false, ppsSec := none } }, _, (by
     decide), rfl, (by decide), (by decide), (by decide), (by decide)⟩,
   ⟨base.setReg R.TIO_PPSIN 1#32, 0, false, (by decide), (by decide), (by decide)⟩,
   ⟨{ base with tio := { base.tio with ppsLast := some 0 }, clk := 2000000000 * 16777216 }, 0, (by decide), (by
     decide), (by decide), (by decide)⟩,
   ⟨{ base with tio := { base.tio with ppsLast := some 0, ppsOk := true }, clk := 2000000000 * 16777216 }, 0, (by
     decide), (by decide), (by decide), (by decide)⟩,
   ⟨base.setReg R.TIO_LTC 1#32, 0, 0, 0, 0, 0, (by decide), (by decide), (by decide)⟩,
   ⟨{ base with tio := { base.tio with ltc := { in0 with lock := true, pred := some ⟨0, 1, 1⟩ } }, clk := 10000000000 * 16777216 },
     ⟨0, 1, 1⟩, (by decide), (by decide), (by decide), (by decide)⟩,
   ⟨base.setReg R.TIO_WCLK 1#32, 0, (by decide), (by decide)⟩,
   ⟨{ base with tio := { base.tio with wclk := { in0 with lock := true, pred := some ⟨0, 1, 1⟩ } }, clk := 10000000000 * 16777216 },
     ⟨0, 1, 1⟩, (by decide), (by decide), (by decide), (by decide)⟩⟩

theorem witness_HatbandEventsComplete :
    (∃ (s : State) (p : Nat), (.helloSend p : Instr).wf = true ∧ hbIn s p = true ∧ (s.hbp p).sent = none) ∧
    (∃ (s : State) (p q src ser : Nat) (ok : Bool), (.hello p q src ser ok : Instr).wf = true ∧ hbIn s p = true ∧ q =
      p) ∧
    (∃ (s : State) (p q src ser : Nat) (ok : Bool), (.hello p q src ser ok : Instr).wf = true ∧ hbIn s p = true ∧ q ≠
      p) ∧
    (∃ (s : State) (p : Nat), (.helloLoss p : Instr).wf = true ∧ s.islUp 7 = true ∧ heard s (s.hbp p).rxok = false) ∧
    (∃ (s : State) (p dst src id lost nb : Nat) (t : State), (.breakFrame p dst src id lost nb : Instr).wf = true ∧
      hbIn s p = true ∧ ryuArrive s p ⟨0x05, dst, src, id, beBytes 1 lost ++ beBytes 1 nb⟩ = (t, true)) ∧
    (∃ (s : State), s.islUp 7 = true ∧ s.hb.annSent = none) ∧
    (∃ (s : State) (p dst src id ser cl fe : Nat) (svc rg : Bool), (.announce p dst src id ser cl svc rg fe :
      Instr).wf = true ∧ (svc && src == svcAddr s && decide (fe < fence s)) = false) ∧
    (∃ (s : State), s.islUp 7 = true ∧ s.regB (R.HB_CTL 0) 0 = true ∧ hbUp s 0 = true ∧ addrState s = 1 ∧ s.hb.noroom
      = false ∧ s.hb.joinAt = none) ∧
    (∃ (s : State) (p dst src id ser w : Nat) (svc : Bool) (t : State), (.join p dst src id ser w svc : Instr).wf =
      true ∧ hbIn s p = true ∧ ryuArrive s p ⟨0x03, dst, src, id, beBytes 8 ser ++ beBytes 1 w ++ beBytes 1 (b2n svc)⟩ =
      (t, true)) ∧
    (∃ (s : State) (p dst src id ser a : Nat) (svc : Bool) (t : State), (.assign p dst src id ser a svc : Instr).wf =
      true ∧ hbIn s p = true ∧ ryuArrive s p ⟨0x04, dst, src, id, beBytes 8 ser ++ beBytes 1 a ++ beBytes 1 (b2n svc)⟩ =
      (t, true)) ∧
    (∃ (s : State), s.islUp 7 = true ∧ addrState s = 1 ∧ 3 ≤ s.hb.joins ∧ s.hb.annHeard = none ∧ elapsed s
      s.hb.joinSince 300000000 = true ∧ s.regF (R.HB_ADDR 0) 8 8 ≠ 0) ∧
    (∃ (s : State) (a : Nat), (.presentExpire a : Instr).wf = true ∧ s.islUp 7 = true ∧ ringSt s a = 2 ∧ sget
      s.hb.ring a = none ∧ addrState s ≠ 2 ∧ svcActive s = false) ∧
    (∃ (s : State) (p dst src id ser : Nat) (t : State), (.leaveReceive p dst src id ser : Instr).wf = true ∧ hbIn s p
      = true ∧ ryuArrive s p ⟨0x06, dst, src, id, beBytes 8 ser⟩ = (t, true)) ∧
    (∃ (s : State) (p dst src id a : Nat) (t : State), (.forget p dst src id a : Instr).wf = true ∧ hbIn s p = true ∧
      ryuArrive s p ⟨0x07, dst, src, id, beBytes 1 a ++ beBytes 1 0⟩ = (t, true)) ∧
    (∃ (s : State) (e : EvTx) (es : List EvTx), s.islUp 7 = true ∧ s.evt.relay = e :: es) ∧
    (∃ (s : State) (p dst src id g b ns sec : Nat) (t : State), (.event p dst src id g b ns sec : Instr).wf = true ∧
      hbIn s p = true ∧ ryuArrive s p ⟨0x10, dst, src, id, beBytes 1 g ++ beBytes 1 0 ++ beBytes 4 b ++ beBytes 4 ns ++
      beBytes 6 sec⟩ = (t, true)) ∧
    (∃ (s : State) (p img ch sg : Nat) (d : List Byte), (.updSeg p img ch sg d : Instr).wf = true ∧ hbIn s p = true) ∧
    (∃ (s : State) (p img ch st : Nat), (.updAck p img ch st : Instr).wf = true ∧ hbIn s p = true) ∧
    (∃ (s : State) (p img ch : Nat) (x : UpdTx), (.updAckTimeout p img ch : Instr).wf = true ∧ s.islUp 7 = true ∧
      s.hb.updTx.find? (fun x => x.port == p && x.img == img && x.chunk == ch) = some x ∧ elapsed s x.sent 20000000 =
      true ∧ 3 ≤ x.sends) ∧
    (∃ (s : State) (p img ch : Nat) (x : UpdTx) (t : State), (.updAckTimeout p img ch : Instr).wf = true ∧ s.islUp 7 =
      true ∧ s.hb.updTx.find? (fun x => x.port == p && x.img == img && x.chunk == ch) = some x ∧ elapsed s x.sent
      20000000 = true ∧ x.sends < 3 ∧ t = updSegments (s.count (R.HB_UPDRTY p) 0 32 1) p img ch x.data) :=
  ⟨⟨linkedTo 0x22, 0, (by decide), (by decide), (by decide)⟩,
   ⟨linkedTo 0x22, 0, 0, 1, 1, true, (by decide), (by decide), (by decide)⟩,
   ⟨linkedTo 0x22, 0, 1, 1, 1, true, (by decide), (by decide), (by decide)⟩,
   ⟨base, 0, (by decide), (by decide), (by decide)⟩,
   ⟨linkedTo 0x22, 0, 255, 1, 7, 0, 0, _, (by decide), (by decide), Prod.ext rfl (by decide)⟩,
   ⟨base, (by decide), (by decide)⟩,
   ⟨base, 0, 255, 1, 7, 1, 0, 0, false, false, (by decide), (by decide)⟩,
   ⟨{ base with hb := { base.hb with ports := [(0, { hbPort0 with isUp := true })] } }.setReg (R.HB_ADDR 0) 0x10000#32
     |> fun s => s.setReg (R.HB_CTL 0) 1#32, (by decide), (by decide), (by decide), (by decide), (by decide), (by
     decide)⟩,
   ⟨linkedTo 0x22, 0, 255, 1, 7, 1, 0, false, _, (by decide), (by decide), Prod.ext rfl (by decide)⟩,
   ⟨linkedTo 0x22, 0, 255, 1, 7, 1, 2, false, _, (by decide), (by decide), Prod.ext rfl (by decide)⟩,
   ⟨{ base with hb := { base.hb with joins := 3 }, up := 300000000 }.setReg (R.HB_ADDR 0) 0x10500#32, (by decide), (by
     decide), (by decide), (by decide), (by decide), (by decide)⟩,
   ⟨base.setEnt tHBT 5 [0#32, 0#32, 2#32, 0#32], 5, (by decide), (by decide), (by decide), (by decide), (by decide),
     (by decide)⟩,
   ⟨linkedTo 0x22, 0, 255, 1, 7, 1, _, (by decide), (by decide), Prod.ext rfl (by decide)⟩,
   ⟨linkedTo 0x22, 0, 255, 1, 7, 5, _, (by decide), (by decide), Prod.ext rfl (by decide)⟩,
   ⟨{ base with evt := { base.evt with relay := [⟨0, 1, 0, 5⟩] } }, ⟨0, 1, 0, 5⟩, [], (by decide), (by decide)⟩,
   ⟨linkedTo 0x22, 0, 255, 1, 7, 0, 1, 0, 0, _, (by decide), (by decide), Prod.ext rfl (by decide)⟩,
   ⟨linkedTo 0x22, 0, 1, 0, 0, List.replicate 1024 0#8, (by decide), (by decide)⟩,
   ⟨linkedTo 0x22, 0, 1, 0, 0, (by decide), (by decide)⟩,
   ⟨{ base with hb := { base.hb with updTx := [⟨0, 1, 2, [], 3, 0⟩] }, up := 20000000 }, 0, 1, 2, ⟨0, 1, 2, [], 3, 0⟩,
     (by decide), (by decide), (by decide), (by decide), (by decide)⟩,
   ⟨{ base with hb := { base.hb with updTx := [⟨0, 1, 2, [], 1, 0⟩] }, up := 20000000 }, 0, 1, 2, ⟨0, 1, 2, [], 1, 0⟩,
     _, (by decide), (by decide), (by decide), (by decide), (by decide), rfl⟩⟩

theorem witness_PairEventsComplete :
    (∃ (s : State), s.islUp 12 = true ∧ bound s = true ∧ s.pair.role ≠ .unbound ∧ elapsed s s.pair.hbSent 500000 =
      true) ∧
    (∃ (s : State) (id ser ro he fe : Nat), (.heartbeat (.cuff id ser) ro he fe : Instr).wf = true ∧ cuffTakes s fe =
      true ∧ id = pairId s ∧ ser = peerSerial s) ∧
    (∃ (s : State) (id ser ro he fe : Nat), (.heartbeat (.cuff id ser) ro he fe : Instr).wf = true ∧ cuffTakes s fe =
      true ∧ (id ≠ pairId s ∨ ser ≠ peerSerial s)) ∧
    (∃ (s : State), s.islUp 12 = true ∧ partnerHeard s = false ∧ s.pair.partner = true ∧ s.pair.role = .active) ∧
    (∃ (s : State) (t : State), s.islUp 12 = true ∧ s.pair.role = .seeking ∧ elapsed s s.pair.since (s.regF
      R.MIR_TIMING 16 16 * 1000000) = true ∧ serve s = (t, true)) ∧
    (∃ (s : State) (fe q : Nat) (es : List MirEntry) (t : State), (.mirror fe q es : Instr).wf = true ∧ cuffTakes s fe
      = true ∧ s.arb.waiting.testBit 4 = false ∧ streamIn s q = (t, true)) ∧
    (∃ (s : State) (fe q : Nat), (.mirrorAck fe q : Instr).wf = true ∧ cuffTakes s fe = true ∧ s.pair.role = .active) ∧
    (∃ (s : State), s.islUp 12 = true ∧ s.pair.role = .active ∧ s.pair.unacked.any (fun u => elapsed s u.sent (s.regF
      R.MIR_TIMING 0 11 * 1000)) = true) ∧
    (∃ (s : State) (q t : Nat), s.islUp 12 = true ∧ s.pair.role = .active ∧ s.lin.waiting = some (q, t) ∧ elapsed s t
      (s.regF R.MIR_TIMING 0 11 * 1000) = true) ∧
    (∃ (s : State) (fe q d k : Nat) (ls : List EpLayer) (t : State), (.epoch fe q d k ls : Instr).wf = true ∧
      cuffTakes s fe = true ∧ s.arb.waiting.testBit 4 = false ∧ streamIn s q = (t, true)) ∧
    (∃ (s : State) (d : Nat) (e : EpochPt) (br : Bool), (.epochWaitTimeout d : Instr).wf = true ∧ s.islUp 12 = true ∧
      s.pair.role = .standby ∧ s.regF R.MIR_TIMING 0 11 * 1000 ≤ nowNs s ∧ dueEpoch s d (nowNs s - s.regF R.MIR_TIMING 0
      11 * 1000) = some (e, br)) ∧
    (∃ (s : State) (fe h k w : Nat), (.yieldReceive fe h k w : Instr).wf = true ∧ cuffTakes s fe = true ∧ s.pair.role
      = .standby) ∧
    (∃ (s : State) (fe st : Nat) (y : Yield), (.yieldAck fe st : Instr).wf = true ∧ cuffTakes s fe = true ∧
      s.pair.yield = some y ∧ y.mine = true ∧ y.ok = false ∧ elapsed s y.sent 1000000 = false ∧ st = 0) ∧
    (∃ (s : State) (y : Yield), s.islUp 12 = true ∧ s.pair.yield = some y ∧ y.mine = true ∧ y.ok = false ∧ elapsed s
      y.sent 1000000 = true) ∧
    (∃ (s : State) (t k : Nat), s.islUp 12 = true ∧ s.pair.retry = some (t, k) ∧ t ≤ s.up ∧ causeHolds
      { s with pair := { s.pair with retry := none } } k = true) ∧
    (∃ (s : State) (y : Yield), s.islUp 12 = true ∧ s.pair.yield = some y ∧ y.ok = true ∧ y.h ≤ nowNs s ∧ y.mine =
      true) ∧
    (∃ (s : State) (y : Yield), s.islUp 12 = true ∧ s.pair.yield = some y ∧ y.ok = true ∧ y.h ≤ nowNs s ∧ y.mine =
      false) ∧
    (∃ (s : State) (fe k : Nat) (ts : List (Nat × Nat × Bool × Nat)), (.digest fe k ts : Instr).wf = true ∧ cuffTakes
      s fe = true ∧ s.pair.role = .standby) ∧
    (∃ (s : State) (fe q : Nat), (.resyncReq fe q : Instr).wf = true ∧ cuffTakes s fe = true ∧ s.pair.role = .active) ∧
    (∃ (s : State) (fe q st : Nat) (t : State), (.resyncEnd fe q st : Instr).wf = true ∧ cuffTakes s fe = true ∧
      s.arb.waiting.testBit 4 = false ∧ streamIn s q = (t, true)) ∧
    (∃ (s : State) (t : Nat), s.islUp 12 = true ∧ s.pair.fit = some t ∧ prefers s = true ∧ elapsed s t (s.regF
      R.MIR_REVERT 0 17 * 1000000000) = true) ∧
    (∃ (s : State) (n : Nat), (.diagCheckFail n : Instr).wf = true ∧ s.islUp 12 = true ∧ s.regB R.MIR_DIAG n = true ∧
      diagCond s n = true ∧ s.pair.failing.testBit n = false) ∧
    (∃ (s : State) (n t : Nat), (.diagCheckPass n : Instr).wf = true ∧ s.islUp 12 = true ∧ sget s.pair.clear n = some
      t ∧ s.pair.failing.testBit n = true ∧ elapsed s t 10000000000 = true) ∧
    (∃ (s : State), s.islUp 12 = true) :=
  ⟨⟨{ pairAs .active with up := 500000 }, (by decide), (by decide), (by decide), (by decide)⟩,
   ⟨pairAs .active, pairId (pairAs .active), peerSerial (pairAs .active), 0, 0, 0, (by decide), (by decide), (by
     decide), (by decide)⟩,
   ⟨pairAs .active, 1, 0, 0, 0, 0, (by decide), (by decide), (by decide)⟩,
   ⟨{ pairAs .active with pair := { (pairAs .active).pair with partner := true } }, (by decide), (by decide), (by
     decide), (by decide)⟩,
   ⟨{ pairAs .seeking with up := 100000000000 }.setReg R.MIR_RESV (w32 (nextOwn (pairAs .seeking) (fence (pairAs
     .seeking)))), _, (by decide), (by decide), (by decide), Prod.ext rfl (by decide)⟩,
   ⟨pairAs .standby, 0, 5, [], _, (by decide), (by decide), (by decide), Prod.ext rfl (by decide)⟩,
   ⟨pairAs .active, 0, 5, (by decide), (by decide), (by decide)⟩,
   ⟨{ pairAs .active with pair := { (pairAs .active).pair with unacked := [⟨1, .mirror [], 0, 0⟩] }, up := 10000000 },
     (by decide), (by decide), (by decide)⟩,
   ⟨{ pairAs .active with lin := { (pairAs .active).lin with waiting := some (3, 0) }, up := 10000000 }, 3, 0, (by
     decide), (by decide), (by decide), (by decide)⟩,
   ⟨pairAs .standby, 0, 5, 0, 0, [], _, (by decide), (by decide), (by decide), Prod.ext rfl (by decide)⟩,
   ⟨{ pairAs .standby with pres := running.pres, clk := 10000000000 * 16777216 }, 0, _, _, (by decide), (by decide),
     (by decide), (by decide), (Option.some_get (by decide)).symm⟩,
   ⟨pairAs .standby, 0, 0, 1, 1, (by decide), (by decide), (by decide)⟩,
   ⟨{ pairAs .active with pair := { (pairAs .active).pair with yield := some ⟨0, 0, 1, 0, true, false⟩ } }, 0, 0, ⟨0,
     0, 1, 0, true, false⟩, (by decide), (by decide), (by decide), (by decide), (by decide), (by decide), (by decide)⟩,
   ⟨{ pairAs .active with pair := { (pairAs .active).pair with yield := some ⟨0, 0, 1, 0, true, false⟩ }, up := 1000000 },
     ⟨0, 0, 1, 0, true, false⟩, (by decide), (by decide), (by decide), (by decide), (by decide)⟩,
   ⟨{ pairAs .active with pair := { (pairAs .active).pair with retry := some (0, 1), failing := 1 } }.setReg
     R.MIR_DIAG 1#32, 0, 1, (by decide), (by decide), (by decide), (by decide)⟩,
   ⟨{ pairAs .active with pair := { (pairAs .active).pair with yield := some ⟨0, 0, 1, 0, true, true⟩ } }, ⟨0, 0, 1,
     0, true, true⟩, (by decide), (by decide), (by decide), (by decide), (by decide)⟩,
   ⟨{ pairAs .standby with pair := { (pairAs .standby).pair with yield := some ⟨0, 0, 1, 0, false, true⟩ } }, ⟨0, 0,
     1, 0, false, true⟩, (by decide), (by decide), (by decide), (by decide), (by decide)⟩,
   ⟨pairAs .standby, 0, 0, [], (by decide), (by decide), (by decide)⟩,
   ⟨pairAs .active, 0, 0, (by decide), (by decide), (by decide)⟩,
   ⟨pairAs .standby, 0, 5, 0, _, (by decide), (by decide), (by decide), Prod.ext rfl (by decide)⟩,
   ⟨{ pairAs .standby with pair := { (pairAs .standby).pair with fit := some 0 }, up := 1000000000000000 }.setReg
     R.MIR_CFG 5#32, 0, (by decide), (by decide), (by decide), (by decide)⟩,
   ⟨base.setReg R.MIR_DIAG 0x0000007F#32, 3, (by decide), (by decide), (by decide), (by decide), (by decide)⟩,
   ⟨{ base with pair := { base.pair with failing := 1, clear := [(0, 0)] }, up := 10000000000 }, 0, 0, (by decide),
     (by decide), (by decide), (by decide), (by decide)⟩,
   ⟨base, (by decide)⟩⟩

theorem witness_LiningEventsComplete :
    (∃ (s : State) (r : LRec) (q : List LRec), s.islUp 2 = true ∧ s.islUp 12 = true ∧ s.lin.subq = r :: q ∧
      s.lin.state ≠ 0 ∧ placesUsed s + (if r.final then 1 else 2) ≤ 2) ∧
    (∃ (s : State) (n : Nat) (v : Svc) (r : LRec) (rs : List LRec), (.liningAppendComplete n : Instr).wf = true ∧
      svcOf s .lining = some v ∧ s.lin.inAppend = r :: rs ∧ s.lin.waiting = none ∧ (appendTry s r n).2 ≠ 0) ∧
    (∃ (s : State) (n : Nat) (v : Svc) (r : LRec) (rs : List LRec), (.liningAppendComplete n : Instr).wf = true ∧
      svcOf s .lining = some v ∧ s.lin.inAppend = r :: rs ∧ s.lin.waiting = none ∧ (appendTry s r n).2 = 0 ∧ r.partner =
      true) ∧
    (∃ (s : State), s.islUp 12 = true ∧ ckptDue s = true) ∧
    (∃ (s : State) (b : Bool) (k : Ckpt), s.islUp 12 = true ∧ s.lin.run = some (b, k)) ∧
    (∃ (s : State) (b : Bool) (k : Ckpt), s.islUp 12 = true ∧ s.lin.run = some (b, k)) ∧
    (∃ (s : State) (i n : Nat), (.sectorErase i n : Instr).wf = true ∧ s.islUp 12 = true ∧ s.lin.state = 1 ∧
      reclaimable s (s.sect i) = true ∧ 2 ≤ n) ∧
    (∃ (s : State) (i n : Nat), (.sectorErase i n : Instr).wf = true ∧ s.islUp 12 = true ∧ s.lin.state = 1 ∧
      reclaimable s (s.sect i) = true ∧ n < 2 ∧ (s.sect i).erases + 1 ≠ 90000) ∧
    (∃ (s : State) (scan : ReplayScan) (torn : Bool), (.liningReplay scan torn : Instr).wf = true ∧ s.islUp 12 = true
      ∧ s.regB R.BST_POST 0 = true ∧ s.lin.state = 0) :=
  ⟨⟨{ base with lin := { base.lin with subq := [⟨false, 0x30, false, false, false, 1, 0, 0, []⟩] } }, ⟨false, 0x30,
     false, false, false, 1, 0, 0, []⟩, [], (by decide), (by decide), (by decide), (by decide), (by decide)⟩,
   ⟨{ serving (svc 6 .lining) with lin := { base.lin with inAppend := [⟨false, 0x30, false, false, false, 1, 0, 0, []⟩] } },
     7, svc 6 .lining, ⟨false, 0x30, false, false, false, 1, 0, 0, []⟩, [], (by decide), (by decide), (by decide), (by
     decide), (by decide)⟩,
   ⟨{ serving (svc 6 .lining) with lin := { base.lin with inAppend := [⟨true, 0x30, false, false, false, 1, 0, 0, []⟩] } },
     0, svc 6 .lining, ⟨true, 0x30, false, false, false, 1, 0, 0, []⟩, [], (by decide), (by decide), (by decide), (by
     decide), (by decide), (by decide)⟩,
   ⟨{ base with up := 1000000000000000 }, (by decide), (by decide)⟩,
   ⟨{ base with lin := { base.lin with run := some (true, ckpt0) } }, true, ckpt0, (by decide), (by decide)⟩,
   ⟨{ base with lin := { base.lin with run := some (true, ckpt0) } }, true, ckpt0, (by decide), (by decide)⟩,
   ⟨{ base with lin := { base.lin with sectors := [(3, ⟨2, 0, 0, 0, 32, [], none⟩)] } }, 3, 2, (by decide), (by
     decide), (by decide), (by decide), (by decide)⟩,
   ⟨{ base with lin := { base.lin with sectors := [(3, ⟨2, 0, 0, 0, 32, [], none⟩)] } }, 3, 0, (by decide), (by
     decide), (by decide), (by decide), (by decide), (by decide)⟩,
   ⟨{ base with lin := { base.lin with state := 0 } }.setReg R.BST_POST 1#32, ⟨[], [], []⟩, false, (by decide), (by
     decide), (by decide), (by decide)⟩⟩

theorem witness_SecurityEventsComplete :
    (∃ (s : State) (k : Nat), (.sensorSample k : Instr).wf = true ∧ gntWatches s = true) ∧
    (∃ (s : State) (n : Nat), (.glitchTrip n true : Instr).wf = true ∧ gntWatches s = true ∧ s.regB R.GNT_SENSE n =
      false) ∧
    (∃ (s : State) (k : CmdRun), s.gnt.cmd = some k ∧ cmdStatus s k.bytes ≠ 0) ∧
    (∃ (s : State) (k : CmdRun), s.gnt.cmd = some k ∧ beAt k.bytes 3 1 = 0x01) ∧
    (∃ (s : State) (k : CmdRun), s.gnt.cmd = some k ∧ beAt k.bytes 3 1 = 0x02) ∧
    (∃ (s : State) (k : CmdRun), s.gnt.cmd = some k ∧ beAt k.bytes 3 1 = 0x03) ∧
    (∃ (s : State) (k : CmdRun), s.gnt.cmd = some k ∧ beAt k.bytes 3 1 = 0x04) ∧
    (∃ (s : State) (k : CmdRun), s.gnt.cmd = some k ∧ beAt k.bytes 3 1 = 0x05) ∧
    (∃ (s : State) (k : CmdRun), s.gnt.cmd = some k ∧ beAt k.bytes 3 1 = 0x10) ∧
    (∃ (s : State), s.pwr.phase = 0) ∧
    (∃ (s : State) (m : List Byte), (.applyComplete 1 : Instr).wf = true ∧ s.islUp 12 = true ∧ storedMan s = some m ∧
      s.upd.state = 3) ∧
    (∃ (s : State) (m b : List Byte), (.applyComplete 2 : Instr).wf = true ∧ s.islUp 12 = true ∧ storedMan s = some m
      ∧ s.upd.state = 3 ∧ buildImage s m = some b) ∧
    (∃ (s : State) (m b : List Byte), (.applyComplete 0 : Instr).wf = true ∧ s.islUp 12 = true ∧ storedMan s = some m
      ∧ s.upd.state = 3 ∧ buildImage s m = some b) ∧
    (∃ (s : State) (t : Nat), s.islUp 12 = true ∧ s.upd.actAt = some t ∧ s.upd.state = 4 ∧ t ≤ tickNow s ∧
      s.upd.yielding = false ∧ partnerFit s = false ∧ updRefusal s true = 0) ∧
    (∃ (s : State), s.islUp 12 = true ∧ s.regB R.GNT_BOOT 2 = false) ∧
    (∃ (s : State) (t : Nat), s.islUp 12 = true ∧ s.upd.pauseAt = some t ∧ elapsed s t 140000000 = true) :=
  ⟨⟨base, 0, (by decide), (by decide)⟩,
   ⟨base.setReg R.GNT_SENSE 0#32, 6, (by decide), (by decide), (by decide)⟩,
   ⟨{ base with gnt := { base.gnt with cmd := some ⟨1, [], 0⟩ } }, ⟨1, [], 0⟩, (by decide), (by decide)⟩,
   ⟨{ base with gnt := { base.gnt with cmd := some ⟨1, (List.replicate 3 0#8 ++ 1#8 :: List.replicate 220 0#8), 0⟩ } },
     ⟨1, (List.replicate 3 0#8 ++ 1#8 :: List.replicate 220 0#8), 0⟩, (by decide), (by decide)⟩,
   ⟨{ base with gnt := { base.gnt with cmd := some ⟨1, (List.replicate 3 0#8 ++ 2#8 :: List.replicate 220 0#8), 0⟩ } },
     ⟨1, (List.replicate 3 0#8 ++ 2#8 :: List.replicate 220 0#8), 0⟩, (by decide), (by decide)⟩,
   ⟨{ base with gnt := { base.gnt with cmd := some ⟨1, (List.replicate 3 0#8 ++ 3#8 :: List.replicate 220 0#8), 0⟩ } },
     ⟨1, (List.replicate 3 0#8 ++ 3#8 :: List.replicate 220 0#8), 0⟩, (by decide), (by decide)⟩,
   ⟨{ base with gnt := { base.gnt with cmd := some ⟨1, (List.replicate 3 0#8 ++ 4#8 :: List.replicate 220 0#8), 0⟩ } },
     ⟨1, (List.replicate 3 0#8 ++ 4#8 :: List.replicate 220 0#8), 0⟩, (by decide), (by decide)⟩,
   ⟨{ base with gnt := { base.gnt with cmd := some ⟨1, (List.replicate 3 0#8 ++ 5#8 :: List.replicate 220 0#8), 0⟩ } },
     ⟨1, (List.replicate 3 0#8 ++ 5#8 :: List.replicate 220 0#8), 0⟩, (by decide), (by decide)⟩,
   ⟨{ base with gnt := { base.gnt with cmd := some ⟨1, provBlock, 0⟩, nonce := 5 } }, ⟨1, provBlock, 0⟩, (by decide),
     (by decide)⟩,
   ⟨{ base with pwr := { base.pwr with phase := 0 } }, (by decide)⟩,
   ⟨{ base with upd := { base.upd with state := 3, chunks := [(0, [])] } }, [], (by decide), (by decide), (by decide),
     (by decide)⟩,
   ⟨{ base with upd := { base.upd with state := 3, chunks := [(0, [])] } }, [], _, (by decide), (by decide), (by
     decide), (by decide), (Option.some_get (by decide)).symm⟩,
   ⟨{ base with upd := { base.upd with state := 3, chunks := [(0, [])] } }, [], _, (by decide), (by decide), (by
     decide), (by decide), (Option.some_get (by decide)).symm⟩,
   ⟨{ base with upd := { base.upd with state := 4, actAt := some 0 } }, 0, (by decide), (by decide), (by decide), (by
     decide), (by decide), (by decide), (by decide)⟩,
   ⟨base, (by decide), (by decide)⟩,
   ⟨{ base with upd := { base.upd with pauseAt := some 0 }, up := 140000000 }, 0, (by decide), (by decide), (by
     decide)⟩⟩

theorem witness_ModuleEventsComplete :
    (∃ (s : State) (q : Nat) (off : Bool), (.calDue q off : Instr).wf = true ∧ s.islUp 12 = true ∧ calCause s q =
      true) ∧
    (∃ (s : State) (f e : Nat), (.post f e : Instr).wf = true ∧ s.islUp 12 = true ∧ s.regB R.BST_POST 0 = false ∧ 12 +
      b2n s.hw.drive ≤ s.pwr.started) ∧
    (∃ (s : State) (e : Nat), (.testVectorEnqueue e : Instr).wf = true ∧ s.islUp 2 = true ∧ s.islUp 12 = true ∧ s.regB
      R.BST_POST 0 = true ∧ elapsed s (sgetD s.slf.vecAt e 0) (vecPeriod s * 1000000000) = true) ∧
    (∃ (s : State) (w : Nat), (.scrubError w false : Instr).wf = true ∧ s.islUp 3 = true ∧ s.regF R.BST_SPOS 0 28 ≤ w) ∧
    (∃ (s : State) (w : Nat), (.scrubError w true : Instr).wf = true ∧ s.islUp 3 = true) ∧
    (∃ (s : State), s.islUp 3 = true ∧ elapsed s s.slf.scrubFrom (scrubPeriod s * 1000000000) = true) ∧
    (∃ (s : State), s.islUp 12 = true ∧ s.evt.alert = true ∧ alertWanted s = false) ∧
    (∃ (s : State) (v h : Nat) (off : Bool) (b : Int), s.pwr.phase = 0 ∧ 3550 ≤ v ∧ 10000000 ≤ h ∧ 10000000 ≤ s.up ∧
      (deviceReset s (b2n off) 1).pwr.rstLow = false ∧ (deviceReset s (b2n off) 1).pwr.thermalOff = false) ∧
    (∃ (s : State) (i : Nat), s.pwr.phase = 2 ∧ (startOrder s)[s.pwr.started]? = some i ∧ i ≠ 3 ∧ i ≠ 9) ∧
    (∃ (s : State), startReady s = true ∧ s.pwr.thermalOff = false) ∧
    (∃ (s : State) (v i h : Nat), 3600 ≤ v ∧ v ≤ 7550) ∧
    (∃ (s : State) (v i h : Nat), v < 3600 ∧ 100000000 ≤ h ∧ s.pwr.low36 = false) ∧
    (∃ (s : State) (v i h : Nat), 7550 < v ∧ 1000000 ≤ h ∧ s.pwr.overv = false) ∧
    (∃ (s : State) (v h : Nat), v < 3400 ∧ 200000 ≤ h) ∧
    (∃ (s : State) (v h : Nat), 8200 < v ∧ 10000 ≤ h) ∧
    (∃ (s : State) (t : Nat), s.pwr.tripSince = some t ∧ s.pwr.phase = 2 ∧ elapsed s t 1000000000 = true) ∧
    (∃ (s : State) (k t : Nat), s.pwr.pfw = some (k, t) ∧ elapsed s t 75000000 = true) ∧
    (∃ (s : State) (b : Int) (t : Nat), s.pwr.tripSince = some t ∧ s.pwr.phase = 1 ∧ s.pwr.rstLow = false ∧
      s.pwr.thermalOff = true ∧ elapsed s t 10000000000 = true ∧ 700 ≤ b) ∧
    (∃ (s : State) (b : Int) (t : Nat), s.pwr.tripSince = some t ∧ s.pwr.phase = 1 ∧ s.pwr.rstLow = false ∧
      s.pwr.thermalOff = true ∧ elapsed s t 10000000000 = true ∧ b < 700) ∧
    (∃ (s : State) (h : Nat), 1000 ≤ h ∧ s.pwr.phase = 2 ∧ s.pwr.pfw = none) ∧
    (∃ (s : State) (b : Int), s.pwr.phase = 1 ∧ s.pwr.thermalOff = false) ∧
    (∃ (s : State), s.pwr.phase = 2 ∧ s.pwr.pfw = none ∧ s.pwr.orderly = none) ∧
    (∃ (s : State) (k mw h : Nat), (.cageOvercurrent k ⟨mw, h⟩ : Instr).wf = true ∧ 1000000 ≤ h ∧ 6 * cageLimit k < 5
      * mw ∧ cagePage k ≠ 0x10 ∧ cagePage k ≠ 0x11) ∧
    (∃ (s : State) (v cp : Nat), 6800 ≤ v ∧ 380 ≤ cp ∧ s.pwr.charged = true) ∧
    (∃ (s : State) (v cp : Nat), 6800 ≤ v ∧ 380 ≤ cp ∧ s.pwr.charged = false) ∧
    (∃ (s : State) (v cp : Nat), cp < 380) ∧
    (∃ (s : State) (t : Temps), s.islUp 12 = true) ∧
    (∃ (s : State) (t : Temps) (h : Nat), s.islUp 12 = true ∧ t.b0 = none) ∧
    (∃ (s : State) (k t : Nat), s.pwr.pfw = some (k, t) ∧ s.pwr.charged = false) :=
  ⟨⟨{ base with up := 1000000000000000 }.setReg R.SCL_CFG 1#32, 0, false, (by decide), (by decide), (by decide)⟩,
   ⟨base, 0, 0, (by decide), (by decide), (by decide), (by decide)⟩,
   ⟨{ base with up := 1000000000000000 }.setReg R.BST_POST 1#32, 0, (by decide), (by decide), (by decide), (by
     decide), (by decide)⟩,
   ⟨base, 0, (by decide), (by decide), (by decide)⟩,
   ⟨base, 0, (by decide), (by decide)⟩,
   ⟨{ base with up := 10 ^ 15 }, (by decide), (by decide)⟩,
   ⟨{ base with evt := { base.evt with alert := true } }, (by decide), (by decide), (by decide)⟩,
   ⟨{ State.reset with pwr := { pwr0 with phase := 0 }, up := 10000000 }, 4800, 10000000, false, 250, (by decide), (by
     decide), (by decide), (by decide), (by decide), (by decide)⟩,
   ⟨{ State.reset with pwr := { pwr0 with started := 1 } }, 12, (by decide), (by decide), (by decide), (by decide)⟩,
   ⟨{ base with pwr := { base.pwr with ready := false } }.setReg R.BST_POST 1#32, (by decide), (by decide)⟩,
   ⟨base, 4800, 0, 0, (by decide), (by decide)⟩,
   ⟨base, 3000, 0, 100000000, (by decide), (by decide), (by decide)⟩,
   ⟨base, 8000, 0, 1000000, (by decide), (by decide), (by decide)⟩,
   ⟨base, 3399, 200000, (by decide), (by decide)⟩,
   ⟨base, 8201, 10000, (by decide), (by decide)⟩,
   ⟨{ base with pwr := { base.pwr with tripSince := some 0 }, up := 1000000000 }, 0, (by decide), (by decide), (by
     decide)⟩,
   ⟨{ base with pwr := { base.pwr with pfw := some (1, 0) }, up := 75000000 }, 1, 0, (by decide), (by decide)⟩,
   ⟨{ base with pwr := { base.pwr with tripSince := some 0, phase := 1, thermalOff := true }, up := 10000000000 },
     700, 0, (by decide), (by decide), (by decide), (by decide), (by decide), (by decide)⟩,
   ⟨{ base with pwr := { base.pwr with tripSince := some 0, phase := 1, thermalOff := true }, up := 10000000000 },
     699, 0, (by decide), (by decide), (by decide), (by decide), (by decide), (by decide)⟩,
   ⟨base, 1000, (by decide), (by decide), (by decide)⟩,
   ⟨{ base with pwr := { base.pwr with phase := 1 } }, 250, (by decide), (by decide)⟩,
   ⟨base, (by decide), (by decide), (by decide)⟩,
   ⟨base, 3, 10000, 1000000, (by decide), (by decide), (by decide), (by decide), (by decide)⟩,
   ⟨base, 6800, 380, (by decide), (by decide), (by decide)⟩,
   ⟨{ base with pwr := { base.pwr with charged := false } }, 6800, 380, (by decide), (by decide), (by decide)⟩,
   ⟨base, 6800, 300, (by decide)⟩,
   ⟨base, ⟨some 0, some 0, 0, 0⟩, (by decide)⟩,
   ⟨base, ⟨none, some 0, 0, 0⟩, 0, (by decide), (by decide)⟩,
   ⟨{ base with pwr := { base.pwr with pfw := some (1, 0), charged := false } }, 1, 0, (by decide), (by decide)⟩⟩

theorem witness_BusRegisterCommandsComplete :
    (∃ (s : State) (req addr : Nat) (v : Word), (.registerWrite req addr v : Instr).wf = true ∧ takesWrite s req addr
      v = true) ∧
    (∃ (s : State) (req : Nat) (v : Word), (.islRst req v : Instr).wf = true ∧ takesWrite s req R.ISL_RST v = true) ∧
    (∃ (s : State) (req page : Nat) (en frz : Bool), (.softReset req page en frz : Instr).wf = true ∧ takesWrite s req
      (R.PG_CTL page) (w32 (b2n en + 2 + 4 * b2n frz)) = true) ∧
    (∃ (s : State) (req page : Nat), (.commit req page : Instr).wf = true ∧ takesWrite s req (R.PG_COMMIT page) 1#32 =
      true) ∧
    (∃ (s : State) (req page : Nat), (.discard req page : Instr).wf = true ∧ takesWrite s req (R.PG_COMMIT page) 2#32
      = true) ∧
    (∃ (s : State) (req page : Nat), (.persistSave req page : Instr).wf = true ∧ takesWrite s req (R.PG_PERSIST page)
      1#32 = true) ∧
    (∃ (s : State) (req page : Nat), (.persistForget req page : Instr).wf = true ∧ takesWrite s req (R.PG_PERSIST
      page) 2#32 = true) ∧
    (∃ (s : State) (req op : Nat), (.windowRead req op : Instr).wf = true ∧ takesWrite s req op 1#32 = true) ∧
    (∃ (s : State) (req op : Nat), (.windowWrite req op : Instr).wf = true ∧ takesWrite s req op 2#32 = true) ∧
    (∃ (s : State) (req port : Nat), (.remoteRead req port : Instr).wf = true ∧ takesWrite s req (R.HB_RA_OP port)
      1#32 = true) ∧
    (∃ (s : State) (req port : Nat), (.remoteWrite req port : Instr).wf = true ∧ takesWrite s req (R.HB_RA_OP port)
      2#32 = true) ∧
    (∃ (s : State) (req : Nat) (v : Word), (.cbClr req v : Instr).wf = true ∧ takesWrite s req R.CB_CLR v = true) ∧
    (∃ (s : State) (req page : Nat), (.lockAcquire req page : Instr).wf = true ∧ takesLock s req page 1#32 = true) ∧
    (∃ (s t : State) (req page : Nat), (.lockRelease req page : Instr).wf = true ∧ takesLock s req page 2#32 = true ∧
      lockRelease (locksDue s) req = (t, 0)) :=
  ⟨⟨base, 0, 0x020088, 5#32, (by decide), (by decide)⟩,
   ⟨base, 0, 4#32, (by decide), (by decide)⟩,
   ⟨base, 0, 4, true, false, (by decide), (by decide)⟩,
   ⟨base, 0, 4, (by decide), (by decide)⟩,
   ⟨base, 0, 4, (by decide), (by decide)⟩,
   ⟨base, 0, 4, (by decide), (by decide)⟩,
   ⟨base, 0, 4, (by decide), (by decide)⟩,
   ⟨base, 0, 0x0B0054, (by decide), (by decide)⟩,
   ⟨base, 0, 0x0B0054, (by decide), (by decide)⟩,
   ⟨(base.setReg R.KEY_STAT 0x2005#32).setBreg 0 (R.HB_RA_DST 0) 5#32, 0, 0, (by decide), (by decide)⟩,
   ⟨(base.setReg R.KEY_STAT 0x2005#32).setBreg 0 (R.HB_RA_DST 0) 5#32, 0, 0, (by decide), (by decide)⟩,
   ⟨base, 0, 1#32, (by decide), (by decide)⟩,
   ⟨base, 1, 4, (by decide), (by decide)⟩,
   ⟨holding, _, 1, 4, (by decide), (by decide), Prod.ext rfl (by decide)⟩⟩

theorem witness_HatrackAndSurfaceWritesComplete :
    (∃ (s : State) (req : Nat), (.enqueue req : Instr).wf = true ∧ takesWrite s req (tHtkEnqOp) 1#32 = true) ∧
    (∃ (s : State) (req : Nat) (v : Word), (.flagSet req v : Instr).wf = true ∧ takesWrite s req R.HTK_FLAGSET v =
      true) ∧
    (∃ (s : State) (req : Nat) (v : Word), (.flagClear req v : Instr).wf = true ∧ takesWrite s req R.HTK_FLAGCLR v =
      true) ∧
    (∃ (s : State) (req flow : Nat), (.flush req flow : Instr).wf = true ∧ takesWrite s req R.HTK_FLOWCMD (w32 (flow +
      256)) = true) ∧
    (∃ (s : State) (req flow : Nat), (.restartRetry req flow : Instr).wf = true ∧ takesWrite s req R.HTK_FLOWCMD (w32
      (flow + 512)) = true) ∧
    (∃ (s : State) (req flow : Nat), (.restartDiscard req flow : Instr).wf = true ∧ takesWrite s req R.HTK_FLOWCMD
      (w32 (flow + 768)) = true) ∧
    (∃ (s : State) (req : Nat), (.mapRunWrite req : Instr).wf = true ∧ takesWrite s req 0x0B0054 2#32 = true) ∧
    (∃ (s : State) (req : Nat), (.mapRunClear req : Instr).wf = true ∧ takesWrite s req 0x0B0054 4#32 = true) ∧
    (∃ (s : State) (req : Nat) (v : Word), (.engRst req v : Instr).wf = true ∧ takesWrite s req R.ENG_RST v = true) ∧
    (∃ (s : State) (req : Nat), (.engClr req : Instr).wf = true ∧ takesWrite s req R.ENG_CLR 1#32 = true) ∧
    (∃ (s : State) (req : Nat), (.cueArm req : Instr).wf = true ∧ takesWrite s req R.TDM_QARMOP 1#32 = true) ∧
    (∃ (s : State) (req : Nat), (.expectedPush req : Instr).wf = true ∧ takesWrite s req R.CHK_XOP 1#32 = true) ∧
    (∃ (s : State) (req : Nat), (.expectedFlush req : Instr).wf = true ∧ takesWrite s req R.CHK_XOP 2#32 = true) :=
  ⟨⟨pushReady, 0, (by decide), (by decide)⟩,
   ⟨base, 0, 0#32, (by decide), (by decide)⟩,
   ⟨base, 0, 0#32, (by decide), (by decide)⟩,
   ⟨base, 0, 0, (by decide), (by decide)⟩,
   ⟨base.setFlow 0 { flow0 0 with state := .stopped }, 0, 0, (by decide), (by decide)⟩,
   ⟨base.setFlow 0 { flow0 0 with state := .stopped }, 0, 0, (by decide), (by decide)⟩,
   ⟨base, 0, (by decide), (by decide)⟩,
   ⟨base, 0, (by decide), (by decide)⟩,
   ⟨base, 0, 0#32, (by decide), (by decide)⟩,
   ⟨base, 0, (by decide), (by decide)⟩,
   ⟨base.setBreg 0 R.TDM_QARM0 0x4000#32, 0, (by decide), (by decide)⟩,
   ⟨base, 0, (by decide), (by decide)⟩,
   ⟨base, 0, (by decide), (by decide)⟩⟩

theorem witness_PortAndDriveWritesComplete :
    (∃ (s : State) (req port : Nat), (.ppClrCnt req port : Instr).wf = true ∧ takesWrite s req (R.PP_CLR port) 1#32 =
      true) ∧
    (∃ (s : State) (req port : Nat), (.ppClrCredmin req port : Instr).wf = true ∧ takesWrite s req (R.PP_CLR port)
      2#32 = true) ∧
    (∃ (s : State) (req page : Nat), (.macClrCnt req page : Instr).wf = true ∧ takesWrite s req (R.MAC_CLR page) 1#32
      = true) ∧
    (∃ (s : State) (req page : Nat), (.macClrRingmin req page : Instr).wf = true ∧ takesWrite s req (R.MAC_CLR page)
      2#32 = true) ∧
    (∃ (s : State) (req mask : Nat), (.drvFclrRail req mask : Instr).wf = true ∧ takesWrite s req R.DRV_FCLR (w32
      mask) = true) ∧
    (∃ (s : State) (req : Nat), (.drvFclrMxsup req : Instr).wf = true ∧ takesWrite s req R.DRV_FCLR 16#32 = true) ∧
    (∃ (s : State) (req half : Nat) (v : Word), (.strFclr req half v : Instr).wf = true ∧ takesWrite s req (R.STR_FCLR
      half) v = true) ∧
    (∃ (s : State) (req : Nat), (.drvClr req : Instr).wf = true ∧ takesWrite s req R.DRV_CLR 1#32 = true) ∧
    (∃ (s : State) (req x : Nat), (.mxFclrCol req x : Instr).wf = true ∧ takesWrite s req (R.MX_FCLR x) 1#32 = true) ∧
    (∃ (s : State) (req x : Nat), (.mxFclrLine req x : Instr).wf = true ∧ takesWrite s req (R.MX_FCLR x) 2#32 = true) ∧
    (∃ (s : State) (req : Nat), (.sealClose req : Instr).wf = true ∧ takesWrite s req R.MTR_SEAL 2#32 = true) ∧
    (∃ (s : State) (req : Nat) (use : Bool), (.snapshotTake req use : Instr).wf = true ∧ takesWrite s req R.ACC_SNAP
      (w32 (1 + 2 * b2n use)) = true) :=
  ⟨⟨base, 0, 0, (by decide), (by decide)⟩,
   ⟨base, 0, 0, (by decide), (by decide)⟩,
   ⟨base, 0, 0x10, (by decide), (by decide)⟩,
   ⟨base, 0, 0x10, (by decide), (by decide)⟩,
   ⟨base, 0, 0, (by decide), (by decide)⟩,
   ⟨base, 0, (by decide), (by decide)⟩,
   ⟨base, 0, 0, 0#32, (by decide), (by decide)⟩,
   ⟨base, 0, (by decide), (by decide)⟩,
   ⟨base, 0, 0, (by decide), (by decide)⟩,
   ⟨base, 0, 0, (by decide), (by decide)⟩,
   ⟨base, 0, (by decide), (by decide)⟩,
   ⟨base, 0, false, (by decide), (by decide)⟩⟩

theorem witness_ClockCommandsComplete :
    (∃ (s : State) (req : Nat), (.clockStepAbs req : Instr).wf = true ∧ takesWrite s req R.CLK_STEPOP 1#32 = true) ∧
    (∃ (s : State) (req : Nat), (.clockStepRel req : Instr).wf = true ∧ takesWrite s req R.CLK_STEPOP 2#32 = true) ∧
    (∃ (s : State) (req : Nat) (v : Word), (.clockSlew req v : Instr).wf = true ∧ takesWrite s req R.CLK_SLEW v =
      true) ∧
    (∃ (s : State) (req : Nat) (v : Word), (.clockInc req v : Instr).wf = true ∧ takesWrite s req R.CLK_INC v = true) ∧
    (∃ (s : State) (req : Nat) (v : Word), (.clockMode req v : Instr).wf = true ∧ takesWrite s req R.CLK_CTL v = true) ∧
    (∃ (s : State) (req : Nat) (v : Word), (.setvalid req v : Instr).wf = true ∧ takesWrite s req R.CLK_CTL v = true) ∧
    (∃ (s : State) (req : Nat), (.clockRead req : Instr).wf = true ∧ takesRead s req R.CLK_NOWNS = true) :=
  ⟨⟨base, 0, (by decide), (by decide)⟩,
   ⟨base, 0, (by decide), (by decide)⟩,
   ⟨base.setReg R.CLK_CTL 1#32, 0, 0#32, (by decide), (by decide)⟩,
   ⟨base.setReg R.CLK_CTL 1#32, 0, 0x08000000#32, (by decide), (by decide)⟩,
   ⟨base, 0, 1#32, (by decide), (by decide)⟩,
   ⟨base, 0, 9#32, (by decide), (by decide)⟩,
   ⟨base, 1, (by decide), (by decide)⟩⟩

theorem witness_RingAndPairWritesComplete :
    (∃ (s : State) (req : Nat), (.leave req : Instr).wf = true ∧ takesWrite s req (R.HB_CTL 0) (setBit (s.reg
      (R.HB_CTL 0)) 0 false) = true) ∧
    (∃ (s : State) (req page : Nat), (.hbForget req page : Instr).wf = true ∧ takesWrite s req (0x220150 + 0x10000 *
      page) 4#32 = true) ∧
    (∃ (s : State) (req page : Nat), (.hbEvpop req page : Instr).wf = true ∧ takesWrite s req (R.HB_EVPOP page) 1#32 =
      true) ∧
    (∃ (s : State) (req page : Nat), (.hbClr req page : Instr).wf = true ∧ takesWrite s req (R.HB_CLR page) 1#32 =
      true) ∧
    (∃ (s : State) (req : Nat) (v : Word), (.pairBind req v : Instr).wf = true ∧ takesWrite s req R.MIR_CFG v = true) ∧
    (∃ (s : State) (req : Nat), (.yield req : Instr).wf = true ∧ takesWrite s req R.MIR_CMD 1#32 = true) ∧
    (∃ (s : State) (req : Nat), (.resync req : Instr).wf = true ∧ takesWrite s req R.MIR_CMD 2#32 = true) ∧
    (∃ (s : State) (req : Nat), (.mirClr req : Instr).wf = true ∧ takesWrite s req R.MIR_CLR 1#32 = true) ∧
    (∃ (s : State) (req : Nat), (.linCkpt req : Instr).wf = true ∧ takesWrite s req R.LIN_CMD 1#32 = true) ∧
    (∃ (s : State) (req : Nat) (v : Word), (.linAck req v : Instr).wf = true ∧ takesWrite s req R.LIN_ACKHI v = true) ∧
    (∃ (s : State) (req : Nat), (.liningRead req : Instr).wf = true ∧ takesWrite s req R.LIN_ROP 1#32 = true) :=
  ⟨⟨base, 0, (by decide), (by decide)⟩,
   ⟨base.setBreg 0 0x220140 5#32, 0, 0, (by decide), (by decide)⟩,
   ⟨base, 0, 0, (by decide), (by decide)⟩,
   ⟨base, 0, 0, (by decide), (by decide)⟩,
   ⟨base, 0, 0x88B50000#32, (by decide), (by decide)⟩,
   ⟨pairAs .active, 0, (by decide), (by decide)⟩,
   ⟨pairAs .standby, 0, (by decide), (by decide)⟩,
   ⟨base, 0, (by decide), (by decide)⟩,
   ⟨base, 0, (by decide), (by decide)⟩,
   ⟨base, 0, 0#32, (by decide), (by decide)⟩,
   ⟨base, 0, (by decide), (by decide)⟩⟩

theorem witness_SecurityWritesComplete :
    (∃ (s : State) (req n : Nat) (v : Word), (.policyWrite req n v : Instr).wf = true ∧ takesWrite s req (R.GNT_POL n)
      v = true) ∧
    (∃ (s : State) (req : Nat), (.commandGo req : Instr).wf = true ∧ takesWrite s req R.GNT_CMDOP 1#32 = true) ∧
    (∃ (s : State) (req : Nat), (.keyRead req : Instr).wf = true ∧ takesWrite s req 0x4500A4 1#32 = true) ∧
    (∃ (s : State) (req : Nat), (.keyWrite req : Instr).wf = true ∧ takesWrite s req 0x4500A4 2#32 = true) ∧
    (∃ (s : State) (req : Nat), (.keyErase req : Instr).wf = true ∧ takesWrite s req 0x4500A4 4#32 = true) ∧
    (∃ (s : State) (req : Nat), (.updSubmit req : Instr).wf = true ∧ takesWrite s req 0x480084 4#32 = true) ∧
    (∃ (s : State) (req : Nat), (.apply req : Instr).wf = true ∧ takesWrite s req R.UPD_CMD 1#32 = true) ∧
    (∃ (s : State) (req : Nat), (.activate req : Instr).wf = true ∧ takesWrite s req R.UPD_CMD 2#32 = true) ∧
    (∃ (s : State) (req : Nat), (.cancel req : Instr).wf = true ∧ takesWrite s req R.UPD_CMD 4#32 = true) :=
  ⟨⟨base, 0, 0, 4#32, (by decide), (by decide)⟩,
   ⟨base, 0, (by decide), (by decide)⟩,
   ⟨base, 0, (by decide), (by decide)⟩,
   ⟨base.setBreg 0 0x450040 19#32, 0, (by decide), (by decide)⟩,
   ⟨base.setBreg 0 0x450040 19#32, 0, (by decide), (by decide)⟩,
   ⟨base, 0, (by decide), (by decide)⟩,
   ⟨{ base with upd := { base.upd with state := 2 } }, 0, (by decide), (by decide)⟩,
   ⟨{ base with upd := { base.upd with state := 4 } }, 0, (by decide), (by decide)⟩,
   ⟨{ base with upd := { base.upd with state := 4 } }, 0, (by decide), (by decide)⟩⟩

theorem witness_ModuleWritesComplete :
    (∃ (s : State) (req : Nat), (.sclAll req : Instr).wf = true ∧ takesWrite s req R.SCL_CMD 1#32 = true) ∧
    (∃ (s : State) (req q : Nat), (.sclOne req q : Instr).wf = true ∧ takesWrite s req R.SCL_CMD (w32 (2 + 256 * q)) =
      true) ∧
    (∃ (s : State) (req u : Nat), (.fstClrPort req u : Instr).wf = true ∧ takesWrite s req R.FST_CLR (w32 (2 ^ u)) =
      true) ∧
    (∃ (s : State) (req : Nat), (.fstClrEcc req : Instr).wf = true ∧ takesWrite s req R.FST_CLR 4#32 = true) ∧
    (∃ (s : State) (req : Nat) (v : Word), (.evtSwset req v : Instr).wf = true ∧ takesWrite s req R.EVT_SWSET v =
      true) ∧
    (∃ (s : State) (req : Nat) (v : Word), (.evtSwclr req v : Instr).wf = true ∧ takesWrite s req R.EVT_SWCLR v =
      true) ∧
    (∃ (s : State) (req : Nat) (orderly : Bool), (.devReset req orderly : Instr).wf = true ∧ takesWrite s req
      R.DEV_RESET (w32 (0x44560001 + 2 * b2n orderly)) = true) ∧
    (∃ (s : State) (req mask : Nat), (.cagePowerOn req mask : Instr).wf = true ∧ takesWrite s req R.PWR_CAGE (w32
      mask) = true) ∧
    (∃ (s : State) (req : Nat), (.thmClr req : Instr).wf = true ∧ takesWrite s req R.THM_CLR 1#32 = true) :=
  ⟨⟨base, 0, (by decide), (by decide)⟩,
   ⟨base, 0, 0, (by decide), (by decide)⟩,
   ⟨base, 0, 0, (by decide), (by decide)⟩,
   ⟨base, 0, (by decide), (by decide)⟩,
   ⟨base, 0, 0#32, (by decide), (by decide)⟩,
   ⟨base, 0, 0#32, (by decide), (by decide)⟩,
   ⟨base, 0, false, (by decide), (by decide)⟩,
   ⟨base, 0, 0, (by decide), (by decide)⟩,
   ⟨base, 0, (by decide), (by decide)⟩⟩

/-- EmptyQueueCycle: with island 9 running and without. -/
theorem witness_EmptyQueueCycle :
    (∃ s : State, s.pending = [] ∧ s.islUp 9 = true ∧ s.clkr.ops = [] ∧ s.clkr.slew = none) ∧
      ∃ s : State, s.pending = [] ∧ s.islUp 9 = false :=
  ⟨⟨base, by decide, by decide, by decide, by decide⟩, ⟨State.reset, by decide, by decide⟩⟩

/-- WellFormedCommandsComplete: a well-formed command and one that is not. -/
theorem witness_WellFormedCommandsComplete :
    (∃ c : Instr, c.wf = true) ∧ ∃ c : Instr, c.wf = false := ⟨⟨.flagSet 7 0#32, by decide⟩, ⟨.flagSet 8 0#32, by decide⟩⟩

/-- CommandsKeepQueueAndFactoryData: a command that completes. -/
theorem witness_CommandsKeepQueueAndFactoryData : ∃ (c : Instr) (s t : State), exec c s = .next t :=
  ⟨.flagSet 0 0#32, base, _, rfl⟩

/-- NoStepStops: a queue with a command in it. -/
theorem witness_NoStepStops : ∃ s : State, QueueOk s ∧ s.pending ≠ [] :=
  ⟨{ base with pending := [.dispatch] }, by simp [QueueOk, Instr.wf], by simp⟩

/-- CanonicalStoresKept: reset, with a command that completes. -/
theorem witness_CanonicalStoresKept : ∃ s t : State, Canonical s ∧ step s = .next t :=
  ⟨{ State.reset with pending := [.flagSet 0 0#32] }, _, by unfold Canonical; decide, rfl⟩

theorem witness_MisalignedAccessRejected :
    ∃ (s u : State) (a : Nat) (d : PageD) (r : RegD), u = locksDue s ∧ u.islUp 12 = true ∧ locate u a = some (d, r) ∧
      a % 4 ≠ 0 :=
  ⟨base, base, 0x02008B, _, _, (locksDue_none rfl).symm, by decide, (Option.some_get (by decide)).symm, by decide⟩

/-- UnmappedAccessRejected: a page that is absent, bits 15..12, and an offset without a register. -/
theorem witness_UnmappedAccessRejected :
    ∃ s u : State, u = locksDue s ∧ u.islUp 12 = true ∧ findPage (pageOf 0x070000) = none ∧ 0x1000 ≤ 0x021000 % 0x10000 ∧
      findReg (0x020FFC - 0x020FFC % 4) = none := ⟨base, base, (locksDue_none rfl).symm, by decide, by decide, by decide,
    by decide⟩

/-- UnservedPagesAndResettingIslands: before STARTED, and with island 2 in reset. -/
theorem witness_UnservedPagesAndResettingIslands :
    (∃ (s u : State) (a : Nat) (d : PageD) (r : RegD), u = locksDue s ∧ u.islUp 12 = true ∧ locate u a = some (d, r) ∧
      a % 4 = 0 ∧ servedPage u d.num = false) ∧
    ∃ (s u : State) (a : Nat) (d : PageD) (r : RegD), u = locksDue s ∧ u.islUp 12 = true ∧ locate u a = some (d, r) ∧
      a % 4 = 0 ∧ servedPage u d.num = true ∧ u.fitted d.num = true ∧ u.islUp d.isl = false ∧
      heldHeader (offOf a) = false :=
  ⟨⟨_, { base with pwr := { base.pwr with ready := false } }, 0x040040, _, _, (locksDue_none rfl).symm, by decide,
      (Option.some_get (by decide)).symm, by decide, by decide⟩,
   ⟨_, { base with isl := { base.isl with up := 0x3FFB } }, 0x040040, _, _, (locksDue_none rfl).symm, by decide,
      (Option.some_get (by decide)).symm, by decide, by decide, by decide, by decide, by decide⟩⟩

/-- RejectionRecord: an empty record at the highest page, requester and offset, and a full one. -/
theorem witness_RejectionRecord :
    (∃ s : State, 0x51 < 256 ∧ 7 < 8 ∧ 0xFFF < 0x1000 ∧ s.regB (R.PG_ERR 0x51) 31 = false) ∧
      ∃ s : State, s.regB (R.PG_ERR 0x51) 31 = true :=
  ⟨⟨base, by decide, by decide, by decide, by decide⟩, ⟨base.setReg (R.PG_ERR 0x51) 0x80000001#32, by decide⟩⟩

/-- RejectedWriteChangesNothing: a misaligned write. -/
theorem witness_RejectedWriteChangesNothing :
    ∃ (s s1 t : State) (a st : Nat), s1 = locksDue s ∧ busWrite s 1 a 5#32 = (t, st) ∧ st ≠ 0 ∧ st ≠ 0x40 :=
  ⟨base, _, _, 0x020089, 5, rfl, Prod.ext rfl (by decide), by decide, by decide⟩

/-- FirstCauseReported, ReservedBitsAndBarredRequesters: a value with reserved bits, and a barred requester. -/
theorem witness_FirstCauseReported :
    ∃ (s u : State) (d : PageD) (r : RegD), u = locksDue s ∧ findTarget u 1 0x020088 = .reg d r ∧
      writeErrors u (if holds u 1 d.num then seqView u 1 else u) 1 0x020088 d r 0x10000#32 ≠ [] :=
  ⟨base, base, _, _, (locksDue_none rfl).symm, found_cb_losslim, by decide⟩
theorem witness_ReservedBitsAndBarredRequesters :
    (∃ (s u : State) (d : PageD) (r : RegD), u = locksDue s ∧ findTarget u 1 0x020088 = .reg d r ∧
      setsReserved r.fields 0x10000#32 = true) ∧
    ∃ (s u : State) (d : PageD) (r : RegD), u = locksDue s ∧ findTarget u 1 0x0B0054 = .reg d r ∧
      u.regB R.CB_BARRIER 1 = true ∧ d.num ≠ 2 ∧
      ∀ x ∈ writeErrors u (if holds u 1 d.num then seqView u 1 else u) 1 0x0B0054 d r 1#32, x.1 = .state :=
  ⟨⟨base, base, _, _, (locksDue_none rfl).symm, found_cb_losslim, by decide⟩,
   ⟨barred, barred, _, _, (locksDue_none rfl).symm, found_map_op, by decide, by decide, by decide⟩⟩

theorem witness_HoldLimitAbortsSequence :
    ∃ (s : State) (q : LockSeq), 7 < 8 ∧ sget s.ctl.seqs 7 = some q ∧ q.pages.headD 0 < 256 ∧
      elapsed s q.acq (q.lockUs * 1000) = true :=
  ⟨{ base with ctl := { base.ctl with seqs := [(7, ⟨0, 10, [4], []⟩)] }, up := 10000 }, ⟨0, 10, [4], []⟩, by decide, by decide,
    by decide, by decide⟩

/-- ArbiterGrants, ArbiterCountsLosses: requesters 0, 1 and 7 contest. -/
theorem witness_ArbiterGrants :
    ∃ (s : State) (l : Nat), (.busGrant 0x83 0x020084 : Instr).wf = true ∧ contestants s 0x83 ≠ [] ∧ l < 8 ∧
      sget s.arb.lastOf (s.regF (R.CB_PRI 0) 0 4) = some l :=
  ⟨{ base with arb := { base.arb with lastOf := [(base.regF (R.CB_PRI 0) 0 4, 7)] } }, 7, by decide, by decide, by decide,
    by decide⟩
theorem witness_ArbiterCountsLosses :
    ∃ (s : State) (w : Nat), (.busGrant 0x83 0x020084 : Instr).wf = true ∧ winner s (contestants s 0x83) = some w ∧
      7 ∈ contestants s 0x83 ∧ 7 ≠ w ∧ 6 ∉ contestants s 0x83 :=
  ⟨base, 0, by decide, by decide, by decide, by decide, by decide⟩

theorem witness_BadHostFramesDoNothing :
    (.hostWr 0x020084 5#32 0 : Instr).wf = true ∧ 0 ≠ crc16 (hostHead 0x02 0x020084 ++ wordBytes [5#32]) ∧
    (.hostWrb 0x020084 [5#32] none 0 : Instr).wf = true ∧
      0 ≠ crc16 (hostHead 0x03 0x020084 ++ beBytes 1 ([5#32].length - 1) ++ wordBytes [5#32]) ∧
    (.hostRd 0x020084 0 : Instr).wf = true ∧ 0 ≠ crc16 (hostHead 0x0B 0x020084) ∧
    (.hostRdb 0x020084 63 none 0 : Instr).wf = true ∧ 0 ≠ crc16 (hostHead 0x0C 0x020084 ++ beBytes 1 63) ∧
    (.hostFrameAbort 0x020084 [] : Instr).wf = true := by decide

/-- BurstStopsAtFirstRejectedWord: a word that is taken, then one that is not, written and read. -/
theorem witness_BurstStopsAtFirstRejectedWord :
    (∃ (s t : State) (v : Word), burstWrite s 1 0x020088 [5#32] none = (t, 0) ∧ (busWrite t 1 0x02008C v).2 ≠ 0) ∧
    (∃ (s t : State) (v : Word), burstWrite s 1 0x020084 [0x3E80100#32] none = (t, 0) ∧ (busWrite t 1 0x020088 v).2 = 0) ∧
    (∃ (s t : State) (ws : List Word), burstRead 1 s 1 0x020098 none = (t, 0, ws) ∧ (busRead t 1 0x02009C).2.1 ≠ 0) ∧
    ∃ (s t : State) (ws : List Word), burstRead 1 s 1 0x020084 none = (t, 0, ws) ∧ (busRead t 1 0x020088).2.1 = 0 :=
  ⟨⟨base, _, 0#32, Prod.ext rfl (by decide), by decide⟩, ⟨base, _, 5#32, Prod.ext rfl (by decide), by decide⟩,
   ⟨base, _, _, Prod.ext rfl (Prod.ext (by decide) rfl), by decide⟩,
   ⟨base, _, _, Prod.ext rfl (Prod.ext (by decide) rfl), by decide⟩⟩

theorem witness_FieldsAndByteOrders : 0 + 32 ≤ 32 ∧ (31 + 1 ≤ 32 ∧ 30 < 32 ∧ (30 < 31 ∨ 31 + 1 ≤ 30)) := by decide

theorem witness_RegistersBanksAndTablesReadBack : 0xFFFFFF < 2 ^ 24 ∧ 0xFFFFFFFF < 2 ^ 32 := by decide

/-- EventSourcesShown: a page, a software source, and reserved numbers at the edges of their ranges. -/
theorem witness_EventSourcesShown :
    255 < 256 ∧ 0x51 < 0x80 ∧ (0xC0 ≤ 0xCF ∧ 0xCF < 0xD0) ∧ findPage 0x7F = none ∧ (0x95 ≤ 0xBF ∧ 0xBF < 0xC0) ∧
      (0x80 ≤ 0x94 ∧ 0x94 < 0x95) := by decide

/-- AlertLine: nothing asks; asked and driven, in an earlier cycle and in this one; asked after a rest, the record empty and full; asked within
1 µs of the release. -/
theorem witness_AlertLine :
    (∃ s : State, s.islUp 12 = true ∧ alertWanted s = false) ∧
    (∃ s : State, s.islUp 12 = true ∧ alertWanted s = true ∧ s.evt.alert = true ∧ s.evt.firstAt ≠ some s.up) ∧
    (∃ s : State, s.islUp 12 = true ∧ alertWanted s = true ∧ s.evt.alert = true ∧ s.evt.firstAt = some s.up ∧
      s.regB R.EVT_FIRST 31 = true) ∧
    (∃ s : State, s.islUp 12 = true ∧ alertWanted s = true ∧ s.evt.alert = false ∧
      (∀ at_, s.evt.alertRel = some at_ → at_ + 1000 ≤ s.up) ∧ s.regB R.EVT_FIRST 31 = false) ∧
    (∃ s : State, s.islUp 12 = true ∧ alertWanted s = true ∧ s.evt.alert = false ∧
      (∀ at_, s.evt.alertRel = some at_ → at_ + 1000 ≤ s.up) ∧ s.regB R.EVT_FIRST 31 = true) ∧
    ∃ s : State, s.islUp 12 = true ∧ alertWanted s = true ∧ s.evt.alert = false ∧ s.evt.firstAt ≠ some s.up ∧
      ∃ at_, s.evt.alertRel = some at_ ∧ s.up < at_ + 1000 :=
  ⟨⟨base, by decide, by decide⟩,
   ⟨{ alerting with evt := { alerting.evt with alert := true } }, by decide, by decide, by decide, by decide⟩,
   ⟨let r := alerting.setReg R.EVT_FIRST 0x80000000#32
    { r with evt := { r.evt with alert := true, firstAt := some r.up } }, by decide, by decide, by decide, by decide,
    by decide⟩,
   ⟨alerting, by decide, by decide, by decide, (by intro t h; cases h), by decide⟩,
   ⟨alerting.setReg R.EVT_FIRST 0x80000000#32, by decide, by decide, by decide, (by intro t h; cases h), by decide⟩,
   ⟨{ alerting with evt := { alerting.evt with alertRel := some alerting.up } }, by decide, by decide, by decide, by decide,
    _, rfl, by decide⟩⟩

/-- RoundHalfUp, SamplesWidened: a half at shift 1, and both ends of a range. -/
theorem witness_RoundHalfUp : 0 < 1 ∧ ∃ y : Int, (-3 : Int) = 2 ^ 1 * y + 2 ^ (1 - 1) := ⟨by decide, -2, by decide⟩
theorem witness_SamplesWidened : (0 < 3 ∧ 3 ≤ 3 ∧ 0 ≤ 3) ∧ 255 < 256 := by decide

/-- DeratingFactorIsTheSmallest: a cool, a hot and a warm baseplate, a rail at its limit and one past it. -/
theorem witness_DeratingFactorIsTheSmallest :
    (∃ s : State, baseDeg s ≤ (s.regF R.DRV_DERATE 0 7 : Int)) ∧
    (∃ s : State, (s.regF R.DRV_DERATE 0 7 : Int) < baseDeg s ∧ (s.regF R.DRV_DERATE 8 7 : Int) ≤ baseDeg s) ∧
    (∃ s : State, (s.regF R.DRV_DERATE 0 7 : Int) < baseDeg s ∧ baseDeg s < (s.regF R.DRV_DERATE 8 7 : Int)) ∧
    120 * 100000000000 ≤ 120 * 100000000000 ∧ 120 * 100000000000 < 120 * 100000000000 + 1 :=
  ⟨⟨base, by decide⟩, ⟨base.setReg R.THM_BASE 750#32, by decide, by decide⟩,
   ⟨base.setReg R.THM_BASE 660#32, by decide, by decide⟩, by decide, by decide⟩

theorem witness_AccumulatorsAndSpills : (100 : Nat) ≠ 0 := by decide

/-- VaultReadTellsNoSecret: two states whose slot 9 differs in its secret bytes alone. -/
theorem witness_VaultReadTellsNoSecret :
    ∃ s t : State, (4 ≤ 9 ∧ 9 < 32) ∧ slotBytes s 9 ≠ slotBytes t 9 ∧
      ∀ k, (decide (32 ≤ k) && decide (k < 37)) = true → lget (slotBytes s 9) k 0#8 = lget (slotBytes t 9) k 0#8 :=
  ⟨withKey 1#8, withKey 2#8, by decide, by decide, by
    intro k h
    simp only [Bool.and_eq_true, decide_eq_true_eq] at h
    obtain ⟨h1, h2⟩ := h
    rcases (by omega : k = 32 ∨ k = 33 ∨ k = 34 ∨ k = 35 ∨ k = 36) with h | h | h | h | h <;> subst h <;> decide⟩

/-- CalibrationVerdict: runs that disagree, a target beyond the range of a port delay, and one that is accepted. -/
theorem witness_CalibrationVerdict :
    (∃ s : State, qtyTol s 0 * 16 < ((s.qty 0).runA - (s.qty 0).runB).natAbs) ∧
    (∃ s : State, ((s.qty 0).runA - (s.qty 0).runB).natAbs ≤ qtyTol s 0 * 16 ∧
      (rnd ((s.qty 0).runA + (s.qty 0).runB) 5 < (qtyRange 0).1 ∨ (qtyRange 0).2 < rnd ((s.qty 0).runA + (s.qty 0).runB) 5)) ∧
    ∃ s : State, ((s.qty 0).runA - (s.qty 0).runB).natAbs ≤ qtyTol s 0 * 16 ∧
      (qtyRange 0).1 ≤ rnd ((s.qty 0).runA + (s.qty 0).runB) 5 ∧ rnd ((s.qty 0).runA + (s.qty 0).runB) 5 ≤ (qtyRange 0).2 :=
  ⟨⟨base.setQty 0 { qty0 with runB := 100000 }, by decide⟩,
   ⟨base.setQty 0 { qty0 with runA := -1000, runB := -1000 }, by decide, by decide⟩, ⟨base, by decide, by decide, by decide⟩⟩

/-- LatestStateRecordCounts: with a record and without. -/
theorem witness_LatestStateRecordCounts :
    (∃ (s : State) (r : LRec), stateRec s false 0x30 0 = some r) ∧ ∃ s : State, stateRec s false 0x30 0 = none :=
  ⟨⟨recorded, _, (Option.some_get (by decide)).symm⟩, ⟨base, by decide⟩⟩

theorem witness_DeviceResetClears :
    ∃ s : State, s.gnt.waiting = [] ∧ s.gnt.level < 2 ∧ s.gnt.cellLost = false :=
  ⟨{ base with gnt := { base.gnt with level := 1 } }, by decide, by decide, by decide⟩

/-! Worked examples and values of the manual -/

/-- The check value of R60 with its two bytes, most significant first. -/
theorem test_host_crc : beBytes 2 (crc16 [0x31#8, 0x32#8, 0x33#8, 0x34#8, 0x35#8, 0x36#8, 0x37#8, 0x38#8, 0x39#8]) =
    [0x29#8, 0xB1#8] := by decide

/-- The check value of R250. -/
theorem test_crc32c :
    ([0x31#8, 0x32#8, 0x33#8, 0x34#8, 0x35#8, 0x36#8, 0x37#8, 0x38#8, 0x39#8].foldl crcByte 0xFFFFFFFF) ^^^ 0xFFFFFFFF =
      0xE3069283 := by decide

/-- R41, Table 2-13: UNMAPPED has status 8. R40: ALIGN has status 5. -/
theorem test_statuses : (busRead base 1 0x070000).2.1 = 8 ∧ (busRead base 1 0x020041).2.1 = 5 := by decide

/-- R54: one requester's window index is not another's. -/
theorem test_banks : (base.setBreg 1 0x0B0040 7#32).breg 2 0x0B0040 = base.breg 2 0x0B0040 := by decide

/-- R197: full-range white. R200: 2-bit alpha 3 is opaque. -/
theorem test_samples : widen true true 255 = 1023 ∧ widen true false 255 = 1020 ∧ toU116 3 3 = 65536 ∧ toU116 1 3 = 21845 := by
  decide

/-- R184: halves round towards plus infinity. -/
theorem test_round : rnd 3 1 = 2 ∧ rnd (-3) 1 = -1 := by decide

/-- A register written through the queue is in force after the step. -/
theorem test_register_write :
    (match step { base with pending := [.registerWrite 1 0x020088 5#32] } with
      | .next t => t.reg 0x020088 == 5#32 && t.pending.isEmpty
      | _ => false) = true := by decide

/-- R12, R47: a value with a reserved bit is rejected with RESERVED (2) and recorded for requester 1 at offset 0x088. -/
theorem test_reserved :
    (match step { base with pending := [.registerWrite 1 0x020088 0x10000#32] } with
      | .next t => t.reg 0x020088 == base.reg 0x020088 && t.reg (R.PG_ERR 2) == 0x81008802#32
      | _ => false) = true := by decide

end Sys2Proof.Tests
end

section
/-! PROOFS. Fields of a register word and the two byte orders of a number (R11): the lemmas, and O23. -/

namespace Sys2Proof.Machine

/-! Fields -/

/-- A number is what lies above a field, the field, and what lies below it. -/
theorem above_nfld_below (n lo w : Nat) :
    2 ^ lo * (2 ^ w * (n / 2 ^ (lo + w)) + nfld n lo w) + n % 2 ^ lo = n := by
  rw [nfld, Nat.shiftRight_eq_div_pow, Nat.pow_add, ← Nat.div_div_eq_div_mul, Nat.div_add_mod, Nat.div_add_mod]

/-- Setting a field replaces it between the bits above and the bits below. -/
theorem setFld_eq (x : Word) (lo w v : Nat) :
    setFld x lo w v = w32 (2 ^ lo * (2 ^ w * (x.toNat / 2 ^ (lo + w)) + v % 2 ^ w) + x.toNat % 2 ^ lo) := by
  have h := above_nfld_below x.toNat lo w
  rw [setFld, fld, Nat.shiftLeft_eq_mul_pow, Nat.shiftLeft_eq_mul_pow]
  rw [Nat.mul_add] at h ⊢
  rw [Nat.mul_comm (nfld _ _ _), Nat.mul_comm (v % _)]
  congr 1
  omega

theorem testBit_nfld (n lo w i : Nat) : (nfld n lo w).testBit i = (decide (i < w) && n.testBit (lo + i)) := by
  rw [nfld, Nat.testBit_mod_two_pow, Nat.testBit_shiftRight]

/-- The bits of a word after a field was set: the value's inside the field, the word's own outside. -/
theorem setFld_getLsbD (x : Word) (lo w v : Nat) {i : Nat} (hi : i < 32) :
    (setFld x lo w v).getLsbD i = if lo ≤ i ∧ i < lo + w then v.testBit (i - lo) else x.getLsbD i := by
  have below : x.toNat % 2 ^ lo < 2 ^ lo := Nat.mod_lt _ (Nat.two_pow_pos lo)
  have value : v % 2 ^ w < 2 ^ w := Nat.mod_lt _ (Nat.two_pow_pos w)
  rw [setFld_eq, w32, BitVec.getLsbD_ofNat, decide_eq_true hi, Bool.true_and, Nat.testBit_two_pow_mul_add _ below,
    Nat.testBit_two_pow_mul_add _ value]
  by_cases hlo : i < lo
  · simp [hlo, Nat.not_le.2 hlo, Nat.testBit_mod_two_pow, BitVec.testBit_toNat]
  · by_cases hw : i - lo < w
    · have inside : lo ≤ i ∧ i < lo + w := by omega
      simp [hlo, hw, inside, Nat.testBit_mod_two_pow]
    · have outside : ¬(lo ≤ i ∧ i < lo + w) := by omega
      have hsum : lo + w + (i - lo - w) = i := by omega
      simp [hlo, hw, outside, Nat.testBit_div_two_pow, hsum, Nat.add_comm, BitVec.testBit_toNat]

/-- A field of a word reads what was written to it, modulo its width. -/
theorem fld_setFld_self (x : Word) {lo w : Nat} (v : Nat) (h : lo + w ≤ 32) : fld (setFld x lo w v) lo w = v % 2 ^ w := by
  refine Nat.eq_of_testBit_eq fun i => ?_
  rw [fld, testBit_nfld, Nat.testBit_mod_two_pow, BitVec.testBit_toNat]
  by_cases hi : i < w
  · have inside : lo ≤ lo + i ∧ lo + i < lo + w := by omega
    rw [setFld_getLsbD x lo w v (by omega), if_pos inside, Nat.add_sub_cancel_left]
  · simp [hi]

/-! Bytes -/

/-- One byte more: the next higher digit comes last. -/
theorem leBytes_succ_concat (k n : Nat) : leBytes (k + 1) n = leBytes k n ++ [BitVec.ofNat 8 (n / 256 ^ k)] := by
  induction k generalizing n with
  | zero => simp [leBytes]
  | succ k ih => rw [leBytes, ih, leBytes, List.cons_append, Nat.div_div_eq_div_mul, Nat.pow_succ']

/-- The two byte orders list the same bytes in opposite directions. -/
theorem beBytes_eq_reverse (k n : Nat) : beBytes k n = (leBytes k n).reverse := by
  induction k with
  | zero => rfl
  | succ k ih => rw [leBytes_succ_concat, List.reverse_concat, beBytes, ih]

/-- Reading most significant first is reading the reversed list least significant first. -/
theorem beNat_reverse (bs : List Byte) : beNat bs.reverse = leNat bs := by
  rw [beNat, List.foldl_reverse]
  induction bs with
  | nil => rfl
  | cons b bs ih => rw [List.foldr_cons, ih, leNat]; omega

theorem leNat_leBytes (k n : Nat) : leNat (leBytes k n) = n % 256 ^ k := by
  induction k generalizing n with
  | zero => simp [leBytes, leNat, Nat.mod_one]
  | succ k ih => rw [leBytes, leNat, ih, BitVec.toNat_ofNat, Nat.pow_succ' (m := 256), Nat.mod_mul]

theorem beNat_beBytes (k n : Nat) : beNat (beBytes k n) = n % 256 ^ k := by
  rw [beBytes_eq_reverse, beNat_reverse, leNat_leBytes]

/-- A register word is its four bytes. -/
theorem w32_leNat_leBytes (x : Word) : w32 (leNat (leBytes 4 x.toNat)) = x := by
  rw [leNat_leBytes, Nat.mod_eq_of_lt (show x.toNat < 256 ^ 4 from x.isLt), w32, BitVec.ofNat_toNat, BitVec.setWidth_eq]

/-- Settles O23: fields bit by bit, byte lists by induction on their length. -/
theorem fieldsAndByteOrders : Obligations.FieldsAndByteOrders := by
  unfold Obligations.FieldsAndByteOrders
  refine ⟨fun x lo w v h => ⟨fld_setFld_self x v h, fun i hi outside => ?_⟩,
    fun k n => ⟨leNat_leBytes k n, beNat_beBytes k n, beBytes_eq_reverse k n⟩, w32_leNat_leBytes⟩
  rw [setFld_getLsbD x lo w v hi, if_neg (by omega)]

end Sys2Proof.Machine
end

section
/-! PROOFS. The rejection of register writes (R12, R57, R93): the lemmas, and O15. -/

namespace Sys2Proof.Machine

/-- Every error code is a status other than OKAY (Table 2-13). -/
theorem Err.code_ne_zero (e : Err) : e.code ≠ 0 := by cases e <;> decide

/-- No error is reported only where there is none. -/
theorem firstError_eq_none {es : List (Err × Nat)} : firstError es = none ↔ es = [] := by
  cases es <;> simp [firstError]

/-- A cause makes the one-error list of its check. -/
theorem mem_errIf {b : Bool} (e : Err) (o : Nat) (h : b = true) : (e, o) ∈ errIf b e o := by simp [errIf, h]

/-- A write that meets an error of its register is answered with the code of one that comes first in the order of R57. -/
theorem busWrite_rejected {s : State} {req a : Nat} {v : Word} {d : PageD} {r : RegD} {es : List (Err × Nat)}
    (target : findTarget (locksDue s) req a = .reg d r)
    (errors : writeErrors (locksDue s) (if holds (locksDue s) req d.num then seqView (locksDue s) req else locksDue s)
      req a d r v = es) (hne : es ≠ []) :
    ∃ e ∈ es, (∀ x ∈ es, e.1.prio ≤ x.1.prio) ∧ (busWrite s req a v).2 = e.1.code := by
  obtain ⟨e, he⟩ := Option.ne_none_iff_exists'.1 (mt firstError_eq_none.1 hne)
  obtain ⟨hmem, hfirst⟩ := firstError_spec he
  refine ⟨e, hmem, hfirst, ?_⟩
  simp [busWrite, busWriteAt, target, errors, he]

/-- R12: a value with a reserved bit is an error of every register. -/
theorem reserved_mem_writeErrors (s t : State) (req a : Nat) (d : PageD) {r : RegD} {v : Word}
    (h : setsReserved r.fields v = true) : (.reserved, offOf a) ∈ writeErrors s t req a d r v := by
  simp only [writeErrors, List.mem_append]
  have := mem_errIf .reserved (offOf a) h
  tauto

/-- R93: on every page but CBUS the bar of a requester is an error of its writes. -/
theorem barrier_mem_writeErrors {s : State} (t : State) {req : Nat} (a : Nat) {d : PageD} (r : RegD) (v : Word)
    (barred : s.regB R.CB_BARRIER req = true) (page : d.num ≠ 2) :
    (.state, offOf a) ∈ writeErrors s t req a d r v := by
  have cause : (d.num != 0x02 && s.regB R.CB_BARRIER req) = true := by simp [barred, page]
  have := mem_errIf .state (offOf a) cause
  simp only [writeErrors, List.mem_append]
  tauto

/-- Settles O15: each of the two causes is among the write's errors, and a write with errors is answered with the code
of one of them. -/
theorem reservedBitsAndBarredRequesters : Obligations.ReservedBitsAndBarredRequesters := by
  rintro s _ req a v d r rfl target
  refine ⟨fun reserved => ?_, fun barred page => ?_⟩
  · obtain ⟨e, -, -, status⟩ := busWrite_rejected target rfl
      (List.ne_nil_of_mem (reserved_mem_writeErrors _ _ req a d reserved))
    exact status ▸ e.1.code_ne_zero
  · obtain ⟨e, hmem, -, status⟩ := busWrite_rejected target rfl
      (List.ne_nil_of_mem (barrier_mem_writeErrors _ a r v barred page))
    refine ⟨status ▸ e.1.code_ne_zero, fun only => ?_⟩
    rw [status, only e hmem]
    rfl

end Sys2Proof.Machine
end

section
/-! PROOFS. Reading back what was stored (R54, 2.1), and fields beside the one that is set: the lemmas, and O22. -/

namespace Sys2Proof.Machine

/-- Setting a field leaves every field that lies beside it. -/
theorem fld_setFld_disjoint (x : Word) {lo w lo' w' : Nat} (v : Nat) (h' : lo' + w' ≤ 32)
    (beside : lo' + w' ≤ lo ∨ lo + w ≤ lo') : fld (setFld x lo w v) lo' w' = fld x lo' w' := by
  refine Nat.eq_of_testBit_eq fun i => ?_
  rw [fld, fld, testBit_nfld, testBit_nfld, BitVec.testBit_toNat, BitVec.testBit_toNat]
  by_cases hi : i < w'
  · rw [setFld_getLsbD x lo w v (by omega), if_neg (by omega)]
  · simp [hi]

/-- Settles O22: a read after a write, for each of the three stores. -/
theorem registersBanksAndTablesReadBack : Obligations.RegistersBanksAndTablesReadBack :=
  fun s => ⟨setReg_reg s, fun _ _ _ _ v ha hb => setBreg_breg s ha hb v, fun _ _ _ _ ws hi hj => setEnt_ent s hi hj ws⟩

end Sys2Proof.Machine
end

section
/-! PROOFS. Accesses that reach no register (R20, R40, R41, R43, R616): where each ends, and O9 to O11. -/

namespace Sys2Proof.Machine

/-- An access that ends before a register is asked answers a write and a read alike, and a read with no data. -/
theorem access_of_ends {s t : State} {req a st : Nat} (h : findTarget (locksDue s) req a = .ends t st) (v : Word) :
    busWrite s req a v = (t, st) ∧ busRead s req a = (t, st, 0#32) := by
  simp [busWrite, busWriteAt, busRead, busReadAt, h]

/-- R41: each of the three cases leaves no register at the address. -/
theorem locate_eq_none (s : State) {a : Nat}
    (h : findPage (pageOf a) = none ∨ 0x1000 ≤ a % 0x10000 ∨ findReg (a - a % 4) = none) : locate s a = none := by
  have noReg : 0x1000 ≤ a % 0x10000 → findReg (a - a % 4) = none := fun high => by
    have bad : addrOk (a - a % 4) = false := by simp [addrOk]; omega
    simp [findReg, bad]
  rcases h with page | high | reg
  · simp [locate, page]
  · simp [locate, noReg high]
  · simp [locate, reg]

/-- A register that an address names lies on the page of the address. -/
theorem locate_page {s : State} {a : Nat} {d : PageD} {r : RegD} (h : locate s a = some (d, r)) : d.num = pageOf a := by
  unfold locate at h
  split at h
  · next d' r' hpage _ =>
    obtain ⟨-, e⟩ := Option.ite_none_right_eq_some.1 h
    obtain ⟨rfl, rfl⟩ := Prod.ext_iff.1 (Option.some.inj e)
    simpa using List.find?_some hpage
  · cases h

/-! Where an access ends, case by case -/

section
variable {s : State} {req a : Nat} (running : s.islUp 12 = true)
include running

/-- UNMAPPED is recorded on the page where that is listed and bits 15..12 are zero, else in DEV_UNMAP (R43). -/
theorem findTarget_unmapped (h : locate s a = none) : findTarget s req a =
    .ends (if (findPage (pageOf a)).isSome = true ∧ a % 0x10000 < 0x1000 then rejectRecord s req (pageOf a) (offOf a) .unmapped
      else unmapRecord s req a) 8 := by
  simp only [findTarget, running, h, Bool.and_eq_true, decide_eq_true_eq, Bool.not_true, Bool.false_eq_true, if_false]
  split <;> rfl

variable {d : PageD} {r : RegD} (found : locate s a = some (d, r))
include found

theorem findTarget_misaligned (h : a % 4 ≠ 0) :
    findTarget s req a = .ends (rejectRecord s req d.num (offOf a) .align) 5 := by
  simp [findTarget, running, found, h, Err.code]

variable (aligned : a % 4 = 0)
include aligned

theorem findTarget_unserved (h : servedPage s d.num = false) : findTarget s req a = .ends s 7 := by
  simp [findTarget, running, found, aligned, h, Err.code]

theorem findTarget_resetting (served : servedPage s d.num = true) (fitted : s.fitted d.num = true)
    (down : s.islUp d.isl = false) (other : heldHeader (offOf a) = false) :
    findTarget s req a = .ends (abortCount s d.isl 1) 0x40 := by
  simp [findTarget, running, found, aligned, served, fitted, down, other]

end

/-- Settles O9. -/
theorem misalignedAccessRejected : Obligations.MisalignedAccessRejected := by
  rintro s _ req a v d r rfl running found misaligned
  exact access_of_ends (findTarget_misaligned running found misaligned) v

/-- Settles O10. -/
theorem unmappedAccessRejected : Obligations.UnmappedAccessRejected := by
  rintro s _ req a v rfl running absent
  exact access_of_ends (findTarget_unmapped running (locate_eq_none _ absent)) v

/-! ISL_ABORT -/

/-- R18: one abort more, up to 65,535. -/
theorem abortCount_count (s : State) (i : Nat) :
    (abortCount s i 1).regF R.ISL_ABORT 0 16 = min (s.regF R.ISL_ABORT 0 16 + 1) 65535 := by
  have kept : (abortCount s i 1).regF R.ISL_ABORT 0 16 = (s.count R.ISL_ABORT 0 16 1).regF R.ISL_ABORT 0 16 := by
    simp [abortCount, State.regF, fld_setFld_disjoint]
  have counted := fld_setFld_self (s.reg R.ISL_ABORT) (lo := 0) (w := 16) (satAdd 16 (s.regF R.ISL_ABORT 0 16) 1) (by omega)
  rw [kept, State.count, State.regF, setRegF_reg_self, counted, satAdd]
  omega

/-- The island of the last abort. -/
theorem abortCount_island (s : State) (i : Nat) : (abortCount s i 1).regF R.ISL_ABORT 16 4 = i % 16 := by
  simp [abortCount, State.regF, fld_setFld_self]

/-- Counting an abort changes registers alone. -/
theorem abortCount_regs (s : State) (i n : Nat) : ∃ r, abortCount s i n = { s with regs := r } := by
  unfold abortCount
  exact ite_ind (P := fun t : State => ∃ r, t = { s with regs := r }) ⟨s.regs, rfl⟩ ⟨_, rfl⟩

theorem abortCount_reg_ne (s : State) (i : Nat) {x : Nat} (h : x ≠ R.ISL_ABORT) : (abortCount s i 1).reg x = s.reg x :=
  (setRegF_reg_ne _ h _ _ _).trans (count_reg_ne s h _ _ _)

/-- Settles O11. -/
theorem unservedPagesAndResettingIslands : Obligations.UnservedPagesAndResettingIslands := by
  rintro s _ req a v d r rfl running found aligned
  refine ⟨fun unserved => access_of_ends (findTarget_unserved running found aligned unserved) v,
    fun served fitted down other => ⟨abortCount (locksDue s) d.isl 1, ?_⟩⟩
  obtain ⟨write, read⟩ := access_of_ends (findTarget_resetting running found aligned served fitted down other) v
  obtain ⟨_, regs⟩ := abortCount_regs (locksDue s) d.isl 1
  exact ⟨write, read, by rw [regs], fun x => abortCount_reg_ne _ _, abortCount_count _ _, abortCount_island _ _⟩

end Sys2Proof.Machine
end
section
/-! PROOFS. Rejections (R43, R47, R56, R57): their record, what else a rejected write changes, which cause it reports, and
O12 to O14. -/

namespace Sys2Proof.Machine

/-! The record (Table 2-9) -/

/-- Raising an event of page `p` leaves its PG_ERR alone. -/
theorem raise_pgErr (s : State) (p n : Nat) : (raise s p n).reg (R.PG_ERR p) = s.reg (R.PG_ERR p) := by
  refine raise_reg ?_
  simp only [eventReg, Bool.false_eq_true, if_false, R.PG_ERR, R.PG_EVRAW, R.EVT_FIRST, R.EVT_LOGCNT, R.LIN_FAIL, R.LIN_CNT0,
    R.LIN_CNT1]
  omega

/-- R47: the first rejection is recorded whole. -/
theorem rejectRecord_first {s : State} {p : Nat} (req o : Nat) (e : Err) (h : s.regB (R.PG_ERR p) 31 = false) :
    (rejectRecord s req p o e).reg (R.PG_ERR p) = w32 (e.code + o * 256 + req * 2 ^ 24 + 2 ^ 31) := by
  simp [rejectRecord, raise_pgErr, h]

/-- R47: a later one sets OVF. -/
theorem rejectRecord_later {s : State} {p : Nat} (req o : Nat) (e : Err) (h : s.regB (R.PG_ERR p) 31 = true) :
    (rejectRecord s req p o e).reg (R.PG_ERR p) = setBit (s.reg (R.PG_ERR p)) 28 true := by
  simp only [rejectRecord, raise_pgErr, h, if_true]
  exact setRegF_reg_self ..

/-- Setting a bit is an OR with its mask. -/
theorem setBit_true_eq_or (x : Word) (i : Nat) : setBit x i true = x ||| BitVec.twoPow 32 i := by
  refine BitVec.eq_of_getLsbD_eq fun j hj => ?_
  rw [setBit, setFld_getLsbD x i 1 _ hj, BitVec.getLsbD_or, BitVec.getLsbD_twoPow]
  by_cases hij : i = j
  · subst hij
    simp [b2n, hj]
  · rw [if_neg (by omega)]
    simp [hij]

/-- The fields of a record as they were put together. -/
theorem recordWord_fields {c o req : Nat} (hc : c < 256) (ho : o < 0x1000) (hr : req < 8) :
    let w := w32 (c + o * 256 + req * 2 ^ 24 + 2 ^ 31)
    fld w 0 8 = c ∧ fld w 8 12 = o ∧ fld w 24 3 = req ∧ bit w 28 = false ∧ bit w 31 = true := by
  have small : (c + o * 256 + req * 2 ^ 24 + 2 ^ 31) % 2 ^ 32 = c + o * 256 + req * 2 ^ 24 + 2 ^ 31 := by omega
  simp only [bit, fld, nfld, w32, BitVec.toNat_ofNat, small, Nat.shiftRight_eq_div_pow, decide_eq_false_iff_not,
    decide_eq_true_eq]
  omega

theorem Err.code_lt (e : Err) : e.code < 256 := by cases e <;> decide

/-- R47: a write of PG_ERR acts on its bit 31 alone. -/
theorem storeWord_pgErr (s : State) (req p : Nat) (hp : p < 256) (r : RegD) (v : Word) :
    storeWord s req (R.PG_ERR p) r v = if bit v 31 then s.setReg (R.PG_ERR p) 0#32 else s := by
  have page : pageOf (R.PG_ERR p) = p := by unfold pageOf R.PG_ERR; omega
  have off : offOf (R.PG_ERR p) = 0x1C := by unfold offOf R.PG_ERR; omega
  have home : homeAddr (R.PG_ERR p) = R.PG_ERR p := by simp [homeAddr, off]
  have direct : isST (R.PG_ERR p) = false := by
    have ok : addrOk (R.PG_ERR p) = true := by simp [addrOk, R.PG_ERR]; omega
    cases h : findPage p with
    | none => simp [isST, fieldsOf, findReg, ok, page, h]
    | some d => simp [isST, fieldsOf, findReg, ok, page, off, h, headerRegs, RegD.at, rd, fd]
  have clears : recClears (R.PG_ERR p) = true := by simp [recClears, off]
  simp only [storeWord, home, direct, clears, Bool.false_eq_true, if_false, if_true]

/-- Settles O12. -/
theorem rejectionRecord : Obligations.RejectionRecord := by
  intro s req p o e hp hr ho
  refine ⟨fun first => ?_, fun later => ?_, storeWord_pgErr s req p hp⟩
  · rw [rejectRecord_first req o e first]
    exact recordWord_fields e.code_lt ho hr
  · rw [rejectRecord_later req o e later, setBit_true_eq_or]
    rfl

/-! What a rejected write changes (R56) -/

/-- The registers that recording a rejection may write: the record, and what raising its event writes (R557 to R562). -/
def recordReg (x : Nat) : Prop :=
  (∃ p, x = R.PG_ERR p ∨ x = R.PG_EVRAW p) ∨ x = R.DEV_UNMAP ∨ x = R.EVT_FIRST ∨ x = R.EVT_LOGCNT ∨ x = R.LIN_FAIL ∨
    x = R.LIN_CNT0 ∨ x = R.LIN_CNT1

/-- Two states that differ at most by the record of a rejection and the event that it raises. -/
def RecordOnly (s t : State) : Prop := EventOnly s t ∧ ∀ x, ¬recordReg x → t.reg x = s.reg x

theorem RecordOnly.refl (s : State) : RecordOnly s s := ⟨EventOnly.refl s, fun _ _ => rfl⟩

theorem setReg_recordOnly (s : State) {a : Nat} (v : Word) (ha : recordReg a) : RecordOnly s (s.setReg a v) :=
  ⟨setReg_eventOnly s a v, fun x hx => setReg_reg_ne s (fun e : x = a => hx (e ▸ ha)) v⟩

/-- Every register that raising a page's event writes is one of a record. -/
theorem recordReg_of_eventReg {p x : Nat} (h : eventReg p false x) : recordReg x := by
  rcases h with own | evt | lin | counters
  · exact .inl ⟨p, .inr own⟩
  · exact .inl ⟨_, .inr evt⟩
  · exact .inl ⟨_, .inr lin⟩
  · exact .inr (.inr counters)

theorem rejectRecord_recordOnly (s : State) (req p o : Nat) (e : Err) : RecordOnly s (rejectRecord s req p o e) := by
  have record := fun v => setReg_recordOnly s (a := R.PG_ERR p) v (.inl ⟨p, .inl rfl⟩)
  have raised : ∀ u, RecordOnly s u → RecordOnly s (raise u p 31) := fun u hu =>
    ⟨hu.1.trans (raise_eventOnly u p 31), fun x hx => (raise_reg (mt recordReg_of_eventReg hx)).trans (hu.2 x hx)⟩
  exact raised _ (ite_ind (record _) (record _))

theorem unmapRecord_recordOnly (s : State) (req a : Nat) : RecordOnly s (unmapRecord s req a) :=
  ite_ind (RecordOnly.refl s) (setReg_recordOnly s _ (.inr (.inl rfl)))

/-- An access that ends before a register is asked, other than at a fence, leaves at most its record. -/
theorem findTarget_ends_recordOnly {s t : State} {req a st : Nat} (h : findTarget s req a = .ends t st) (hst : st ≠ 0x40) :
    RecordOnly s t := by
  unfold findTarget at h
  repeat' split at h
  all_goals simp only [Found.ends.injEq, reduceCtorEq] at h
  all_goals obtain ⟨rfl, rfl⟩ := h
  · exact absurd rfl hst
  · exact rejectRecord_recordOnly ..
  · exact unmapRecord_recordOnly ..
  · exact rejectRecord_recordOnly ..
  · exact RecordOnly.refl _
  · exact absurd rfl hst

/-- A release that fails leaves its record alone. -/
theorem lockRelease_recordOnly {s t : State} {req st : Nat} (h : lockRelease s req = (t, st)) (hst : st ≠ 0) :
    RecordOnly s t := by
  unfold lockRelease at h
  split at h
  · cases h; exact absurd rfl hst
  · split at h
    · cases h; exact rejectRecord_recordOnly ..
    · cases h; exact absurd rfl hst

/-- What a write of `a` may leave where its status is neither OKAY nor RESET_ABORT: the record, and for HTK_ENQ_OP what
the refusal does to the ATOMIC flow (R128), staged where the requester holds the page. -/
def RefusedWrite (s t : State) (req a : Nat) : Prop :=
  ∃ u, RecordOnly s u ∧ (t = u ∨
    a = 0x0400C0 ∧ t = if holds s req 0x04 then stageWrite u req a refusedEnq else refuseGroup u (bufItem s req))

theorem rejectWrite_refused {s t : State} {req a : Nat} {d : PageD} (page : d.num = pageOf a) (v : Word) (e : Err × Nat)
    (view : holds s req d.num = false → t = s) : RefusedWrite s (rejectWrite s t req a d v e) req a := by
  refine ⟨_, rejectRecord_recordOnly s req d.num e.2 e.1, ?_⟩
  unfold rejectWrite
  simp only []
  split
  · next enq =>
    have htk : d.num = 0x04 := by rw [page, enq.1]; rfl
    rw [htk] at view ⊢
    refine .inr ⟨enq.1, ?_⟩
    split
    · rfl
    · next free => rw [view (by simpa using free)]
  · exact .inl rfl

theorem busWriteAt_refused {s t : State} {req a st : Nat} {v : Word} (h : busWriteAt s req a v = (t, st)) (h0 : st ≠ 0)
    (h40 : st ≠ 0x40) : RefusedWrite s t req a := by
  have recorded : ∀ {u}, RecordOnly s u → RefusedWrite s u req a := fun hu => ⟨_, hu, .inl rfl⟩
  unfold busWriteAt at h
  split at h
  · next target => cases h; exact recorded (findTarget_ends_recordOnly target h40)
  · next d r target =>
    simp only [] at h
    split at h
    · cases h
      exact rejectWrite_refused (locate_page (findTarget_reg target)) v _ fun free => by simp [free]
    · split at h
      · split at h
        · cases h; exact absurd rfl h0
        · split at h
          · exact recorded (lockRelease_recordOnly h h0)
          · cases h; exact absurd rfl h0
      · split at h
        · cases h; exact absurd rfl h0
        · unfold takeFenced at h
          split at h
          · cases h; exact absurd rfl h40
          · cases h; exact absurd rfl h0

/-- Settles O13. -/
theorem rejectedWriteChangesNothing : Obligations.RejectedWriteChangesNothing := by
  rintro s _ t req a st v rfl write h0 h40
  obtain ⟨u, ⟨frame, regs⟩, left⟩ := busWriteAt_refused write h0 h40
  exact ⟨u, left, frame, fun x hx => Classical.not_not.1 (mt (regs x) hx)⟩

/-! The order of R57 -/

/-- An access that reaches a register is aligned. -/
theorem findTarget_aligned {s : State} {req a : Nat} {d : PageD} {r : RegD} (h : findTarget s req a = .reg d r) : a % 4 = 0 := by
  by_contra misaligned
  unfold findTarget at h
  repeat' split at h
  all_goals simp_all

/-- Settles O14. -/
theorem firstCauseReported : Obligations.FirstCauseReported := by
  refine ⟨by decide, ?_⟩
  rintro s _ req a v d r rfl target
  exact ⟨findTarget_reg target, findTarget_aligned target, busWrite_rejected target rfl⟩

end Sys2Proof.Machine
end

section
/-! PROOFS. The host port (R60 to R63): its CRC bit by bit, frames that do no access, and O19 and O20. -/

namespace Sys2Proof.Machine

/-! CRC-16/CCITT -/

/-- The register of R60 shifts left by one and applies the polynomial when `out` is set. -/
def crcShift (r : Nat) (out : Bool) : Nat := if out then (r * 2 % 65536) ^^^ 0x1021 else r * 2 % 65536

theorem xor_mul_two_mod (r y : Nat) : (r ^^^ y) * 2 % 65536 = (r * 2 % 65536) ^^^ (y * 2 % 65536) := by
  have shifted := Nat.shiftLeft_xor_distrib (a := r) (b := y) (i := 1)
  simp only [Nat.shiftLeft_eq, pow_one] at shifted
  rw [shifted]
  exact Nat.xor_mod_two_pow (n := 16)

/-- A message that is added to the register beforehand is one that meets it at its top bit: each shift takes one bit. -/
theorem crcShift_xor (r y : Nat) :
    crcShift (r ^^^ y) ((r ^^^ y).testBit 15) = crcShift r (r.testBit 15 != y.testBit 15) ^^^ (y * 2 % 65536) := by
  rw [crcShift, crcShift, Nat.testBit_xor, xor_mul_two_mod]
  split
  · rw [Nat.xor_right_comm]
  · rfl

/-- The top bit of a message that was shifted `n` times. -/
theorem testBit_fifteen_mul_pow (y : Nat) {n : Nat} (h : n ≤ 15) : (y * 2 ^ n % 65536).testBit 15 = y.testBit (15 - n) := by
  have := Nat.testBit_mod_two_pow (y * 2 ^ n) 16 15
  rw [this, Nat.testBit_mul_two_pow]
  simp [h]

/-- After `n` shifts the register that the message was added to is the bit-serial one and what is left of the message. -/
theorem crcShifts_xor (r y n : Nat) (hy : y < 65536) (h : n ≤ 15) :
    (List.range n).foldl (fun x _ => crcShift x (x.testBit 15)) (r ^^^ y) =
      ((List.range n).map fun i => y.testBit (15 - i)).foldl (fun r m => crcShift r (r.testBit 15 != m)) r ^^^
        (y * 2 ^ n % 65536) := by
  induction n with
  | zero => simp [Nat.mod_eq_of_lt hy]
  | succ n ih =>
    have left : y * 2 ^ n % 65536 * 2 % 65536 = y * 2 ^ (n + 1) % 65536 := by
      rw [Nat.mod_mul_mod, Nat.mul_assoc, ← Nat.pow_succ]
    rw [List.range_succ, List.foldl_concat, ih (by omega), crcShift_xor, testBit_fifteen_mul_pow y (by omega), left,
      List.map_append, List.foldl_append]
    rfl

/-- One byte of the model's CRC is eight bits of the bit-serial one, most significant first. -/
theorem crc16Step_eq_bits (c : Nat) (b : Byte) : crc16Step c b =
    ((List.range 8).map fun i => b.toNat.testBit (7 - i)).foldl (fun r m => crcShift r (r.testBit 15 != m)) c := by
  have small : b.toNat * 256 < 65536 := by have := b.isLt; omega
  have bits : ((List.range 8).map fun i => (b.toNat * 256).testBit (15 - i)) =
      (List.range 8).map fun i => b.toNat.testBit (7 - i) := by
    refine List.map_congr_left fun i hi => ?_
    have hi := List.mem_range.1 hi
    have high : 8 ≤ 15 - i := by omega
    have place : 15 - i - 8 = 7 - i := by omega
    rw [show (256 : Nat) = 2 ^ 8 from rfl, Nat.testBit_mul_two_pow, place, decide_eq_true high, Bool.true_and]
  have spent : b.toNat * 256 * 2 ^ 8 % 65536 = 0 := by omega
  have := crcShifts_xor c (b.toNat * 256) 8 small (by omega)
  rw [bits, spent, Nat.xor_zero] at this
  exact this

/-- The register after each byte of the check string of R60. -/
theorem crc16_check_steps :
    crc16Step 0xFFFF 0x31#8 = 0xC782 ∧ crc16Step 0xC782 0x32#8 = 0x3DBA ∧ crc16Step 0x3DBA 0x33#8 = 0x5BCE ∧
      crc16Step 0x5BCE 0x34#8 = 0x5349 ∧ crc16Step 0x5349 0x35#8 = 0x4560 ∧ crc16Step 0x4560 0x36#8 = 0x2EF4 ∧
      crc16Step 0x2EF4 0x37#8 = 0x7718 ∧ crc16Step 0x7718 0x38#8 = 0xA12B ∧ crc16Step 0xA12B 0x39#8 = 0x29B1 := by
  decide

/-- Settles O19: the CRC of a list byte by byte, each byte bit by bit. -/
theorem hostPortCrc : Obligations.HostPortCrc := by
  refine ⟨fun bs => ?_, ?_, fun s st ws => ?_⟩
  · rw [List.foldl_flatMap, crc16]
    congr 1
    funext c b
    exact crc16Step_eq_bits c b
  · simp [crc16, crc16_check_steps]
  · simp [hostData, hostDrive, beBytes]

/-! Frames that do no access -/

/-! A frame whose CRC fails is answered with status 0x41 (R62): a write with its complement (R61), a read with zero words. -/

theorem hostWr_badCrc {s : State} {addr crc : Nat} {v : Word} (bad : crc ≠ crc16 (hostHead 0x02 addr ++ wordBytes [v])) :
    hostWr s addr v crc = hostDrive s [0x41#8, 0xBE#8] := if_pos bad

theorem hostWrb_badCrc {s : State} {addr crc : Nat} {ws : List Word} (cut : Option Nat)
    (bad : crc ≠ crc16 (hostHead 0x03 addr ++ beBytes 1 (ws.length - 1) ++ wordBytes ws)) :
    hostWrb s addr ws cut crc = hostDrive s [0x41#8, 0xBE#8] := if_pos bad

theorem hostRd_badCrc {s : State} {addr crc : Nat} (bad : crc ≠ crc16 (hostHead 0x0B addr)) :
    hostRd s addr crc = hostData s 0x41 [0#32] := if_pos bad

theorem hostRdb_badCrc {s : State} {addr n crc : Nat} (cut : Option Nat)
    (bad : crc ≠ crc16 (hostHead 0x0C addr ++ beBytes 1 n)) :
    hostRdb s addr n cut crc = hostData s 0x41 (List.replicate (n + 1) 0#32) := if_pos bad

/-- A frame that ends before its first access does none (R63). -/
theorem hostAbort_nil (s : State) (addr : Nat) : hostAbort s addr [] = hostDrive s [] := rfl

/-- Settles O20: each frame's command is its effect on the port and what follows from it. -/
theorem badHostFramesDoNothing : Obligations.BadHostFramesDoNothing := by
  intro s addr n crc v ws cut
  refine ⟨fun wf bad => ?_, fun wf bad => ?_, fun wf bad => ?_, fun wf bad => ?_, fun wf => ?_⟩
  · exact hostWr_badCrc bad ▸ guarded_settled wf
  · exact hostWrb_badCrc cut bad ▸ guarded_settled wf
  · exact hostRd_badCrc bad ▸ guarded_settled wf
  · exact hostRdb_badCrc cut bad ▸ guarded_settled wf
  · exact hostAbort_nil s addr ▸ guarded_settled wf

end Sys2Proof.Machine
end

section
/-! PROOFS. Bursts (R64): a burst continues where its words so far were done, and O21. -/

namespace Sys2Proof.Machine

/-- Where the words of a write burst so far were all done, the rest is a burst from the state and the address after them. -/
theorem burstWrite_append {s t : State} {req a : Nat} {us : List Word} (h : burstWrite s req a us none = (t, 0))
    (vs : List Word) : burstWrite s req a (us ++ vs) none = burstWrite t req (a + 4 * us.length) vs none := by
  induction us generalizing s a with
  | nil => cases h; rfl
  | cons u us ih =>
    rw [burstWrite] at h
    rw [List.cons_append, burstWrite]
    simp only [reduceCtorEq, if_false, Option.map_none] at h ⊢
    split at h
    · next ok =>
      have next : a + 4 * (u :: us).length = a + 4 + 4 * us.length := by simp only [List.length_cons]; omega
      rw [if_pos ok, next]
      exact ih h
    · next bad => exact absurd (congrArg Prod.snd h) bad

/-- The same for reads, whose words follow those read so far. -/
theorem burstRead_add {s t : State} {req a n : Nat} {ws : List Word} (h : burstRead n s req a none = (t, 0, ws)) (m : Nat) :
    burstRead (n + m) s req a none =
      ((burstRead m t req (a + 4 * n) none).1, (burstRead m t req (a + 4 * n) none).2.1,
        ws ++ (burstRead m t req (a + 4 * n) none).2.2) := by
  induction n generalizing s a ws with
  | zero => cases h; rw [Nat.zero_add]; rfl
  | succ n ih =>
    rw [burstRead] at h
    rw [Nat.succ_add, burstRead]
    simp only [reduceCtorEq, if_false, Option.map_none] at h ⊢
    split at h
    · next ok =>
      have next : a + 4 * (n + 1) = a + 4 + 4 * n := by omega
      simp only [Prod.mk.injEq] at h
      obtain ⟨state, status, rfl⟩ := h
      rw [if_pos ok, next, ih (Prod.ext state (Prod.ext status rfl))]
      rfl
    · next bad => exact absurd (congrArg (·.2.1) h) bad

/-- The first word of a burst, done: the burst goes on after it. -/
theorem burstWrite_cons_done {s : State} {req a : Nat} {v : Word} (h : (busWrite s req a v).2 = 0) (vs : List Word) :
    burstWrite s req a (v :: vs) none = burstWrite (noteReply (busWrite s req a v).1 a) req (a + 4) vs none := by
  simp [burstWrite, h]

/-- The first word of a burst, not done: it ends the burst. -/
theorem burstWrite_cons_ended {s : State} {req a : Nat} {v : Word} (h : (busWrite s req a v).2 ≠ 0) (vs : List Word) :
    burstWrite s req a (v :: vs) none = (noteReply (busWrite s req a v).1 a, (busWrite s req a v).2) := by
  simp [burstWrite, h]

theorem burstRead_one_done {s : State} {req a : Nat} (h : (busRead s req a).2.1 = 0) :
    burstRead 1 s req a none = (noteReply (busRead s req a).1 a, 0, [(busRead s req a).2.2]) := by
  simp [burstRead, h]

theorem burstRead_succ_ended {s : State} {req a : Nat} (h : (busRead s req a).2.1 ≠ 0) (m : Nat) :
    burstRead (m + 1) s req a none =
      (noteReply (busRead s req a).1 a, (busRead s req a).2.1, List.replicate (m + 1) 0#32) := by
  simp [burstRead, h]

/-- Settles O21: the burst is its words so far, then one that begins with the word in question. -/
theorem burstStopsAtFirstRejectedWord : Obligations.BurstStopsAtFirstRejectedWord := by
  intro s t req a
  refine ⟨fun us vs v sofar => ⟨fun done => ?_, fun ended => ?_⟩, fun n m ws sofar => ⟨fun done => ?_, fun ended => ?_⟩⟩
  · rw [burstWrite_append sofar, burstWrite_cons_done done]
    rfl
  · rw [burstWrite_append sofar, burstWrite_cons_ended ended]
  · rw [burstRead_add sofar, burstRead_one_done done]
  · rw [Nat.add_assoc, Nat.add_comm 1 m, burstRead_add sofar, burstRead_succ_ended ended]

end Sys2Proof.Machine
end

section
/-! PROOFS. A locked sequence at its hold limit (R91 to R93): what its abort leaves, and O16. -/

namespace Sys2Proof.Machine

/-- A bit of a register reads what was stored in it. -/
theorem setRegB_regB_self (s : State) (a : Nat) {i : Nat} (h : i < 32) (b : Bool) : (s.setRegB a i b).regB a i = b := by
  have stored := fld_setFld_self (s.reg a) (lo := i) (w := 1) (b2n b) (by omega)
  rw [State.regB, State.setRegB, setRegF_reg_self, bit, stored]
  cases b <;> rfl

/-- What raising an event leaves of the control bus and of the stores beside the registers. -/
theorem raise_stores (s : State) (p n : Nat) :
    (raise s p n).ctl = s.ctl ∧ (raise s p n).bank = s.bank ∧ (raise s p n).tabs = s.tabs := by
  obtain ⟨_, _, _, h⟩ := raise_eventOnly s p n
  rw [h]
  exact ⟨rfl, rfl, rfl⟩

/-- No event of page CBUS writes a register of that page beyond PG_EVRAW. -/
theorem not_eventReg_cbus {x : Nat} (above : R.PG_EVRAW 2 < x) (below : x < 0x030000) : ¬eventReg 2 false x := by
  simp only [eventReg, Bool.false_eq_true, if_false, R.PG_EVRAW, R.EVT_FIRST, R.EVT_LOGCNT, R.LIN_FAIL, R.LIN_CNT0,
    R.LIN_CNT1] at above ⊢
  omega

/-- R91 to R93: the abort at the hold limit, before its event is raised. -/
def barred (s : State) (r : Nat) (q : LockSeq) : State :=
  ({ s with ctl := { s.ctl with seqs := sdel s.ctl.seqs r } }.setReg R.CB_BROKEN
    (w32 (r + 2 * 16 + q.pages.headD 0 * 256 + satAdd 16 (s.regF R.CB_BROKEN 16 16) 1 * 65536))).setRegB R.CB_BARRIER r true

theorem barred_reg_ne (s : State) (r : Nat) (q : LockSeq) {x : Nat} (broken : x ≠ R.CB_BROKEN) (barrier : x ≠ R.CB_BARRIER) :
    (barred s r q).reg x = s.reg x :=
  (setRegB_reg_ne _ barrier _ _).trans (setReg_reg_ne _ broken _)

theorem barred_broken (s : State) (r : Nat) (q : LockSeq) : (barred s r q).reg R.CB_BROKEN =
    w32 (r + 2 * 16 + q.pages.headD 0 * 256 + min (s.regF R.CB_BROKEN 16 16 + 1) 65535 * 65536) :=
  (setRegB_reg_ne _ (by decide) _ _).trans (setReg_reg_self _ _ _)

/-- A sequence whose hold limit has passed is aborted, and the event is raised (R91). -/
theorem exec_lockHoldExpiry_due {s : State} {r : Nat} {q : LockSeq} (wf : (Instr.lockHoldExpiry r).wf = true)
    (held : sget s.ctl.seqs r = some q) (due : elapsed s q.acq (q.lockUs * 1000) = true) :
    exec (.lockHoldExpiry r) s = .next (alone s (raise (barred s r q) 0x02 0)) := by
  have abort : lockHoldExpiry s r = raise (barred s r q) 0x02 0 := by
    simp only [lockHoldExpiry, seqAbort, held, due, if_true]
    rfl
  exact abort ▸ guarded_alone wf

/-- A page's PG_SEQ is none of the registers that the abort or its event writes. -/
theorem pgSeq_kept (s : State) (r : Nat) (q : LockSeq) (p : Nat) :
    (raise (barred s r q) 0x02 0).reg (R.PG_SEQ p) = s.reg (R.PG_SEQ p) := by
  refine (raise_reg ?_).trans (barred_reg_ne s r q ?_ ?_)
  · simp only [eventReg, Bool.false_eq_true, if_false, R.PG_SEQ, R.PG_EVRAW, R.EVT_FIRST, R.EVT_LOGCNT, R.LIN_FAIL, R.LIN_CNT0,
      R.LIN_CNT1]
    omega
  · unfold R.PG_SEQ R.CB_BROKEN; omega
  · unfold R.PG_SEQ R.CB_BARRIER; omega

/-- Settles O16: the command is the abort and its event, and the event touches none of what the abort left. -/
theorem holdLimitAbortsSequence : Obligations.HoldLimitAbortsSequence := by
  intro s r q hr held _ due
  obtain ⟨ctl, bank, tabs⟩ := raise_stores (barred s r q) 0x02 0
  have barrier : (raise (barred s r q) 0x02 0).reg R.CB_BARRIER = (barred s r q).reg R.CB_BARRIER :=
    raise_reg (not_eventReg_cbus (by decide) (by decide))
  have broken : (raise (barred s r q) 0x02 0).reg R.CB_BROKEN = (barred s r q).reg R.CB_BROKEN :=
    raise_reg (not_eventReg_cbus (by decide) (by decide))
  refine ⟨_, exec_lockHoldExpiry_due (decide_eq_true hr) held due, ctl, ?_, broken.trans (barred_broken s r q),
    fun p _ => pgSeq_kept s r q p, bank, tabs⟩
  exact (congrArg (bit · r) barrier).trans (setRegB_regB_self _ _ (by omega) _)

end Sys2Proof.Machine
end

section
/-! PROOFS. Arbitration (R74): who contests, whom the arbiter chooses, and O17. -/

namespace Sys2Proof.Machine

/-! The contestants -/

theorem contestants_sorted (s : State) (mask : Nat) : (contestants s mask).Pairwise (· < ·) :=
  (List.pairwise_lt_range.filter _).filter _

theorem lt_of_mem_contestants {s : State} {mask r : Nat} (h : r ∈ contestants s mask) : r < 8 :=
  List.mem_range.1 (List.mem_filter.1 (List.mem_filter.1 h).1).1

/-! The highest rank -/

/-- The highest rank of a list of requesters, and those that have it. -/
def topRank (s : State) (cs : List Nat) : Nat := cs.foldl (fun m r => max m (rankReq s r)) 0
def topRanked (s : State) (cs : List Nat) : List Nat := cs.filter fun r => rankReq s r == topRank s cs

theorem mem_topRanked {s : State} {cs : List Nat} {r : Nat} :
    r ∈ topRanked s cs ↔ r ∈ cs ∧ rankReq s r = topRank s cs := by
  rw [topRanked, List.mem_filter, beq_iff_eq]

theorem topRank_eq_max (s : State) (cs : List Nat) : topRank s cs = ((cs.map (rankReq s)).max?).getD 0 := by
  rw [topRank, ← List.foldl_map (g := max), List.foldl_max, Nat.zero_max]

theorem rankReq_le_topRank {s : State} {cs : List Nat} {r : Nat} (h : r ∈ cs) : rankReq s r ≤ topRank s cs := by
  rw [topRank_eq_max]
  exact List.le_max?_getD_of_mem (List.mem_map_of_mem h)

theorem topRanked_ne_nil {s : State} {cs : List Nat} (h : cs ≠ []) : topRanked s cs ≠ [] := by
  have ranks : cs.map (rankReq s) ≠ [] := mt List.map_eq_nil_iff.1 h
  obtain ⟨m, hm⟩ := Option.ne_none_iff_exists'.1 (mt List.max?_eq_none_iff.1 ranks)
  obtain ⟨r, hr, rank⟩ := List.mem_map.1 (List.max?_mem hm)
  exact List.ne_nil_of_mem (mem_topRanked.2 ⟨hr, by rw [topRank_eq_max, hm, rank]; rfl⟩)

/-! Turns among equals -/

/-- Where `last` was granted last: the first of a list beyond it, or else the first of the list. What was granted last is
kept by rank, whatever that requester's rank is now (log entry 99). -/
def nextTurn (last : Option Nat) (rs : List Nat) : Option Nat :=
  match last with
  | some l => match rs.find? fun r => decide (l < r) with
    | some r => some r
    | none => rs.head?
  | none => rs.head?

theorem nextTurn_some (l : Nat) (rs : List Nat) :
    nextTurn (some l) rs = (rs.find? fun r => decide (l < r)).or rs.head? := by
  simp only [nextTurn]
  cases rs.find? fun r => decide (l < r) <;> rfl

/-- The arbiter takes turns among those of the highest rank. -/
theorem winner_eq_nextTurn (s : State) (cs : List Nat) :
    winner s cs = nextTurn (sget s.arb.lastOf (topRank s cs)) (topRanked s cs) := rfl

theorem nextTurn_mem {last : Option Nat} {rs : List Nat} {w : Nat} (h : nextTurn last rs = some w) : w ∈ rs := by
  cases last with
  | none => exact List.mem_of_head? h
  | some l =>
    obtain beyond | ⟨-, first⟩ := Option.or_eq_some_iff.1 (nextTurn_some l rs ▸ h)
    · exact List.mem_of_find?_eq_some beyond
    · exact List.mem_of_head? first

theorem nextTurn_isSome (last : Option Nat) {rs : List Nat} (h : rs ≠ []) : (nextTurn last rs).isSome = true := by
  cases last with
  | none => simpa [nextTurn] using h
  | some l => simp [nextTurn_some, h]

/-- The IDs that a count upwards from `l + 1`, modulo 8, passes before it meets `r`. -/
def turnsAfter (l r : Nat) : Nat := (r + 7 - l) % 8

/-- An ascending list begins with its least. -/
theorem head_le_of_sorted {w r : Nat} {rs : List Nat} (sorted : (w :: rs).Pairwise (· < ·)) (hr : r ∈ w :: rs) : w ≤ r := by
  obtain rfl | later := List.mem_cons.1 hr
  · exact le_rfl
  · exact ((List.pairwise_cons.1 sorted).1 r later).le

/-- In an ascending list of IDs the choice is the one that the count upwards from the last meets first. -/
theorem nextTurn_first {l w r : Nat} {rs : List Nat} (sorted : rs.Pairwise (· < ·)) (ids : ∀ r ∈ rs, r < 8) (hl : l < 8)
    (h : nextTurn (some l) rs = some w) (hr : r ∈ rs) : turnsAfter l w ≤ turnsAfter l r := by
  have hw := ids w (nextTurn_mem h)
  have := ids r hr
  unfold turnsAfter
  obtain beyond | ⟨none, first⟩ := Option.or_eq_some_iff.1 (nextTurn_some l rs ▸ h)
  · obtain ⟨lw, pre, post, rfl, before⟩ := List.find?_eq_some_iff_append.1 beyond
    have lw : l < w := of_decide_eq_true lw
    obtain ⟨-, fromW, -⟩ := List.pairwise_append.1 sorted
    have : r ≤ l ∨ w ≤ r := by
      obtain passed | rest := List.mem_append.1 hr
      · exact .inl (by simpa using before r passed)
      · exact .inr (head_le_of_sorted fromW rest)
    omega
  · have up : ∀ x ∈ rs, x ≤ l := by simpa using none
    obtain ⟨tail, rfl⟩ := List.head?_eq_some_iff.1 first
    have := up w (nextTurn_mem h)
    have := up r hr
    have := head_le_of_sorted sorted hr
    omega

/-! The grant -/

/-- A contest has a winner where there is a contestant. -/
theorem winner_exists {s : State} {cs : List Nat} (h : cs ≠ []) : ∃ w, winner s cs = some w :=
  Option.isSome_iff_exists.1 (winner_eq_nextTurn s cs ▸ nextTurn_isSome _ (topRanked_ne_nil h))

theorem winner_mem_topRanked {s : State} {cs : List Nat} {w : Nat} (h : winner s cs = some w) : w ∈ topRanked s cs :=
  nextTurn_mem (winner_eq_nextTurn s cs ▸ h)

/-- R76: every contestant but the winner. -/
def losers (s : State) (mask w : Nat) : List Nat := (contestants s mask).filter (· != w)

theorem mem_losers {s : State} {mask w r : Nat} : r ∈ losers s mask w ↔ r ∈ contestants s mask ∧ r ≠ w := by
  rw [losers, List.mem_filter, bne_iff_ne]

/-- The command gives the bus to the winner, and every other contestant loses. -/
theorem exec_busGrant_winner {s : State} {mask addr w : Nat} (wf : (Instr.busGrant mask addr).wf = true)
    (won : winner s (contestants s mask) = some w) :
    exec (.busGrant mask addr) s =
      .next (alone s (granted s ((losers s mask w).foldl loses s) w (rankReq s w) addr)) := by
  have grant : busGrant s mask addr = granted s ((losers s mask w).foldl loses s) w (rankReq s w) addr := by
    simp only [busGrant, won]
    rfl
  exact grant ▸ guarded_alone wf

/-- Settles O17: the winner is the next in turn among those of the highest rank. -/
theorem arbiterGrants : Obligations.ArbiterGrants := by
  intro s mask addr wf contested
  obtain ⟨w, won⟩ := winner_exists (s := s) contested
  obtain ⟨contests, top⟩ := mem_topRanked.1 (winner_mem_topRanked won)
  refine ⟨_, w, exec_busGrant_winner wf won, rfl, contests, fun r hr => ?_, fun l hl last r hr equal => ?_⟩
  · exact (rankReq_le_topRank hr).trans_eq top.symm
  · have last : sget s.arb.lastOf (topRank s (contestants s mask)) = some l := top ▸ last
    rw [winner_eq_nextTurn, last] at won
    have ids : ∀ x ∈ topRanked s (contestants s mask), x < 8 := fun x hx => lt_of_mem_contestants (mem_topRanked.1 hx).1
    exact nextTurn_first ((contestants_sorted s mask).filter _) ids hl won (mem_topRanked.2 ⟨hr, equal.trans top⟩)

end Sys2Proof.Machine
end

section
/-! PROOFS. Loss counts (R77, R79): what a loss and a grant leave in CB_LOSS, and O18. -/

namespace Sys2Proof.Machine

/-- R79: CB_LOSS after one more loss: CUR one higher, MAX at least that. -/
def lossWord (x : Word) : Word := w32 (satAdd 16 (fld x 0 16) 1 + max (satAdd 16 (fld x 0 16) 1) (fld x 16 16) * 65536)

/-- The two halves of a word as they were put together. -/
theorem halves_w32 {lo hi : Nat} (hlo : lo < 65536) (hhi : hi < 65536) :
    fld (w32 (lo + hi * 65536)) 0 16 = lo ∧ fld (w32 (lo + hi * 65536)) 16 16 = hi := by
  have small : (lo + hi * 65536) % 2 ^ 32 = lo + hi * 65536 := by omega
  simp only [fld, nfld, w32, BitVec.toNat_ofNat, small, Nat.shiftRight_eq_div_pow]
  omega

theorem lossWord_fields (x : Word) :
    fld (lossWord x) 0 16 = min (fld x 0 16 + 1) 0xFFFF ∧
      fld (lossWord x) 16 16 = max (fld x 16 16) (min (fld x 0 16 + 1) 0xFFFF) := by
  have cur : satAdd 16 (fld x 0 16) 1 < 65536 := Nat.lt_succ_of_le (Nat.min_le_right _ _)
  have old : fld x 16 16 < 65536 := Nat.mod_lt _ (by decide)
  obtain ⟨low, high⟩ := halves_w32 cur (max_lt cur old)
  exact ⟨low, high.trans (max_comm _ _)⟩

/-! One loss -/

/-- CB_LOSS of a requester is beyond what the events of page CBUS write. -/
theorem cbLoss_not_eventReg {r : Nat} (h : r < 8) : ¬eventReg 2 false (R.CB_LOSS r) :=
  not_eventReg_cbus (by unfold R.PG_EVRAW R.CB_LOSS; omega) (by unfold R.CB_LOSS; omega)

/-- A loss writes its requester's CB_LOSS, and the event of the loss limit where that is reached (R80). -/
theorem loses_reg (s : State) (r : Nat) {x : Nat} (h : ¬eventReg 2 false x) :
    (loses s r).reg x = if x = R.CB_LOSS r then lossWord (s.reg (R.CB_LOSS r)) else s.reg x := by
  have stored := setReg_reg s (R.CB_LOSS r) x (lossWord (s.reg (R.CB_LOSS r)))
  exact ite_ind (P := fun t : State => t.reg x = _) ((raise_reg h).trans stored) stored

theorem cbLoss_injective : Function.Injective R.CB_LOSS := fun a b h => by unfold R.CB_LOSS at h; omega

/-! The losses of a contest -/

/-- Who does not lose keeps its CB_LOSS. -/
theorem losses_cbLoss_notMem {l : List Nat} {r : Nat} (hr : r < 8) (h : r ∉ l) (s : State) :
    (l.foldl loses s).reg (R.CB_LOSS r) = s.reg (R.CB_LOSS r) := by
  induction l generalizing s with
  | nil => rfl
  | cons x l ih =>
    obtain ⟨other, rest⟩ := List.ne_and_not_mem_of_not_mem_cons h
    rw [List.foldl_cons, ih rest, loses_reg s x (cbLoss_not_eventReg hr), if_neg (cbLoss_injective.ne other)]

/-- Who loses in a contest loses once. -/
theorem losses_cbLoss_mem {l : List Nat} {r : Nat} (once : l.Nodup) (hr : r < 8) (h : r ∈ l) (s : State) :
    (l.foldl loses s).reg (R.CB_LOSS r) = lossWord (s.reg (R.CB_LOSS r)) := by
  induction l generalizing s with
  | nil => cases h
  | cons x l ih =>
    obtain ⟨fresh, once⟩ := List.nodup_cons.1 once
    rw [List.foldl_cons]
    obtain rfl | later := List.mem_cons.1 h
    · rw [losses_cbLoss_notMem hr fresh, loses_reg s r (cbLoss_not_eventReg hr), if_pos rfl]
    · have other : r ≠ x := fun e => fresh (e ▸ later)
      rw [ih once later, loses_reg s x (cbLoss_not_eventReg hr), if_neg (cbLoss_injective.ne other)]

/-- R77: a grant writes CUR of the winner alone. -/
theorem granted_reg (s t : State) (w k addr x : Nat) : (granted s t w k addr).reg x =
    if x = R.CB_LOSS w then setFld (t.reg (R.CB_LOSS w)) 0 16 0 else t.reg x :=
  setReg_reg t (R.CB_LOSS w) x _

/-- The winner's CB_LOSS after the contest: its CUR is set to zero. -/
theorem granted_cbLoss_winner (s : State) (mask k addr : Nat) {w : Nat} (hw : w < 8) :
    (granted s ((losers s mask w).foldl loses s) w k addr).reg (R.CB_LOSS w) = setFld (s.reg (R.CB_LOSS w)) 0 16 0 := by
  have kept : w ∉ losers s mask w := fun lost => (mem_losers.1 lost).2 rfl
  rw [granted_reg, if_pos rfl, losses_cbLoss_notMem hw kept]

/-- Every other requester's CB_LOSS is what the losses of the contest leave. -/
theorem granted_cbLoss_ne (s t : State) (k addr : Nat) {w r : Nat} (h : r ≠ w) :
    (granted s t w k addr).reg (R.CB_LOSS r) = t.reg (R.CB_LOSS r) :=
  (granted_reg ..).trans (if_neg (cbLoss_injective.ne h))

theorem losers_nodup (s : State) (mask w : Nat) : (losers s mask w).Nodup :=
  ((contestants_sorted s mask).imp Nat.ne_of_lt).filter _

/-- Settles O18: after the grant a requester's CB_LOSS is what it was, that with one loss more, or for the winner with no
loss. -/
theorem arbiterCountsLosses : Obligations.ArbiterCountsLosses := by
  intro s mask addr w wf won
  have contests := (mem_topRanked.1 (winner_mem_topRanked won)).1
  have winner := granted_cbLoss_winner s mask (rankReq s w) addr (lt_of_mem_contestants contests)
  refine ⟨_, exec_busGrant_winner wf won, ?_, ?_, fun r hr other => ?_, fun r hr absent => ?_⟩
  · exact (congrArg (fld · 0 16) winner).trans (fld_setFld_self _ _ (by omega))
  · exact (congrArg (fld · 16 16) winner).trans (fld_setFld_disjoint _ _ (by omega) (by omega))
  · have lost := losses_cbLoss_mem (losers_nodup s mask w) (lt_of_mem_contestants hr) (mem_losers.2 ⟨hr, other⟩) s
    have loser := (granted_cbLoss_ne s _ (rankReq s w) addr other).trans lost
    obtain ⟨cur, most⟩ := lossWord_fields (s.reg (R.CB_LOSS r))
    exact ⟨(congrArg (fld · 0 16) loser).trans cur, (congrArg (fld · 16 16) loser).trans most⟩
  · have other : r ≠ w := fun e => absent (e ▸ contests)
    have kept := losses_cbLoss_notMem hr (fun lost : r ∈ losers s mask w => absent (mem_losers.1 lost).1) s
    exact (granted_cbLoss_ne s _ (rankReq s w) addr other).trans kept

end Sys2Proof.Machine
end

section
/-! PROOFS. Rounding (R184) and samples widened (R197, R200): each quotient by the inequalities that fix it, and O27 and
O28. -/

namespace Sys2Proof.Machine

/-- The floor division by a power of two is the arithmetic shift. -/
theorem ediv_two_pow_eq_shiftRight (x : Int) (k : Nat) : x / 2 ^ k = x >>> k := by
  rw [Int.shiftRight_eq_div_pow, Nat.cast_pow, Nat.cast_ofNat]

/-- R184: rounding is the one integer whose interval of 2 ^ k holds x and half a unit. -/
theorem rnd_eq_iff {x r : Int} {k : Nat} :
    rnd x k = r ↔ 2 ^ k * r ≤ x + 2 ^ (k - 1) ∧ x + 2 ^ (k - 1) < 2 ^ k * (r + 1) := by
  rw [rnd, Int.ediv_eq_iff_of_pos (by positivity), Int.mul_add, Int.mul_one, Int.mul_comm r]

/-- A half rounds towards plus infinity. -/
theorem rnd_half (y : Int) {k : Nat} (h : 0 < k) : rnd (2 ^ k * y + 2 ^ (k - 1)) k = y + 1 := by
  have halves : (2 : Int) ^ (k - 1) * 2 = 2 ^ k := pow_sub_one_mul h.ne' 2
  have unit : (0 : Int) < 2 ^ k := by positivity
  rw [rnd_eq_iff]
  constructor <;> linarith

/-- Settles O27: the shift is the division by 2 ^ k, and the bounds fix the quotient. -/
theorem roundHalfUp : Obligations.RoundHalfUp := by
  intro x k h
  obtain ⟨lower, upper⟩ := rnd_eq_iff.1 (rfl : rnd x k = rnd x k)
  exact ⟨ediv_two_pow_eq_shiftRight _ k, lower, upper, fun y half => half ▸ rnd_half y h, ediv_two_pow_eq_shiftRight x k⟩

/-- R200: the value is the one number whose interval of a unit holds v at full scale and half a unit. -/
theorem toU116_eq_iff {v d r : Nat} (h : 0 < d) :
    toU116 v d = r ↔ 2 * d * r ≤ 2 * v * 65536 + d ∧ 2 * v * 65536 + d < 2 * d * (r + 1) := by
  rw [toU116, Nat.div_eq_iff (by omega), Nat.mul_add, Nat.mul_one, Nat.mul_comm r]
  omega

theorem toU116_zero {d : Nat} (h : 0 < d) : toU116 0 d = 0 := by
  rw [toU116_eq_iff h]; omega

theorem toU116_full {d : Nat} (h : 0 < d) : toU116 d d = 65536 := by
  rw [toU116_eq_iff h]; omega

theorem toU116_mono (d : Nat) {u v : Nat} (h : u ≤ v) : toU116 u d ≤ toU116 v d :=
  Nat.div_le_div_right (by omega)

/-- R197: an 8-bit code under full range. -/
theorem widen_full (v : Nat) : widen true true v = 4 * v + v >>> 6 := by
  rw [Nat.shiftRight_eq_div_pow]; rfl

theorem widen_full_lt {v : Nat} (h : v < 256) : widen true true v < 1024 := by
  rw [widen_full, Nat.shiftRight_eq_div_pow]; omega

/-- Settles O28: the bounds fix the value, and 0 and full scale meet them with 0 and 65,536. -/
theorem samplesWidened : Obligations.SamplesWidened := by
  refine ⟨fun v d h _ => ?_, fun v hv => ⟨rfl, widen_full v, widen_full_lt hv⟩⟩
  obtain ⟨lower, upper⟩ := (toU116_eq_iff h).1 (rfl : toU116 v d = toU116 v d)
  exact ⟨lower, upper, toU116_zero h, toU116_full h, fun u => toU116_mono d⟩

end Sys2Proof.Machine
end

section
/-! PROOFS. The frame store (5.2, R195): a byte read after a write into the layer region or the egress region, and O24. -/

namespace Sys2Proof.Machine

/-- Bytes are written one after the other, from the offset upwards. -/
theorem layWrite_cons (s : State) (o : Nat) (b : Byte) (bs : List Byte) :
    layWrite s o (b :: bs) = layWrite { s with layMem := sput s.layMem o b 0#8 } (o + 1) bs := rfl

/-- A byte of the layer region after a write: the byte written there, or what it was. -/
theorem layWrite_byte (s : State) (o : Nat) (bs : List Byte) (a : Nat) : sgetD (layWrite s o bs).layMem a 0#8 =
    if o ≤ a ∧ a < o + bs.length then lget bs (a - o) 0#8 else sgetD s.layMem a 0#8 := by
  induction bs generalizing s o with
  | nil => exact (if_neg (by simp)).symm
  | cons b bs ih =>
    rw [layWrite_cons, ih, sgetD_sput, List.length_cons]
    obtain below | rfl | above := Nat.lt_trichotomy a o
    · rw [if_neg (by omega), if_neg (by omega), if_neg (by omega)]
    · rw [if_neg (by omega), if_pos rfl, if_pos (by omega), Nat.sub_self]; rfl
    · have later : a - o = a - (o + 1) + 1 := by omega
      rw [if_neg (show a ≠ o by omega), later]
      exact if_congr (by omega) rfl rfl

/-- The bytes at a list's positions are the list. -/
theorem map_lget_range (bs : List Byte) : (List.range bs.length).map (fun i => lget bs i 0#8) = bs := by
  apply List.ext_getElem <;> simp +contextual [lget]

/-- The bytes read back from where they were written are the number they spell. -/
theorem layRead_layWrite (s : State) (o : Nat) (bs : List Byte) : layRead (layWrite s o bs) o bs.length = leNat bs := by
  have written (i : Nat) (h : i ∈ List.range bs.length) : sgetD (layWrite s o bs).layMem (o + i) 0#8 = lget bs i 0#8 := by
    rw [List.mem_range] at h
    rw [layWrite_byte, if_pos (by omega), Nat.add_sub_cancel_left]
  rw [layRead, List.map_congr_left written, map_lget_range]

/-- A byte of the egress region after an endpoint word (R195): its low byte at the offset and its high byte after it (the byte
order is log 41), or what it was. -/
theorem egrWrite_byte (s : State) (o v a : Nat) : sgetD (egrWrite s o v).egrMem a 0#8 =
    if a = o then BitVec.ofNat 8 v else if a = o + 1 then BitVec.ofNat 8 (v / 256) else sgetD s.egrMem a 0#8 := by
  rw [egrWrite, sgetD_sput, sgetD_sput]
  by_cases low : a = o
  · rw [if_neg (by omega), if_pos low, if_pos low]
  · rw [if_neg low, if_neg low]

/-- Settles O24: byte by byte, the layer region by induction on the bytes written. -/
theorem frameStoreReadsBack : Obligations.FrameStoreReadsBack := fun s o =>
  ⟨layWrite_byte s o, layRead_layWrite s o, egrWrite_byte s o⟩

end Sys2Proof.Machine
end

section
/-! PROOFS. Derating (R342): the least of the terms, the word that a new factor leaves in DRV_FACTOR, each term's quotient,
and O29. -/

namespace Sys2Proof.Machine

/-! The least term -/

/-- R342: the power term of the whole drive. -/
def totalTerm (s : State) : Nat :=
  powerTerm (s.regF R.DRV_DERATE 16 9) (((List.range 4).map (railPower s)).foldl (· + ·) 0 + mxPower s)

/-- R342: the power terms of the four rails. -/
def railTerms (s : State) : List Nat := ((List.range 4).map (railPower s)).map (powerTerm 120)

/-- R342: the terms of the factor. -/
def derateTerms (s : State) : List Nat := [thermTerm s, totalTerm s] ++ railTerms s

/-- The factor that the terms give: the least of them, 256 at most. -/
def leastTerm (s : State) : Nat := (derateTerms s).foldl min 256

theorem leastTerm_spec (s : State) : leastTerm s ∈ 256 :: derateTerms s ∧ ∀ x ∈ 256 :: derateTerms s, leastTerm s ≤ x :=
  List.min?_eq_some_iff.1 List.min?_cons'

/-- The model takes the rails' least first, then the total's, then the thermal term. -/
theorem leastTerm_eq (s : State) :
    leastTerm s = min (thermTerm s) (min ((railTerms s).foldl min 256) (totalTerm s)) := by
  rw [leastTerm, derateTerms, List.foldl_append, List.foldl_cons, List.foldl_cons, List.foldl_nil, min_assoc, min_comm 256,
    List.foldl_assoc, min_assoc, min_comm (totalTerm s)]

/-! DRV_FACTOR -/

/-- Table 10-9: a term gave a factor below 256. -/
def derates (s : State) (x : Nat) : Nat := b2n (leastTerm s < 256 && x == leastTerm s)

/-- Table 10-9: F, and above it the bits of the terms that gave it. -/
def factorWord (s : State) : Word :=
  w32 (leastTerm s + derates s (thermTerm s) * 512 + derates s ((railTerms s).foldl min 256) * 1024 +
    derates s (totalTerm s) * 2048)

theorem factorWord_factor (s : State) : fld (factorWord s) 0 9 = leastTerm s := by
  have most : leastTerm s ≤ 256 := (leastTerm_spec s).2 256 List.mem_cons_self
  simp only [factorWord, fld, nfld, w32, BitVec.toNat_ofNat, Nat.shiftRight_zero]
  omega

/-- A new factor writes DRV_FACTOR, and raises DERATE where it falls (R343). -/
theorem newFactor_eq (s : State) : newFactor s =
    if leastTerm s < factor s then raise (s.setReg R.DRV_FACTOR (factorWord s)) 0x30 3
    else s.setReg R.DRV_FACTOR (factorWord s) := by
  simp only [factorWord, derates, leastTerm_eq]
  rfl

theorem newFactor_reg (s : State) {x : Nat} (h : ¬eventReg 0x30 false x) :
    (newFactor s).reg x = if x = R.DRV_FACTOR then factorWord s else s.reg x := by
  have stored := setReg_reg s R.DRV_FACTOR x (factorWord s)
  exact newFactor_eq s ▸ ite_ind (P := fun t : State => t.reg x = _) ((raise_reg h).trans stored) stored

theorem newFactor_factor (s : State) : (newFactor s).regF R.DRV_FACTOR 0 9 = leastTerm s := by
  rw [State.regF, newFactor_reg s (by simp [eventReg, R.PG_EVRAW]), if_pos rfl, factorWord_factor]

/-! The thermal term -/

theorem thermTerm_cool {s : State} (h : baseDeg s ≤ s.regF R.DRV_DERATE 0 7) : thermTerm s = 256 := if_pos h

theorem thermTerm_hot {s : State} (start : s.regF R.DRV_DERATE 0 7 < baseDeg s)
    (h : s.regF R.DRV_DERATE 8 7 ≤ baseDeg s) : thermTerm s = 0 :=
  (if_neg (not_le.2 start)).trans (if_pos h)

/-- Between TSTART and TEND the thermal term is the floor of its quotient. -/
theorem thermTerm_warm {s : State} (start : s.regF R.DRV_DERATE 0 7 < baseDeg s)
    (stop : baseDeg s < s.regF R.DRV_DERATE 8 7) :
    (thermTerm s : Int) =
      256 * (s.regF R.DRV_DERATE 8 7 - baseDeg s) / (s.regF R.DRV_DERATE 8 7 - s.regF R.DRV_DERATE 0 7) := by
  have range : s.regF R.DRV_DERATE 0 7 ≤ s.regF R.DRV_DERATE 8 7 := by omega
  have quotient : thermTerm s = (256 * (s.regF R.DRV_DERATE 8 7 - baseDeg s) /
      ((s.regF R.DRV_DERATE 8 7 - s.regF R.DRV_DERATE 0 7 : Nat) : Int)).toNat :=
    (if_neg (not_le.2 start)).trans (if_neg (not_le.2 stop))
  rw [quotient, Int.toNat_of_nonneg (Int.ediv_nonneg (by omega) (by omega)), Nat.cast_sub range]

/-! The power terms -/

theorem powerTerm_within {w p : Nat} (h : p ≤ w * 100000000000) : powerTerm w p = 256 := if_neg (not_lt.2 h)

theorem powerTerm_above {w p : Nat} (h : w * 100000000000 < p) : powerTerm w p = 256 * w * 100000000000 / p := if_pos h

/-- Settles O29: F is the least of 256 and the terms, and each quotient is a floor. -/
theorem deratingFactorIsTheSmallest : Obligations.DeratingFactorIsTheSmallest := by
  intro s f a b ps ts
  obtain ⟨among, least⟩ := leastTerm_spec s
  rw [← newFactor_factor] at among least
  refine ⟨least 256 List.mem_cons_self, fun x hx => least x (List.mem_cons_of_mem _ hx), List.mem_cons.1 among,
    thermTerm_cool, thermTerm_hot, fun start stop => ?_, fun _ _ => powerTerm_within, fun w p above => ?_, fun x hx => ?_⟩
  · have range : 0 < b - a := by omega
    rw [thermTerm_warm start stop]
    exact ⟨Int.ediv_mul_le _ range.ne', Int.lt_ediv_add_one_mul_self _ range⟩
  · have drawn : 0 < p := by omega
    rw [powerTerm_above above]
    exact ⟨Nat.div_mul_le_self _ p, (Nat.div_lt_iff_lt_mul drawn).1 (Nat.lt_succ_self _)⟩
  · obtain ⟨other, unraised⟩ := not_or.1 (mt List.mem_cons.2 hx)
    exact (newFactor_reg s (by simpa [eventReg] using unraised)).trans (if_neg other)

end Sys2Proof.Machine
end

section
/-! PROOFS. Accumulators (R365, R373): what an accumulator's growth writes, what its pulse outputs leave, and O30. -/

namespace Sys2Proof.Machine

/-- Raising an event leaves the meters. -/
theorem raise_mtr (s : State) (p n : Nat) : (raise s p n).mtr = s.mtr := by
  obtain ⟨_, _, _, h⟩ := raise_eventOnly s p n
  rw [h]

/-! Growth -/

/-- R373: the spills of an accumulator that grows, one for each multiple of PWH × 3,600 that its count reaches. -/
def spillsOf (s : State) (a inc : Nat) : Nat :=
  accCount (accVal s a + inc) / (s.entF tACC a 5 0 17 * 3600) - accCount (accVal s a) / (s.entF tACC a 5 0 17 * 3600)

/-- The accumulator's new value and its spills counted, before the pulse outputs queue them. -/
def grown (s : State) (a inc : Nat) : State :=
  { s with mtr := { s.mtr with
      acc := sput s.mtr.acc a (accVal s a + inc) 0, spills := smod s.mtr.spills a 0 (· + spillsOf s a inc) } }

theorem grown_accVal (s : State) (a inc b : Nat) :
    accVal (grown s a inc) b = if b = a then accVal s a + inc else accVal s b :=
  sgetD_sput ..

theorem grown_spills (s : State) (a inc b : Nat) : sgetD (grown s a inc).mtr.spills b 0 =
    if b = a then sgetD s.mtr.spills a 0 + spillsOf s a inc else sgetD s.mtr.spills b 0 :=
  sgetD_sput ..

/-! The pulse outputs -/

/-- Pulse output `k` replaced. -/
def setPo (s : State) (k : Nat) (p : PulseRt) : State := { s with mtr := { s.mtr with po := s.mtr.po.set k p } }

/-- R374, R375: pulse output `k` queues `n` spills of accumulator `a` where that is its source, and those for which it has no
room count as lost. -/
def queueSpills (a n : Nat) (t : State) (k : Nat) : State :=
  let p := lget t.mtr.po k ⟨0, 0, 0⟩
  let room := 65535 - p.queued
  let t1 := setPo t k { p with queued := p.queued + min n room }
  if t.regF (R.MTR_PO k) 0 7 ≠ a then t
  else if n ≤ room then t1
  else raise (t1.count (R.MTR_PO k) 16 16 (n - room)) 0x38 6

theorem accAdd_eq (s : State) (a inc : Nat) : accAdd s a inc =
    if spillsOf s a inc = 0 then grown s a inc
    else (List.range 2).foldl (queueSpills a (spillsOf s a inc)) (grown s a inc) := rfl

/-- Two states whose accumulators hold the same values and spills. -/
def SameAccs (s t : State) : Prop := t.mtr.acc = s.mtr.acc ∧ t.mtr.spills = s.mtr.spills

theorem SameAccs.of_mtr {s t : State} (h : t.mtr = s.mtr) : SameAccs s t := ⟨congrArg (·.acc) h, congrArg (·.spills) h⟩

theorem SameAccs.refl (s : State) : SameAccs s s := .of_mtr rfl

theorem SameAccs.trans {s t u : State} (h : SameAccs s t) (k : SameAccs t u) : SameAccs s u :=
  ⟨k.1.trans h.1, k.2.trans h.2⟩

theorem SameAccs.accVal_eq {s t : State} (h : SameAccs s t) (b : Nat) : accVal t b = accVal s b :=
  congrArg (sgetD · b 0) h.1

theorem SameAccs.spills_eq {s t : State} (h : SameAccs s t) (b : Nat) : sgetD t.mtr.spills b 0 = sgetD s.mtr.spills b 0 :=
  congrArg (sgetD · b 0) h.2

theorem setPo_sameAccs (s : State) (k : Nat) (p : PulseRt) : SameAccs s (setPo s k p) := ⟨rfl, rfl⟩

/-- A pulse output changes its own queue, its count of lost spills and an event at most (R375). -/
theorem queueSpills_sameAccs (a n : Nat) (t : State) (k : Nat) : SameAccs t (queueSpills a n t k) := by
  simp only [queueSpills]
  split
  · exact .refl t
  · split
    · exact setPo_sameAccs t k _
    · exact (setPo_sameAccs t k _).trans (.of_mtr ((raise_mtr _ _ _).trans (count_mtr _ _ _ _ _)))

theorem accAdd_sameAccs (s : State) (a inc : Nat) : SameAccs (grown s a inc) (accAdd s a inc) := by
  rw [accAdd_eq]
  split
  · exact .refl _
  · exact List.foldlRecOn _ _ (.refl _) fun t h k _ => h.trans (queueSpills_sameAccs a _ t k)

/-! An accumulator after growth -/

theorem accAdd_accVal (s : State) (a inc b : Nat) :
    accVal (accAdd s a inc) b = if b = a then accVal s a + inc else accVal s b :=
  ((accAdd_sameAccs s a inc).accVal_eq b).trans (grown_accVal s a inc b)

theorem accAdd_spills (s : State) (a inc b : Nat) : sgetD (accAdd s a inc).mtr.spills b 0 =
    if b = a then sgetD s.mtr.spills a 0 + spillsOf s a inc else sgetD s.mtr.spills b 0 :=
  ((accAdd_sameAccs s a inc).spills_eq b).trans (grown_spills s a inc b)

/-- Settles O30: an entry's words are the count and the billing value (R367), and growth writes one accumulator, which the
pulse outputs leave as it is. -/
theorem accumulatorsAndSpills : Obligations.AccumulatorsAndSpills := fun s _ a inc =>
  ⟨⟨rfl, rfl⟩, ⟨(accAdd_accVal s a inc a).trans (if_pos rfl), (accAdd_spills s a inc a).trans (if_pos rfl)⟩, fun b other =>
    ⟨(accAdd_accVal s a inc b).trans (if_neg other), (accAdd_spills s a inc b).trans (if_neg other)⟩⟩

end Sys2Proof.Machine
end

section
/-! PROOFS. The state record in force (15.1, R478): the first hit of the journal read backwards, and O33. -/

namespace Sys2Proof.Machine

/-- A state record of the stream, type and key: a LOG record takes no part in the choice. -/
def isStateRec (partner : Bool) (typ key : Nat) (r : LRec) : Bool :=
  r.partner == partner && r.typ == typ && recKey r == key && !r.log

theorem isStateRec_iff (partner : Bool) (typ key : Nat) (r : LRec) :
    isStateRec partner typ key r = true ↔ r.partner = partner ∧ r.typ = typ ∧ recKey r = key ∧ r.log = false := by
  simp [isStateRec, and_assoc]

/-- The latest record is the first hit from the journal's end. -/
theorem stateRec_eq_find?_reverse (s : State) (partner : Bool) (typ key : Nat) :
    stateRec s partner typ key = (sources s).reverse.find? (isStateRec partner typ key) :=
  List.getLast?_filter

/-- A record found is a hit, and the hits of the journal end with it. -/
theorem stateRec_eq_some {s : State} {partner : Bool} {typ key : Nat} {r : LRec}
    (found : stateRec s partner typ key = some r) : isStateRec partner typ key r = true ∧
      ∃ l m, sources s = l ++ r :: m ∧ ∀ x ∈ m, ¬isStateRec partner typ key x = true := by
  rw [stateRec_eq_find?_reverse, List.find?_eq_some_iff_append] at found
  obtain ⟨hit, later, earlier, backwards, none_later⟩ := found
  have forwards : sources s = earlier.reverse ++ r :: later.reverse := by
    simpa using List.reverse_eq_iff.1 backwards
  refine ⟨hit, _, _, forwards, fun x hx => ?_⟩
  simpa only [Bool.not_eq_true', Bool.not_eq_true] using none_later x (List.mem_reverse.1 hx)

theorem stateRec_eq_none_iff {s : State} {partner : Bool} {typ key : Nat} :
    stateRec s partner typ key = none ↔ ∀ x ∈ sources s, ¬isStateRec partner typ key x = true := by
  simp only [stateRec_eq_find?_reverse, List.find?_eq_none, List.mem_reverse]

/-- Settles O33: what follows the first hit from the journal's end is no hit, and where no hit is found there is none. -/
theorem latestStateRecordCounts : Obligations.LatestStateRecordCounts := by
  intro s partner typ key
  simp only [← isStateRec_iff]
  exact ⟨fun _ => stateRec_eq_some, stateRec_eq_none_iff.1⟩

end Sys2Proof.Machine
end

section
/-! PROOFS. The key vault (16.6, R511): a READ of a slot with a secret is the slot's public bytes, and O31. -/

namespace Sys2Proof.Machine

/-- The READ column of Table 16-6 for slots 4 to 31: the CKN and its length, KN and AN, or nothing. -/
def isPublic (n k : Nat) : Bool :=
  decide (32 ≤ k) && decide (k < if n ≤ 8 then 65 else if n ≤ 18 then 37 else 0)

/-- The bytes of a slot at its public positions, zero at the others. -/
def publicBytes (n : Nat) (b : List Byte) : List Byte :=
  (List.range 96).map fun k => if isPublic n k then lget b k 0#8 else 0#8

theorem isPublic_iff_of_cak {n : Nat} (cak : n ≤ 8) (k : Nat) : isPublic n k = true ↔ 32 ≤ k ∧ k < 65 := by
  simp [isPublic, cak]

theorem isPublic_iff_of_sak {n : Nat} (notCak : ¬n ≤ 8) (sak : n ≤ 18) (k : Nat) :
    isPublic n k = true ↔ 32 ≤ k ∧ k < 37 := by
  simp [isPublic, notCak, sak]

theorem isPublic_eq_false {n : Nat} (notSak : ¬n ≤ 18) (k : Nat) : isPublic n k = false := by
  have notCak : ¬n ≤ 8 := by omega
  simp [isPublic, notCak, notSak]

@[simp] theorem publicBytes_length (n : Nat) (b : List Byte) : (publicBytes n b).length = 96 := by
  simp [publicBytes]

theorem lget_publicBytes_of_secret {n k : Nat} (secret : isPublic n k = false) (b : List Byte) :
    lget (publicBytes n b) k 0#8 = 0#8 := by
  by_cases inside : k < 96 <;> simp [lget, publicBytes, inside, secret]

/-- Slots that agree on their public bytes show the same bytes. -/
theorem publicBytes_congr {n : Nat} {b c : List Byte}
    (agree : ∀ k, isPublic n k = true → lget b k 0#8 = lget c k 0#8) : publicBytes n b = publicBytes n c :=
  List.map_congr_left fun k _ => ite_congr rfl (agree k) fun _ => rfl

/-- R511: a READ of a slot with a secret shows its public bytes alone. -/
theorem vaultRead_eq_publicBytes (s : State) {n : Nat} (low : 4 ≤ n) :
    vaultRead s n = publicBytes n (slotBytes s n) := by
  rw [vaultRead, if_neg (by omega), if_neg (by omega)]
  split
  case isTrue cak => simp only [publicBytes, isPublic_iff_of_cak cak]
  case isFalse notCak =>
    split
    case isTrue sak => simp only [publicBytes, isPublic_iff_of_sak notCak sak]
    case isFalse notSak => simp [publicBytes, isPublic_eq_false notSak]

/-- Settles O31: both READs are the public bytes of their slots, which no secret byte reaches. -/
theorem vaultReadTellsNoSecret : Obligations.VaultReadTellsNoSecret := by
  intro s t n low _
  simp only [vaultRead_eq_publicBytes _ low]
  exact ⟨publicBytes_congr, publicBytes_length n _, fun _ secret => lget_publicBytes_of_secret secret _⟩

end Sys2Proof.Machine
end

section
/-! PROOFS. The verdict on a calibration (18.2, R540, R541): events, records and items leave the quantities, the three ways in
which a run B ends, and O32. -/

namespace Sys2Proof.Machine

/-! The quantities -/

theorem setQty_qty (s : State) (q j : Nat) (x : Qty) : (s.setQty q x).qty j = if j = q then x else s.qty j :=
  sgetD_sput ..

@[simp] theorem setQty_qty_self (s : State) (q : Nat) (x : Qty) : (s.setQty q x).qty q = x :=
  (setQty_qty s q q x).trans (if_pos rfl)

theorem setQty_qty_ne (s : State) {q j : Nat} (other : j ≠ q) (x : Qty) : (s.setQty q x).qty j = s.qty j :=
  (setQty_qty s q j x).trans (if_neg other)

/-- The quantities are part of the self-calibration block. -/
theorem qty_eq_of_slf {s t : State} (h : t.slf = s.slf) (q : Nat) : t.qty q = s.qty q :=
  congrArg (fun b : Slf => sgetD b.qs q qty0) h

/-! What leaves the self-calibration block -/

theorem EventOnly.slf_eq {s t : State} (h : EventOnly s t) : t.slf = s.slf := by
  obtain ⟨_, _, _, rfl⟩ := h
  rfl

/-- Raising an event leaves the Hatrack. -/
theorem raise_htk (s : State) (p n : Nat) : (raise s p n).htk = s.htk := by
  obtain ⟨_, _, _, h⟩ := raise_eventOnly s p n
  rw [h]

@[simp] theorem raise_qty (s : State) (p n q : Nat) : (raise s p n).qty q = s.qty q :=
  qty_eq_of_slf (raise_eventOnly s p n).slf_eq q

/-- R483, R485: submitting a record changes the submission queue and events at most. -/
theorem linSubmit_eventOnly (s : State) (r : LRec) : EventOnly s (linSubmit s r).1 := by
  unfold linSubmit
  split
  · exact linPush_eventOnly s r
  · exact (linRefused_eventOnly s r).trans (raiseN_eventOnly ..)

@[simp] theorem linSubmit_qty (s : State) (r : LRec) (q : Nat) : (linSubmit s r).1.qty q = s.qty q :=
  qty_eq_of_slf (linSubmit_eventOnly s r).slf_eq q

theorem refresh_slf (s : State) (f : Nat) : (refresh s f).slf = s.slf :=
  ite_ind (P := fun t : State => t.slf = s.slf) rfl rfl

theorem putItem_slf (s : State) (i : Item) : (putItem s i).slf = s.slf :=
  ite_ind (P := fun t : State => t.slf = s.slf) (refresh_slf _ _) rfl

theorem discardGroup_slf (s : State) (f : Nat) : (discardGroup s f).slf = s.slf :=
  refresh_slf _ f

theorem refuseGroup_slf (s : State) (i : Item) : (refuseGroup s i).slf = s.slf := by
  unfold refuseGroup
  simp only []
  split
  · rfl
  · split
    · exact (setFlow_slf ..).trans (discardGroup_slf s i.flow)
    · exact ite_ind (P := fun t : State => t.slf = s.slf) rfl rfl

theorem abortCount_slf (s : State) (i n : Nat) : (abortCount s i n).slf = s.slf := by
  obtain ⟨_, h⟩ := abortCount_regs s i n
  rw [h]

/-- R108: an internal enqueue, taken or not, leaves the self-calibration block. -/
theorem enqueueIn_slf (s : State) (i : Item) : (enqueueIn s i).1.slf = s.slf := by
  unfold enqueueIn
  split
  · exact abortCount_slf s 2 1
  · split
    · exact putItem_slf s i
    · exact (refuseGroup_slf _ i).trans ((raise_eventOnly _ _ _).slf_eq.trans (count_slf ..))

@[simp] theorem enqueueIn_qty (s : State) (i : Item) (q : Nat) : (enqueueIn s i).1.qty q = s.qty q :=
  qty_eq_of_slf (enqueueIn_slf s i) q

/-! The result of a quantity after its verdict -/

/-- The value in force, the target and the ACCEPT count of a quantity (Table 18-8). -/
def Qty.result (x : Qty) : Int × Int × Nat := (x.value, x.target, x.accept)

/-- Table 18-2: a CALRES record leaves the result it reports. -/
theorem calRes_result (s : State) (q : Nat) : ((calRes s q).qty q).result = (s.qty q).result := by
  rw [calRes, linSubmit_qty, setQty_qty_self]
  rfl

/-- R542, R545: a calibration that is abandoned keeps the result. -/
theorem calAbandon_result (s : State) (q : Nat) : ((calAbandon s q).qty q).result = (s.qty q).result := by
  unfold calAbandon
  split
  · rfl
  · rw [raise_qty, setQty_qty_self]
    rfl

/-- R108, R543: enqueueing the next item of a calibration leaves the result, also where the item is refused. -/
theorem calNext_result (s : State) (q op : Nat) (tap : Int) (nbt : Nat) :
    ((calNext s q op tap nbt).qty q).result = (s.qty q).result := by
  simp only [calNext]
  split
  · rw [enqueueIn_qty]
  · rw [calAbandon_result, enqueueIn_qty]

/-! The three verdicts -/

/-- R540: the target of two runs. -/
def Qty.runTarget (x : Qty) : Int := rnd (x.runA + x.runB) 5

/-- R540: the runs differ by TOL taps at most. -/
def runsAgree (s : State) (q : Nat) : Prop := ((s.qty q).runA - (s.qty q).runB).natAbs ≤ qtyTol s q * 16

/-- R541: the target lies in the quantity's range. -/
def targetInRange (s : State) (q : Nat) : Prop :=
  (qtyRange q).1 ≤ (s.qty q).runTarget ∧ (s.qty q).runTarget ≤ (qtyRange q).2

/-- A quantity that has accepted its runs. -/
def acceptedQty (s : State) (q : Nat) : Qty :=
  { s.qty q with target := (s.qty q).runTarget, accept := satAdd 16 (s.qty q).accept 1, last := s.up, tried := 0 }

theorem calJudge_of_not_runsAgree {s : State} {q : Nat} (differ : ¬runsAgree s q) : calJudge s q =
    raise (s.setQty q { s.qty q with state := 0, disagree := satAdd 16 (s.qty q).disagree 1 }) 0x4C 0 :=
  if_pos (Nat.not_le.1 differ)

theorem calJudge_of_not_targetInRange {s : State} {q : Nat} (agree : runsAgree s q) (out : ¬targetInRange s q) :
    calJudge s q = raise (s.setQty q { s.qty q with state := 0 }) 0x4C 2 := by
  rw [targetInRange, not_and_or, not_le, not_le] at out
  exact (if_neg (Nat.not_lt.2 agree)).trans (if_pos out)

/-- R543, R544: an accepted target is reported at once where it is the value in force, and approached by taps where it is not. -/
theorem calJudge_of_accepted {s : State} {q : Nat} (agree : runsAgree s q) (inside : targetInRange s q) : calJudge s q =
    if (s.qty q).runTarget = (s.qty q).value then
      raise (calRes (s.setQty q { acceptedQty s q with state := 0 }) q) 0x4C 1
    else
      calNext (s.setQty q { acceptedQty s q with state := 3 }) q 2 (if (s.qty q).value < (s.qty q).runTarget then 1 else -1)
        (now32 s + s.regF R.SCL_STEP 0 14 * 1000000) := by
  rw [targetInRange, ← not_lt, ← not_lt, ← not_or] at inside
  exact (if_neg (Nat.not_lt.2 agree)).trans (if_neg inside)

theorem calJudge_result_of_accepted {s : State} {q : Nat} (agree : runsAgree s q) (inside : targetInRange s q) :
    ((calJudge s q).qty q).result = (acceptedQty s q).result := by
  rw [calJudge_of_accepted agree inside]
  split
  · rw [raise_qty, calRes_result, setQty_qty_self]
    rfl
  · rw [calNext_result, setQty_qty_self]
    rfl

/-- A verdict that writes one quantity and raises one event leaves the other quantities and the Hatrack. -/
theorem raise_setQty_frame (s : State) (q : Nat) (x : Qty) (p n : Nat) :
    (raise (s.setQty q x) p n).qty q = x ∧ (∀ j, j ≠ q → (raise (s.setQty q x) p n).qty j = s.qty j) ∧
      (raise (s.setQty q x) p n).htk = s.htk :=
  ⟨(raise_qty ..).trans (setQty_qty_self s q x), fun j other => (raise_qty _ p n j).trans (setQty_qty_ne s other x),
    raise_htk ..⟩

/-- Settles O32: a rejected result writes its own quantity and one event, and what follows an accepted one (the CALRES record or
the first tap) leaves the result. -/
theorem calibrationVerdict : Obligations.CalibrationVerdict := by
  intro s q
  refine ⟨fun differ => ?_, fun agree out => ?_, fun agree low high => ?_⟩
  · rw [calJudge_of_not_runsAgree (Nat.not_le.2 differ)]
    exact raise_setQty_frame ..
  · rw [calJudge_of_not_targetInRange agree (not_and_or.2 (out.imp not_le.2 not_le.2))]
    exact raise_setQty_frame ..
  · have result := calJudge_result_of_accepted agree ⟨low, high⟩
    simp only [Qty.result, Prod.mk.injEq] at result
    obtain ⟨value, target, accept⟩ := result
    exact ⟨target, accept, value⟩

end Sys2Proof.Machine
end

section
/-! PROOFS. Event sources (R556, R557): the sources that a page, its MAC block and the software have, a source brought up to date,
and O25. -/

namespace Sys2Proof.Machine

/-! Which sources are active -/

/-- A page that Table 2-19 does not have is not fitted. -/
theorem fitted_of_findPage_none (s : State) {p : Nat} (absent : findPage p = none) : s.fitted p = false := by
  rw [State.fitted, absent]

/-- Some raw bit is unmasked. -/
theorem toNat_and_bne_zero_iff (raw mask : Word) : (raw.toNat &&& mask.toNat != 0) = true ↔ raw &&& mask ≠ 0#32 := by
  rw [bne_iff_ne, ← BitVec.toNat_and, ne_eq, ne_eq, BitVec.toNat_eq, BitVec.toNat_ofNat, Nat.zero_mod]

theorem srcActive_page_iff (s : State) {src : Nat} (page : src < 0x80) : srcActive s src = true ↔
    s.fitted src = true ∧ s.reg (R.PG_EVRAW src) &&& s.reg (R.PG_EVMSK src) ≠ 0#32 := by
  rw [srcActive, if_pos page, Bool.and_eq_true, toNat_and_bne_zero_iff]

theorem srcActive_mac_iff (s : State) {src : Nat} (low : 0x80 ≤ src) (high : src < 0x95) : srcActive s src = true ↔
    s.reg (R.MAC_EVRAW (src - 0x70)) &&& s.reg (R.MAC_EVMSK (src - 0x70)) ≠ 0#32 := by
  rw [srcActive, if_neg (by omega), if_pos high, toNat_and_bne_zero_iff]

theorem srcActive_software (s : State) {src : Nat} (low : 0xC0 ≤ src) (high : src < 0xD0) :
    srcActive s src = s.evt.sw.testBit (src - 0xC0) := by
  rw [srcActive, if_neg (by omega), if_neg (by omega), if_pos (by simp [low, high])]

/-- R556: a number that names no page is never active. -/
theorem srcActive_absent_page (s : State) {src : Nat} (page : src < 0x80) (absent : findPage src = none) :
    srcActive s src = false := by
  rw [← Bool.not_eq_true, srcActive_page_iff s page, fitted_of_findPage_none s absent]
  simp

/-- R556: a reserved number is never active. -/
theorem srcActive_reserved (s : State) {src : Nat} (reserved : (0x95 ≤ src ∧ src < 0xC0) ∨ 0xD0 ≤ src) :
    srcActive s src = false := by
  have software : ¬(decide (0xC0 ≤ src) && decide (src < 0xD0)) = true := by simp; omega
  rw [srcActive, if_neg (by omega), if_neg (by omega), if_neg software]

/-! A source brought up to date -/

/-- Taking away a bit that is set clears it. -/
theorem testBit_sub_two_pow {x i : Nat} (h : x.testBit i = true) : (x - 2 ^ i).testBit i = false := by
  have toggled := Nat.testBit_two_pow_add_eq (x - 2 ^ i) i
  rw [Nat.add_sub_cancel' (Nat.ge_two_pow_of_testBit h), h] at toggled
  simpa using toggled.symm

/-- ALERT_N changes no source. -/
theorem alertDrive_src (s : State) : (alertDrive s).evt.src = s.evt.src := by
  unfold alertDrive
  simp only []
  split <;> exact ite_ind (P := fun t : State => t.evt.src = s.evt.src)
    (ite_ind (P := fun t : State => t.evt.src = s.evt.src) rfl rfl)
    (ite_ind (P := fun t : State => t.evt.src = s.evt.src) rfl rfl)

/-- The group of a source that was brought up to date: the relay and ALERT_N leave what a rise or a fall wrote. -/
theorem evtTouch_evtSrc (s : State) (src : Nat) : evtSrc (evtTouch s src) (src / 32) =
    if srcActive s src && !(evtSrc s (src / 32)).testBit (src % 32) then evtSrc s (src / 32) + 2 ^ (src % 32)
    else if !srcActive s src && (evtSrc s (src / 32)).testBit (src % 32) then evtSrc s (src / 32) - 2 ^ (src % 32)
    else evtSrc s (src / 32) := by
  have written : ∀ n, sgetD (sput s.evt.src (src / 32) n 0) (src / 32) 0 = n := fun n => sgetD_sput_self ..
  unfold evtTouch
  simp only []
  split
  case isTrue rise =>
    rw [evtSrc, alertDrive_src]
    split <;> exact written _
  case isFalse =>
    split
    · exact written _
    · rfl

/-- R557: EVT_SRC shows whether a source is active, once that is brought up to date. -/
theorem evtTouch_shows (s : State) (src : Nat) :
    (evtSrc (evtTouch s src) (src / 32)).testBit (src % 32) = srcActive s src := by
  rw [evtTouch_evtSrc]
  cases active : srcActive s src <;> cases shown : (evtSrc s (src / 32)).testBit (src % 32)
  case false.false => exact shown
  case false.true => exact testBit_sub_two_pow shown
  case true.false => simp [Nat.add_comm _ (2 ^ _), Nat.testBit_two_pow_add_eq, shown]
  case true.true => exact shown

/-- Settles O25: the bit follows the source, whose level each range of numbers has its own rule for. -/
theorem eventSourcesShown : Obligations.EventSourcesShown := by
  intro s src _
  refine ⟨evtTouch_shows s src, srcActive_page_iff s, srcActive_mac_iff s, srcActive_software s, fun never => ?_⟩
  obtain ⟨page, absent⟩ | reserved := never
  · exact srcActive_absent_page s page absent
  · exact srcActive_reserved s reserved

end Sys2Proof.Machine
end

section
/-! PROOFS. ALERT_N (R558, R559): when the line goes low and what EVT_FIRST then records, its release, and O26. -/

namespace Sys2Proof.Machine

/-- The command completes while island 12 runs, and leaves the line's own effect alone. -/
theorem exec_alertRelease {s : State} (running : s.islUp 12 = true) :
    exec .alertRelease s = .next (alone s (alertRelease s)) := by
  have up : whenUp s [12] (alertRelease s) = alertRelease s := if_pos (by simp [running])
  exact (guarded_alone rfl).trans (by rw [up])

/-! When the line goes low -/

/-- R558: the line was never released, or at least 1 µs ago. -/
def alertRested (s : State) : Bool := s.evt.alertRel.all (elapsed s · 1000)

theorem alertRested_iff {s : State} :
    alertRested s = true ↔ ∀ t, s.evt.alertRel = some t → t + 1000 ≤ s.up := by
  simp only [alertRested, Option.all_eq_true, elapsed, decide_eq_true_eq]

theorem alertRested_eq_false {s : State} {t : Nat} (released : s.evt.alertRel = some t) (within : s.up < t + 1000) :
    alertRested s = false :=
  Bool.eq_false_iff.2 fun rested => Nat.not_le.2 within (alertRested_iff.1 rested t released)

/-- The line goes low in this cycle. -/
def alertFalls (s : State) : Bool := alertWanted s && !s.evt.alert && alertRested s

/-- R559: EVT_FIRST took its record in this cycle, and a further source of the cycle may be the lowest. -/
def firstOpen (s : State) : Bool := alertWanted s && s.evt.firstAt == some s.up && s.regB R.EVT_FIRST 31

theorem alertDrive_eq (s : State) : alertDrive s =
    if alertFalls s then
      if s.regB R.EVT_FIRST 31 then { s with evt := { s.evt with alert := true } }
      else { s with evt := { s.evt with alert := true, firstAt := some s.up } }.setReg R.EVT_FIRST
        (w32 (2 ^ 31 + alertLowest s))
    else if firstOpen s then
      s.setReg R.EVT_FIRST (w32 (2 ^ 31 + min (s.regF R.EVT_FIRST 0 8) (alertLowest s)))
    else s := by
  unfold alertDrive alertFalls alertRested
  cases s.evt.alertRel <;> rfl

theorem alertDrive_of_falls {s : State} (falls : alertFalls s = true) : alertDrive s =
    if s.regB R.EVT_FIRST 31 then { s with evt := { s.evt with alert := true } }
    else { s with evt := { s.evt with alert := true, firstAt := some s.up } }.setReg R.EVT_FIRST
      (w32 (2 ^ 31 + alertLowest s)) :=
  (alertDrive_eq s).trans (if_pos falls)

theorem alertDrive_of_firstOpen {s : State} (falls : alertFalls s = false) (first : firstOpen s = true) : alertDrive s =
    s.setReg R.EVT_FIRST (w32 (2 ^ 31 + min (s.regF R.EVT_FIRST 0 8) (alertLowest s))) := by
  simp [alertDrive_eq, falls, first]

theorem alertDrive_of_rests {s : State} (falls : alertFalls s = false) (first : firstOpen s = false) : alertDrive s = s := by
  simp [alertDrive_eq, falls, first]

theorem alertFalls_iff {s : State} :
    alertFalls s = true ↔ alertWanted s = true ∧ s.evt.alert = false ∧ alertRested s = true := by
  simp [alertFalls, and_assoc]

theorem alertFalls_of_low {s : State} (low : s.evt.alert = true) : alertFalls s = false := by simp [alertFalls, low]

theorem alertFalls_of_not_rested {s : State} (rests : alertRested s = false) : alertFalls s = false := by
  simp [alertFalls, rests]

theorem firstOpen_of_earlier {s : State} (earlier : s.evt.firstAt ≠ some s.up) : firstOpen s = false := by
  simp [firstOpen, earlier]

/-! The release -/

/-- Where a source asks for ALERT_N, nothing is released. -/
theorem alertRelease_of_wanted {s : State} (wanted : alertWanted s = true) : alertRelease s = alertDrive s :=
  if_neg (by simp [wanted])

/-- Where nothing asks for ALERT_N, a driven line is released at this instant. -/
theorem alertRelease_of_not_wanted {s : State} (idle : alertWanted s = false) : alertRelease s =
    if s.evt.alert then { s with evt := { s.evt with alert := false, alertRel := some s.up } } else s := by
  have stays : alertDrive s = s := alertDrive_of_rests (by simp [alertFalls, idle]) (by simp [firstOpen, idle])
  simp [alertRelease, idle, stays]

theorem alertRelease_alert_of_not_wanted {s : State} (idle : alertWanted s = false) :
    (alertRelease s).evt.alert = false := by
  rw [alertRelease_of_not_wanted idle]
  split
  · rfl
  · next high => exact Bool.eq_false_iff.2 high

/-- Settles O26: the line is released, stays, or goes low, and EVT_FIRST is written in the cycle of its record alone. -/
theorem alertLine : Obligations.AlertLine := by
  intro s running
  refine ⟨_, exec_alertRelease running, fun idle => ?_, fun wanted low earlier => ?_, fun wanted low now valid => ?_,
    fun wanted high rested => ?_, fun wanted _ earlier ⟨t, released, within⟩ => ?_⟩
  · exact ⟨alertRelease_alert_of_not_wanted idle, congrArg (alone s) (alertRelease_of_not_wanted idle)⟩
  · rw [alertRelease_of_wanted wanted, alertDrive_of_rests (alertFalls_of_low low) (firstOpen_of_earlier earlier)]
  · have first : firstOpen s = true := by simp [firstOpen, wanted, now, valid]
    rw [alertRelease_of_wanted wanted, alertDrive_of_firstOpen (alertFalls_of_low low) first]
  · have falls := alertFalls_iff.2 ⟨wanted, high, alertRested_iff.2 rested⟩
    rw [alertRelease_of_wanted wanted, alertDrive_of_falls falls]
    exact ⟨fun valid => by rw [if_pos valid], fun free => by rw [if_neg (Bool.eq_false_iff.1 free)]⟩
  · have rests := alertFalls_of_not_rested (alertRested_eq_false released within)
    rw [alertRelease_of_wanted wanted, alertDrive_of_rests rests (firstOpen_of_earlier earlier)]

end Sys2Proof.Machine
end

section
/-! PROOFS. What every command does (0.2): it completes, keeps the queue and the factory's data, and keeps the sparse stores in
their canonical form. O1, O3, O4, O6 and O7. -/

namespace Sys2Proof.Machine
open Sys2Proof

/-! Every command completes -/

/-- The arm of a command takes the state to an effect behind the check of its operands. -/
theorem exec_eq_guarded (c : Instr) (s : State) : ∃ t, exec c s = guarded c s t := by
  cases c <;> exact ⟨_, rfl⟩

/-- Settles O1: the step's arm for a queue that is not empty. -/
theorem stepRunsFront : Obligations.StepRunsFront := fun _ _ _ => rfl

/-- Settles O3: the check of the operands answers a next state, whatever the effect. -/
theorem wellFormedCommandsComplete : Obligations.WellFormedCommandsComplete := by
  intro c s
  obtain ⟨effect, arm⟩ := exec_eq_guarded c s
  obtain ⟨t, next, -, -⟩ := guarded_next c s effect
  exact ⟨⟨t, arm.trans next⟩, fun ill => arm.trans (guarded_ill ill)⟩

/-- A command completes, and its effect leaves the queue and the factory's data. -/
theorem exec_next (c : Instr) (s : State) : ∃ t, exec c s = .next t ∧ t.pending = s.pending ∧ t.hw = s.hw := by
  obtain ⟨effect, arm⟩ := exec_eq_guarded c s
  exact arm ▸ guarded_next c s effect

/-- Settles O4: the check of the operands takes the queue and the factory's data from the state before. -/
theorem commandsKeepQueueAndFactoryData : Obligations.CommandsKeepQueueAndFactoryData := by
  intro c s t next
  obtain ⟨u, next', kept⟩ := exec_next c s
  rw [next', Host.Outcome.next.injEq] at next
  exact next ▸ kept

/-! The step -/

theorem step_of_empty {s : State} (empty : s.pending = []) : step s = .next (idle s) := by rw [step, empty]

theorem step_of_waiting {s : State} {c : Instr} {rest : List Instr} (queue : s.pending = c :: rest) :
    step s = exec c { s with pending := rest } := by rw [step, queue]

/-! The canonical form of the sparse stores -/

/-- The queue is no part of the canonical form. -/
theorem canonical_pending {s : State} (h : Canonical s) (q : List Instr) : Canonical { s with pending := q } := h

theorem guarded_canon {c : Instr} {s t u : State} (before : Canonical s) (effect : Canonical t)
    (next : guarded c s t = .next u) : Canonical u := by
  cases next
  split
  · exact effect
  · exact before

/-- The effect of every command keeps the canonical form: an access by the lemma of accesses, an event by its own. -/
theorem effect_canon {s : State} (h : Canonical s) : ∀ c : Instr, ∃ t, Canonical t ∧ exec c s = guarded c s t
  | .registerWrite .. | .islRst .. | .softReset .. | .commit .. | .discard .. | .persistSave .. | .persistForget .. |
    .windowRead .. | .windowWrite .. | .remoteRead .. | .remoteWrite .. | .lockAcquire .. | .lockRelease .. | .cbClr .. |
    .enqueue .. | .flagSet .. | .flagClear .. | .flush .. | .restartRetry .. | .restartDiscard .. | .mapRunWrite .. |
    .mapRunClear .. | .engRst .. | .engClr .. | .cueArm .. | .expectedPush .. | .expectedFlush .. | .ppClrCnt .. |
    .ppClrCredmin .. | .macClrCnt .. | .macClrRingmin .. | .drvFclrRail .. | .drvFclrMxsup .. | .strFclr .. | .drvClr .. |
    .mxFclrCol .. | .mxFclrLine .. | .sealClose .. | .snapshotTake .. | .clockStepAbs .. | .clockStepRel .. | .clockSlew .. |
    .clockInc .. | .clockMode .. | .setvalid .. | .leave .. | .hbForget .. | .hbEvpop .. | .hbClr .. | .pairBind .. |
    .yield .. | .resync .. | .mirClr .. | .linCkpt .. | .linAck .. | .liningRead .. | .policyWrite .. | .commandGo .. |
    .keyRead .. | .keyWrite .. | .keyErase .. | .updSubmit .. | .apply .. | .activate .. | .cancel .. | .sclAll .. |
    .sclOne .. | .fstClrPort .. | .fstClrEcc .. | .evtSwset .. | .evtSwclr .. | .devReset .. | .cagePowerOn .. | .thmClr .. =>
    ⟨_, viaBus_canon h .., rfl⟩
  | .islandResetEnd .. => ⟨_, settle_canon (islandResetEnd_canon h ..), rfl⟩
  | .fenceTimeout .. => ⟨_, settle_canon (fenceTimeout_canon h ..), rfl⟩
  | .orphanReply .. => ⟨_, settle_canon (orphanCmd_canon h ..), rfl⟩
  | .hostWr .. => ⟨_, settle_canon (hostWr_canon h ..), rfl⟩
  | .hostWrb .. => ⟨_, settle_canon (hostWrb_canon h ..), rfl⟩
  | .hostRd .. => ⟨_, settle_canon (hostRd_canon h ..), rfl⟩
  | .hostRdb .. => ⟨_, settle_canon (hostRdb_canon h ..), rfl⟩
  | .hostUnknownCommand .. => ⟨_, hostUnknown_canon h .., rfl⟩
  | .hostFrameAbort .. => ⟨_, settle_canon (hostAbort_canon h ..), rfl⟩
  | .remoteRequest .. => ⟨_, settle_canon (remoteRequest_canon h ..), rfl⟩
  | .remoteReply .. => ⟨_, settle_canon (remoteReply_canon h ..), rfl⟩
  | .remoteTimeout .. => ⟨_, raTimeout_canon h .., rfl⟩
  | .busGrant .. => ⟨_, busGrant_canon h .., rfl⟩
  | .backoffExpiry .. => ⟨_, backoffExpiry_canon h .., rfl⟩
  | .tenureCutoff .. => ⟨_, settle_canon (tenureCutoff_canon h ..), rfl⟩
  | .lockHoldExpiry .. => ⟨_, lockHoldExpiry_canon h .., rfl⟩
  | .tickRelease => ⟨_, settle_canon (tickRelease_canon h), rfl⟩
  | .dispatch => ⟨_, settle_canon (dispatchSlot_canon h), rfl⟩
  | .reservationExpire => ⟨_, whenUp_canon h (expireResv_canon h) _, rfl⟩
  | .itemExpire .. => ⟨_, settle_canon (itemExpire_canon h ..), rfl⟩
  | .itemComplete .. => ⟨_, settle_canon (itemComplete_canon h ..), rfl⟩
  | .executorFault .. => ⟨_, settle_canon (execFault_canon h ..), rfl⟩
  | .itemWatchdog .. => ⟨_, settle_canon (itemWatchdog_canon h ..), rfl⟩
  | .renderComplete .. => ⟨_, settle_canon (renderComplete_canon h ..), rfl⟩
  | .pushHandoff .. => ⟨_, settle_canon (pushHandoff_canon h ..), rfl⟩
  | .checkComplete .. => ⟨_, settle_canon (checkComplete_canon h ..), rfl⟩
  | .ingestFixComplete .. => ⟨_, settle_canon (ingestFixComplete_canon h ..), rfl⟩
  | .meterFoldComplete => ⟨_, settle_canon (foldComplete_canon h), rfl⟩
  | .calStepComplete .. => ⟨_, settle_canon (calStepComplete_canon h ..), rfl⟩
  | .nodePoll .. => ⟨_, settle_canon (nodePoll_canon h ..), rfl⟩
  | .cueRun => ⟨_, settle_canon (cueRun_canon h), rfl⟩
  | .testComplete .. => ⟨_, settle_canon (testEnd_canon h ..), rfl⟩
  | .perferInRegion .. => ⟨_, settle_canon (perferRegion_canon h ..), rfl⟩
  | .perferInCommit .. => ⟨_, settle_canon (perferCommit_canon h ..), rfl⟩
  | .st2110Packet .. => ⟨_, settle_canon (st2110Packet_canon h ..), rfl⟩
  | .e131Data .. => ⟨_, settle_canon (e131Data_canon h ..), rfl⟩
  | .e131Sync .. => ⟨_, settle_canon (e131Sync_canon h ..), rfl⟩
  | .ingestItemClose .. => ⟨_, settle_canon (ingestItemClose_canon h ..), rfl⟩
  | .streamLoss .. => ⟨_, settle_canon (streamLoss_canon h ..), rfl⟩
  | .e131SourceTimeout .. => ⟨_, e131SourceTimeout_canon h .., rfl⟩
  | .e131SyncTimeout .. => ⟨_, e131SyncTimeout_canon h .., rfl⟩
  | .e131Scatter .. => ⟨_, settle_canon (e131Scatter_canon h ..), rfl⟩
  | .latchPoint .. => ⟨_, settle_canon (latchPoint_canon (handover_canon h) ..), rfl⟩
  | .echoRep .. => ⟨_, settle_canon (nodeReply_canon h _ _ _ fun _ ht => echoRep_canon ht ..), rfl⟩
  | .echoTimeout .. => ⟨_, settle_canon (echoTimeout_canon h ..), rfl⟩
  | .frameTxStart .. => ⟨_, settle_canon (txStart_canon h ..), rfl⟩
  | .frameTxEnd .. => ⟨_, settle_canon (txEnd_canon h ..), rfl⟩
  | .pollRep .. => ⟨_, settle_canon (nodeReply_canon h _ _ _ fun _ ht => pollRep_canon ht ..), rfl⟩
  | .enumRep .. => ⟨_, settle_canon (nodeReply_canon h _ _ _ fun _ ht => enumRep_canon ht ..), rfl⟩
  | .assignAck .. => ⟨_, settle_canon (nodeReply_canon h _ _ _ fun _ ht => assignAck_canon ht ..), rfl⟩
  | .assignTimeout .. => ⟨_, assignTimeout_canon h .., rfl⟩
  | .pollTimeout .. => ⟨_, settle_canon (pollTimeout_canon h ..), rfl⟩
  | .enumDone .. => ⟨_, settle_canon (enumDone_canon h ..), rfl⟩
  | .frameReceive .. => ⟨_, settle_canon (frameReceive_canon h ..), rfl⟩
  | .pauseReceive .. => ⟨_, onLink_canon h (pauseReceive_canon h ..) _, rfl⟩
  | .pauseHoldEnd .. => ⟨_, pauseHoldEnd_canon h .., rfl⟩
  | .pauseLong .. => ⟨_, settle_canon (pauseLong_canon h ..), rfl⟩
  | .pauseRepeat .. => ⟨_, settle_canon (pauseRepeat_canon h ..), rfl⟩
  | .busCollision .. => ⟨_, settle_canon (busCollision_canon h ..), rfl⟩
  | .lateCollision .. => ⟨_, settle_canon (lateCollision_canon h ..), rfl⟩
  | .busBackoffEnd .. => ⟨_, settle_canon (busBackoffEnd_canon h ..), rfl⟩
  | .linkUp .. => ⟨_, settle_canon (linkUpCmd_canon h ..), rfl⟩
  | .linkDown .. => ⟨_, settle_canon (linkDownCmd_canon h ..), rfl⟩
  | .sfpInsert .. => ⟨_, settle_canon (onIsl_canon h (sfpInsert_canon h ..) _), rfl⟩
  | .sfpRemove .. => ⟨_, settle_canon (onIsl_canon h (sfpRemove_canon h ..) _), rfl⟩
  | .sfpDiagRefresh .. => ⟨_, onIsl_canon h (sfpDiag_canon h ..) _, rfl⟩
  | .txFault .. => ⟨_, settle_canon (onIsl_canon h (txFault_canon h ..) _), rfl⟩
  | .sakRekey .. => ⟨_, settle_canon (whenUp_canon h (sakRekey_canon h ..) _), rfl⟩
  | .lPushRead => ⟨_, settle_canon (lPushRead_canon h), rfl⟩
  | .imageApply => ⟨_, settle_canon (onDrive_canon h (imageApply_canon h ..)), rfl⟩
  | .drivePresentation .. => ⟨_, settle_canon (onDrive_canon h (drivePresentation_canon h ..)), rfl⟩
  | .stringMeasurement .. => ⟨_, settle_canon (onDrive_canon h (stringMeasurement_canon h ..)), rfl⟩
  | .stringFault .. => ⟨_, settle_canon (onDrive_canon h (stringFault_canon h ..)), rfl⟩
  | .railFault .. => ⟨_, settle_canon (onDrive_canon h (railFault_canon h ..)), rfl⟩
  | .mxFrameLatch .. => ⟨_, settle_canon (onDrive_canon h (mxFrameLatch_canon h ..)), rfl⟩
  | .mxFrameCut .. => ⟨_, settle_canon (onDrive_canon h (mxFrameCut_canon h ..)), rfl⟩
  | .mxColumnFault .. => ⟨_, settle_canon (onDrive_canon h (mxColumnFault_canon h ..)), rfl⟩
  | .mxLineShort .. => ⟨_, settle_canon (onDrive_canon h (mxLineShort_canon h ..)), rfl⟩
  | .mxSupplyFault => ⟨_, settle_canon (onDrive_canon h (mxSupplyFault_canon h)), rfl⟩
  | .meterQuantum .. => ⟨_, settle_canon (whenUp_canon h (meterQuantum_canon h ..) _), rfl⟩
  | .meterFoldEnqueue => ⟨_, settle_canon (whenUp_canon h (foldEnqueue_canon h) _), rfl⟩
  | .lineCycle => ⟨_, settle_canon (whenUp_canon h (lineCycle_canon h) _), rfl⟩
  | .energySave => ⟨_, settle_canon (whenUp_canon h (energySave_canon h) _), rfl⟩
  | .pulseEmit .. => ⟨_, whenUp_canon h (pulseEmit_canon h ..) _, rfl⟩
  | .slewEnd => ⟨_, settle_canon (whenUp_canon h (slewEnd_canon h) _), rfl⟩
  | .clockRead .. => ⟨_, viaBusRead_canon h .., rfl⟩
  | .servoMeasurement .. => ⟨_, settle_canon (whenUp_canon h (firmwareActs_canon _ (servoMeasurement_canon h ..)) _), rfl⟩
  | .sourceChange => ⟨_, settle_canon (whenUp_canon h (sourceChange_canon h) _), rfl⟩
  | .sourceLoss => ⟨_, settle_canon (whenUp_canon h (firmwareActs_canon _ (sourceLoss_canon h)) _), rfl⟩
  | .holdExpired => ⟨_, settle_canon (whenUp_canon h (holdExpired_canon h) _), rfl⟩
  | .secondsCounterSync => ⟨_, whenUp_canon h (secondsSync_canon h) _, rfl⟩
  | .ptpMessageReceive .. => ⟨_, settle_canon (whenUp_canon h (ptpReceive_canon h ..) _), rfl⟩
  | .ptpSyncSend .. => ⟨_, settle_canon (whenUp_canon h (ptpSyncSend_canon h ..) _), rfl⟩
  | .ptpAnnounceSend .. => ⟨_, settle_canon (whenUp_canon h (ptpAnnounceSend_canon h ..) _), rfl⟩
  | .ptpDelayReqSend .. => ⟨_, settle_canon (whenUp_canon h (ptpDelayReqSend_canon h ..) _), rfl⟩
  | .announceTimeout .. => ⟨_, settle_canon (whenUp_canon h (announceTimeout_canon h ..) _), rfl⟩
  | .ppsOut => ⟨_, whenUp_canon h (ppsOut_canon h) _, rfl⟩
  | .ppsInEdge .. => ⟨_, settle_canon (whenUp_canon h (ppsInEdge_canon h ..) _), rfl⟩
  | .ppsLost => ⟨_, settle_canon (whenUp_canon h (ppsLost_canon h) _), rfl⟩
  | .ltcFrame .. => ⟨_, settle_canon (whenUp_canon h (ltcFrame_canon h ..) _), rfl⟩
  | .ltcFrameMissing => ⟨_, settle_canon (whenUp_canon h (ltcMissing_canon h) _), rfl⟩
  | .wclkEdge .. => ⟨_, settle_canon (whenUp_canon h (wclkEdge_canon h ..) _), rfl⟩
  | .wclkMissing => ⟨_, settle_canon (whenUp_canon h (wclkMissing_canon h) _), rfl⟩
  | .helloSend .. => ⟨_, settle_canon (onHb_canon h (helloSend_canon h ..) _), rfl⟩
  | .hello .. => ⟨_, settle_canon (onHb_canon h (helloRx_canon h ..) _), rfl⟩
  | .helloLoss .. => ⟨_, settle_canon (whenUp_canon h (helloLoss_canon h ..) _), rfl⟩
  | .breakFrame .. => ⟨_, settle_canon (ringFrame_canon h _ _ _ fun _ ht => breakRx_canon ht ..), rfl⟩
  | .announceSend => ⟨_, settle_canon (whenUp_canon h (announceSend_canon h) _), rfl⟩
  | .announce .. => ⟨_, settle_canon (announceCmd_canon h ..), rfl⟩
  | .joinSend => ⟨_, settle_canon (whenUp_canon h (joinSend_canon h) _), rfl⟩
  | .join .. => ⟨_, settle_canon (ringFrame_canon h _ _ _ fun _ ht => joinRx_canon ht ..), rfl⟩
  | .assign .. => ⟨_, settle_canon (ringFrame_canon h _ _ _ fun _ ht => assignRx_canon ht ..), rfl⟩
  | .selfAssign => ⟨_, settle_canon (whenUp_canon h (selfAssign_canon h) _), rfl⟩
  | .presentExpire .. => ⟨_, settle_canon (whenUp_canon h (presentExpire_canon h ..) _), rfl⟩
  | .leaveReceive .. => ⟨_, settle_canon (ringFrame_canon h _ _ _ fun _ ht => leaveRx_canon ht ..), rfl⟩
  | .forget .. => ⟨_, settle_canon (ringFrame_canon h _ _ _ fun _ ht => forgetEntry_canon ht ..), rfl⟩
  | .eventSend => ⟨_, settle_canon (whenUp_canon h (eventSend_canon h) _), rfl⟩
  | .event .. => ⟨_, settle_canon (ringFrame_canon h _ _ _ fun _ ht => eventRx_canon ht ..), rfl⟩
  | .updSeg .. => ⟨_, settle_canon (onHb_canon h (updSeg_canon h ..) _), rfl⟩
  | .updAck .. => ⟨_, onHb_canon h (updAckRx_canon h ..) _, rfl⟩
  | .updAckTimeout .. => ⟨_, settle_canon (whenUp_canon h (updAckTimeout_canon h ..) _), rfl⟩
  | .heartbeatSend => ⟨_, settle_canon (whenUp_canon h (heartbeatSend_canon h) _), rfl⟩
  | .heartbeat .. => ⟨_, settle_canon (heartbeatCmd_canon h ..), rfl⟩
  | .partnerLoss => ⟨_, settle_canon (whenUp_canon h (partnerLoss_canon h) _), rfl⟩
  | .seekTimeout => ⟨_, settle_canon (whenUp_canon h (seekTimeout_canon h) _), rfl⟩
  | .mirror .. => ⟨_, settle_canon (mirrorCmd_canon h ..), rfl⟩
  | .mirrorAck .. => ⟨_, settle_canon (cuffIn_canon h _ _ fun _ ht => ackRx_canon ht ..), rfl⟩
  | .mirrorAckTimeout => ⟨_, settle_canon (whenUp_canon h (ackTimeout_canon h) _), rfl⟩
  | .epoch .. => ⟨_, settle_canon (epochCmd_canon h ..), rfl⟩
  | .epochWaitTimeout .. => ⟨_, settle_canon (whenUp_canon h (epochTimeout_canon h ..) _), rfl⟩
  | .yieldReceive .. => ⟨_, settle_canon (cuffIn_canon h _ _ fun _ ht => yieldRx_canon ht ..), rfl⟩
  | .yieldAck .. => ⟨_, settle_canon (cuffIn_canon h _ _ fun _ ht => yieldAck_canon ht ..), rfl⟩
  | .yieldTimeout => ⟨_, settle_canon (whenUp_canon h (yieldTimeout_canon h) _), rfl⟩
  | .yieldRetry => ⟨_, settle_canon (whenUp_canon h (yieldRetry_canon h) _), rfl⟩
  | .handover => ⟨_, settle_canon (whenUp_canon h (handover_canon h) _), rfl⟩
  | .digest .. => ⟨_, settle_canon (cuffIn_canon h _ _ fun _ ht => digestRx_canon ht ..), rfl⟩
  | .resyncReq .. => ⟨_, settle_canon (cuffIn_canon h _ _ fun _ ht => resyncRx_canon ht ..), rfl⟩
  | .resyncEnd .. => ⟨_, settle_canon (resyncEndCmd_canon h ..), rfl⟩
  | .reclaim => ⟨_, settle_canon (whenUp_canon h (reclaim_canon h) _), rfl⟩
  | .diagCheckFail .. => ⟨_, settle_canon (whenUp_canon h (diagFail_canon h ..) _), rfl⟩
  | .diagCheckPass .. => ⟨_, settle_canon (whenUp_canon h (diagPass_canon h ..) _), rfl⟩
  | .liningAppendEnqueue => ⟨_, settle_canon (whenUp_canon h (appendEnqueue_canon h) _), rfl⟩
  | .liningAppendComplete .. => ⟨_, settle_canon (appendComplete_canon h ..), rfl⟩
  | .checkpointStart => ⟨_, settle_canon (whenUp_canon h (ckptStart_canon h) _), rfl⟩
  | .checkpointComplete .. => ⟨_, settle_canon (whenUp_canon h (ckptComplete_canon h ..) _), rfl⟩
  | .sectorErase .. => ⟨_, settle_canon (whenUp_canon h (sectorErase_canon h ..) _), rfl⟩
  | .liningReplay .. => ⟨_, settle_canon (whenUp_canon h (replayCmd_canon h ..) _), rfl⟩
  | .sensorSample .. => ⟨_, settle_canon (sensorSample_canon h ..), rfl⟩
  | .glitchTrip .. => ⟨_, settle_canon (glitchTrip_canon h ..), rfl⟩
  | .commandFail => ⟨_, settle_canon (cmdFail_canon h), rfl⟩
  | .setPolicy => ⟨_, settle_canon (setPolicy_canon h), rfl⟩
  | .setLevel => ⟨_, settle_canon (setLevel_canon h), rfl⟩
  | .unsealMeter => ⟨_, settle_canon (unsealMeter_canon h), rfl⟩
  | .disarm => ⟨_, settle_canon (disarm_canon h), rfl⟩
  | .setPubkey => ⟨_, settle_canon (setPubkey_canon h), rfl⟩
  | .provision => ⟨_, settle_canon (provision_canon h), rfl⟩
  | .cellLow => ⟨_, settle_canon (cellLow_canon h), rfl⟩
  | .applyComplete .. => ⟨_, settle_canon (whenUp_canon h (applyComplete_canon h ..) _), rfl⟩
  | .activationStart => ⟨_, settle_canon (whenUp_canon h (activationStart_canon h) _), rfl⟩
  | .activated => ⟨_, settle_canon (whenUp_canon h (activatedCmd_canon h) _), rfl⟩
  | .activationRevert => ⟨_, settle_canon (whenUp_canon h (activationRevert_canon h) _), rfl⟩
  | .calDue .. => ⟨_, settle_canon (whenUp_canon h (calDue_canon h ..) _), rfl⟩
  | .post .. => ⟨_, settle_canon (whenUp_canon h (post_canon h ..) _), rfl⟩
  | .testVectorEnqueue .. => ⟨_, settle_canon (whenUp_canon h (testEnqueue_canon h ..) _), rfl⟩
  | .scrubError .. => ⟨_, settle_canon (whenUp_canon h (scrubError_canon h ..) _), rfl⟩
  | .passDone => ⟨_, settle_canon (whenUp_canon h (passDone_canon h) _), rfl⟩
  | .alertRelease => ⟨_, whenUp_canon h (alertRelease_canon h) _, rfl⟩
  | .powerOn .. => ⟨_, settle_canon (powerOn_canon h ..), rfl⟩
  | .islandStart => ⟨_, settle_canon (islandStart_canon h), rfl⟩
  | .started => ⟨_, settle_canon (startedCmd_canon h), rfl⟩
  | .supplyBand .. => ⟨_, settle_canon (supplyBand_canon h ..), rfl⟩
  | .powerFailWarning .. => ⟨_, settle_canon (powerFailWarning_canon h ..), rfl⟩
  | .overvoltageCut .. => ⟨_, settle_canon (overvoltageCut_canon h ..), rfl⟩
  | .thermalTrip => ⟨_, settle_canon (thermalTrip_canon h), rfl⟩
  | .powerOffEnd => ⟨_, powerOffEnd_canon h, rfl⟩
  | .thermalRestartCheck .. => ⟨_, thermalRestartCheck_canon h .., rfl⟩
  | .rstNLow .. => ⟨_, rstLow_canon h .., rfl⟩
  | .rstNHigh .. => ⟨_, rstHigh_canon h .., rfl⟩
  | .firmwareWatchdog => ⟨_, settle_canon (firmwareWatchdog_canon h), rfl⟩
  | .cageOvercurrent .. => ⟨_, settle_canon (cageOvercurrentCmd_canon h ..), rfl⟩
  | .holdupMeasure .. => ⟨_, settle_canon (holdupMeasure_canon h ..), rfl⟩
  | .thermalWarn .. => ⟨_, settle_canon (whenUp_canon h (thermSample_canon h ..) _), rfl⟩
  | .healthHoldExpiry => ⟨_, settle_canon (whenUp_canon h (healthExpiry_canon h) _), rfl⟩
  | .baseplateSensorFail .. => ⟨_, settle_canon (whenUp_canon h (sensorFail_canon h ..) _), rfl⟩
  | .cellFailure => ⟨_, cellFail_canon h, rfl⟩
  | .logicPowerLoss => ⟨_, logicPowerLoss_canon h, rfl⟩

theorem exec_canon {c : Instr} {s t : State} (before : Canonical s) (next : exec c s = .next t) : Canonical t := by
  obtain ⟨effect, canonical, arm⟩ := effect_canon before c
  exact guarded_canon before canonical (arm ▸ next)

/-- Settles O7: the command at the front of the queue keeps the form, and so does a cycle of the clock. -/
theorem canonicalStoresKept : Obligations.CanonicalStoresKept := by
  intro s t before next
  cases queue : s.pending with
  | nil =>
    rw [step_of_empty queue, Host.Outcome.next.injEq] at next
    exact next ▸ idle_canon before
  | cons c rest =>
    rw [step_of_waiting queue] at next
    exact exec_canon (canonical_pending before rest) next

/-- Settles O6: the listed registers of the state after reset are the ones whose word differs from the reset word. -/
theorem resetMeetsInvariants : Obligations.ResetMeetsInvariants := by
  have registers : State.reset.regs.sparse resetWord := by decide
  exact ⟨⟨registers, SMap.wf_nil, SMap.wf_nil, SMap.sparse_nil _, SMap.sparse_nil _⟩, List.forall_mem_nil _, rfl⟩

end Sys2Proof.Machine
end

section
/-! PROOFS. A cycle of the time clock (12.1, log 1): what follows from it in the blocks leaves the clocks, O2, and with it O5. -/

namespace Sys2Proof.Machine

/-! What leaves the clocks -/

/-- The clocks stand, and the queue and the factory's data stay. -/
def ClocksStand (s t : State) : Prop := t.up = s.up ∧ t.clk = s.clk ∧ t.pending = s.pending ∧ t.hw = s.hw

theorem ClocksStand.refl (s : State) : ClocksStand s s := ⟨rfl, rfl, rfl, rfl⟩

theorem ClocksStand.trans {s t u : State} (h : ClocksStand s t) (k : ClocksStand t u) : ClocksStand s u := by
  obtain ⟨up, clk, pending, hw⟩ := h
  obtain ⟨up', clk', pending', hw'⟩ := k
  exact ⟨up'.trans up, clk'.trans clk, pending'.trans pending, hw'.trans hw⟩

theorem EventOnly.clocksStand {s t : State} (h : EventOnly s t) : ClocksStand s t := by
  obtain ⟨_, _, _, rfl⟩ := h
  exact .refl _

theorem setReg_clocksStand (s : State) (a : Nat) (v : Word) : ClocksStand s (s.setReg a v) :=
  (setReg_eventOnly s a v).clocksStand

theorem mxWrite_clocksStand (ws : List (Nat × Word)) (s : State) : ClocksStand s (mxWrite s ws) := by
  induction ws generalizing s with
  | nil => exact .refl s
  | cons w ws ih => exact (setReg_clocksStand s w.1 w.2).trans (ih _)

theorem setMx_clocksStand (s : State) (p : Nat) (x : MxRt) : ClocksStand s (s.setMx p x) := .refl s

theorem mxStop_clocksStand (s : State) (p : Nat) : ClocksStand s (mxStop s p) :=
  (mxWrite_clocksStand _ s).trans (setMx_clocksStand _ p _)

theorem mxStartFrame_clocksStand (s : State) (p t left pass : Nat) (clamped shown : Bool) :
    ClocksStand s (mxStartFrame s p t left pass clamped shown) := by
  unfold mxStartFrame
  have settings := fun ws => mxWrite_clocksStand ws s
  have counted : ∀ ws, ClocksStand s (if shown then (mxWrite s ws).setRegF (R.MX_CNT p) 16 16
      ((mxWrite s ws).regF (R.MX_CNT p) 16 16 + 1) else mxWrite s ws) := fun ws =>
    ite_ind ((settings ws).trans (setReg_clocksStand ..)) (settings ws)
  have started := fun ws x => (counted ws).trans (setMx_clocksStand _ p x)
  exact ite_ind (started _ _) ((started _ _).trans (mxStop_clocksStand ..))

theorem mxTick_clocksStand (s : State) : ClocksStand s (mxTick s) := by
  have port : ∀ (t : State) (p : Nat), ClocksStand t (mxTick1 t p) := fun t _ =>
    ite_ind (mxStartFrame_clocksStand t ..) (.refl t)
  exact (port s 0).trans (port _ 1)

theorem scrubTick_clocksStand (s : State) : ClocksStand s (scrubTick s) :=
  ite_ind (setReg_clocksStand s _ _) (.refl s)

theorem servoFree_clocksStand (s : State) : ClocksStand s (servoFree s) := by
  have free : ClocksStand s { s with clkr := { s.clkr with state := 0, src := 0, good := 0, bad := 0, meas := none } } := .refl s
  unfold servoFree
  exact ite_ind free (free.trans (raise_eventOnly _ _ _).clocksStand)

/-! The tick -/

/-- Up time has grown by a cycle of 8 ns, and the queue and the factory's data stay. -/
def CyclePassed (s t : State) : Prop := t.up = s.up + 8 ∧ t.pending = s.pending ∧ t.hw = s.hw

theorem CyclePassed.trans {s t u : State} (h : CyclePassed s t) (k : ClocksStand t u) : CyclePassed s u := by
  obtain ⟨up, pending, hw⟩ := h
  obtain ⟨up', -, pending', hw'⟩ := k
  exact ⟨up'.trans up, pending'.trans pending, hw'.trans hw⟩

/-- R391: a tick with or without a step of the clock. -/
theorem clockTick_cyclePassed (s : State) : CyclePassed s (clockTick s) := by
  have passed : ∀ (n : Nat) (c : ClkRt), CyclePassed s { s with up := s.up + 8, clk := n, clkr := c } :=
    fun _ _ => ⟨rfl, rfl, rfl⟩
  have freed : ∀ (n : Nat) (c : ClkRt) (b : Bool), CyclePassed s (if b then
      servoFree { s with up := s.up + 8, clk := n, clkr := c } else { s with up := s.up + 8, clk := n, clkr := c }) :=
    fun n c _ => ite_ind ((passed n c).trans (servoFree_clocksStand _)) (passed n c)
  unfold clockTick
  simp only []
  split
  · exact freed _ _ _
  · exact (ite_ind ((freed _ _ _).trans (raise_eventOnly _ _ _).clocksStand) (freed _ _ _)).trans
      (raise_eventOnly _ _ _).clocksStand

/-- R392: without an operation that waits and without a slew the clock gains the increment in force. -/
theorem clockTick_clk {s : State} (ops : s.clkr.ops = []) (slew : s.clkr.slew = none) :
    (clockTick s).clk = s.clk + if clkNormal s then (s.reg R.CLK_INC).toNat else 0x08000000 := by
  simp [clockTick, ops, slew, slewOps, rawAmong]
  split <;> simp

/-! A cycle on an empty queue -/

/-- What a cycle does before the blocks follow: the tick where island 9 runs, up time alone where it does not. -/
def cycled (s : State) : State := if s.islUp 9 then clockTick s else { s with up := s.up + 8 }

theorem cycled_cyclePassed (s : State) : CyclePassed s (cycled s) :=
  ite_ind (clockTick_cyclePassed s) ⟨rfl, rfl, rfl⟩

theorem idle_clocksStand (s : State) : ClocksStand (cycled s) (idle s) := by
  have stepped : ClocksStand (cycled s) (if s.islUp 9 && s.clkr.ops.any ClkOp.isStep then
      { cycled s with mtr := { (cycled s).mtr with stepped := true } } else cycled s) := ite_ind (.refl _) (.refl _)
  have scrubbed : ∀ t, ClocksStand t (whenUp t [3] (scrubTick t)) := fun t => ite_ind (scrubTick_clocksStand t) (.refl t)
  have scanned : ∀ t, ClocksStand t (onDrive t (mxTick t)) := fun t => ite_ind (mxTick_clocksStand t) (.refl t)
  exact ((stepped.trans (scrubbed _)).trans (scanned _)).trans (alertDrive_eventOnly _).clocksStand

theorem idle_cyclePassed (s : State) : CyclePassed s (idle s) := (cycled_cyclePassed s).trans (idle_clocksStand s)

/-- The local clock after a cycle is that after the tick. -/
theorem idle_clk (s : State) : (idle s).clk = (cycled s).clk := by
  obtain ⟨-, clk, -, -⟩ := idle_clocksStand s
  exact clk

/-- Settles O2: the tick moves the clocks, and what follows from it in the blocks leaves them. -/
theorem emptyQueueCycle : Obligations.EmptyQueueCycle := by
  intro s empty
  obtain ⟨up, pending, hw⟩ := idle_cyclePassed s
  refine ⟨idle s, step_of_empty empty, up, pending.trans empty, hw, fun runs ops slew => ?_, fun stands => ?_⟩
  · rw [idle_clk, cycled, if_pos runs, clockTick_clk ops slew]
  · rw [idle_clk, cycled, if_neg (Bool.eq_false_iff.1 stands)]

/-- A step that leaves the rest of the queue leaves a queue of well-formed commands where there was one. -/
theorem queueOk_of_tail {s t : State} (before : QueueOk s) (pending : t.pending = s.pending.tail) : QueueOk t :=
  fun c waits => before c (List.mem_of_mem_tail (pending ▸ waits))

/-- Settles O5: an empty queue lets a cycle pass, and the command at the front of another completes. -/
theorem noStepStops : Obligations.NoStepStops := by
  intro s
  have next : ∃ t, step s = .next t ∧ t.hw = s.hw ∧ t.pending = s.pending.tail := by
    cases queue : s.pending with
    | nil =>
      obtain ⟨-, pending, hw⟩ := idle_cyclePassed s
      exact ⟨idle s, step_of_empty queue, hw, by rw [pending, queue, List.tail_nil]⟩
    | cons c rest =>
      obtain ⟨t, next, pending, hw⟩ := exec_next c { s with pending := rest }
      exact ⟨t, (step_of_waiting queue).trans next, hw, pending⟩
  obtain ⟨t, next, hw, pending⟩ := next
  exact ⟨t, next, fun before => queueOk_of_tail before pending, hw, pending⟩

end Sys2Proof.Machine
end

section
/-! PROOFS. The state after reset (Table 20-8): the registers whose words differ from their reset words, and O8. -/

namespace Sys2Proof.Machine

/-- A key that no entry has is not listed. -/
theorem sget_eq_none_of_forall_ne {α : Type} {m : SMap α} {k : Nat} (absent : ∀ e ∈ m, k ≠ e.1) : sget m k = none := by
  induction m with
  | nil => rfl
  | cons e m ih =>
    obtain ⟨other, absent⟩ := List.forall_mem_cons.1 absent
    rw [sget, if_neg other, ih absent]

/-- The registers that the state after reset lists are DEV_RSTCAUSE, the nine policy words and KEY_STAT (log 12). -/
theorem regs0_key {e : Nat × Word} (h : e ∈ regs0) :
    e.1 = R.DEV_RSTCAUSE ∨ e.1 = R.KEY_STAT ∨ ∃ n < 9, e.1 = R.GNT_POL n := by
  revert e
  decide

/-- Settles O8: what is not listed reads its reset value, and the words listed are those of the statement. -/
theorem resetState : Obligations.ResetState := by
  refine ⟨fun i => ?_, fun a cause slots policy => ?_, by decide, rfl, rfl, by decide, fun _ _ => rfl, fun _ _ => rfl,
    rfl, rfl, rfl, rfl, rfl, rfl, rfl, rfl, rfl, rfl, rfl, rfl, rfl, rfl⟩
  · exact (Nat.testBit_two_pow (n := 13)).trans (decide_eq_decide.2 eq_comm)
  · have absent : ∀ e ∈ regs0, a ≠ e.1 := fun e he => by
      rcases regs0_key he with h | h | ⟨n, hn, h⟩ <;> rw [h]
      · exact cause
      · exact slots
      · exact policy n hn
    exact congrArg (·.getD (resetWord a)) (sget_eq_none_of_forall_ne absent)

end Sys2Proof.Machine
end

section
/-! PROOFS. Accesses through the control bus (chapters 2 and 3): what an accepted write, lock operation or read of a requester
leaves, once for all the commands that are one, and O51 to O57. -/

namespace Sys2Proof.Machine

/-- A command that is a register write completes where the write is accepted. -/
theorem exec_written {c : Instr} {s : State} {req a : Nat} {v : Word} (arm : exec c s = guarded c s (viaBus s req a v))
    (wf : c.wf = true) (takes : takesWrite s req a v = true) : exec c s = .next (written s req a v) := by
  rw [arm, viaBus_takes takes]
  exact guarded_settled wf

/-- A command that is a register read completes where the read is answered (R17). -/
theorem exec_read {c : Instr} {s : State} {req a : Nat} (arm : exec c s = guarded c s (viaBusRead s req a))
    (wf : c.wf = true) (takes : takesRead s req a = true) :
    exec c s = .next (settled s (answered (reply (noteReply (readTouch (locksDue s) req a) a) req 0
      [readWord (locksDue s) req a]) req)) := by
  rw [arm, viaBusRead_takes takes]
  exact guarded_settled wf

/-! Operations of PG_LOCK -/

theorem pageOf_pgLock (p : Nat) : pageOf (R.PG_LOCK p) = p := by unfold pageOf R.PG_LOCK; omega

theorem offOf_pgLock (p : Nat) : offOf (R.PG_LOCK p) = 0x20 := by unfold offOf R.PG_LOCK; omega

/-- What a write of PG_LOCK does (R83, R87): ACQ acquires the page, REL releases the sequence. -/
def lockEffect (s : State) (req p : Nat) (v : Word) : State × Nat :=
  if bit v 0 then (lockAcquire s req p, 0) else if bit v 1 then lockRelease s req else (s, 0)

theorem lockEffect_acquire (s : State) (req p : Nat) : lockEffect s req p 1#32 = (lockAcquire s req p, 0) :=
  if_pos (by decide)

theorem lockEffect_release (s : State) (req p : Nat) : lockEffect s req p 2#32 = lockRelease s req :=
  (if_neg (by decide)).trans (if_pos (by decide))

/-- An accepted write of PG_LOCK answers with the effect of the lock operation. -/
theorem busWrite_takesLock {s : State} {req p : Nat} {v : Word} (takes : takesLock s req p v = true) :
    busWrite s req (R.PG_LOCK p) v = lockEffect (locksDue s) req p v := by
  rw [takesLock, Bool.and_eq_true] at takes
  obtain ⟨-, served⟩ := takes
  cases target : findTarget (locksDue s) req (R.PG_LOCK p) with
  | ends t n => simp [target] at served
  | reg d r =>
    have page : d.num = p := (locate_page (findTarget_reg target)).trans (pageOf_pgLock p)
    simp only [target, page, Option.isNone_iff_eq_none] at served
    simp only [busWrite, busWriteAt, target, served, offOf_pgLock, page, if_true]
    rfl

/-- A command that is a lock operation completes where the operation is accepted and succeeds. -/
theorem exec_lockDone {c : Instr} {s t : State} {req p : Nat} {v : Word}
    (arm : exec c s = guarded c s (viaBus s req (R.PG_LOCK p) v)) (wf : c.wf = true) (takes : takesLock s req p v = true)
    (effect : lockEffect (locksDue s) req p v = (t, 0)) : exec c s = .next (lockDone s t req p) := by
  have issues : mayIssue s req (R.PG_LOCK p) (some v) = true := by
    rw [takesLock, Bool.and_eq_true] at takes
    exact takes.1
  have access : viaBus s req (R.PG_LOCK p) v = settle (answered (reply (noteReply t (R.PG_LOCK p)) req 0 []) req) := by
    rw [viaBus, if_pos issues, busWriteR, busWrite_takesLock takes, effect]
  rw [arm, access]
  exact guarded_settled wf

/-! The commands -/

/-- Settles O51: every command is a register write but the two lock operations. -/
theorem busRegisterCommandsComplete : Obligations.BusRegisterCommandsComplete :=
  ⟨fun _ _ _ _ => exec_written rfl, fun _ _ _ => exec_written rfl, fun _ _ _ _ _ => exec_written rfl,
    fun _ _ _ => exec_written rfl, fun _ _ _ => exec_written rfl, fun _ _ _ => exec_written rfl,
    fun _ _ _ => exec_written rfl, fun _ _ _ => exec_written rfl, fun _ _ _ => exec_written rfl,
    fun _ _ _ => exec_written rfl, fun _ _ _ => exec_written rfl, fun _ _ _ => exec_written rfl,
    fun _ _ _ wf takes => exec_lockDone rfl wf takes (lockEffect_acquire ..),
    fun _ _ _ _ wf takes effect => exec_lockDone rfl wf takes ((lockEffect_release ..).trans effect)⟩

/-- Settles O52: every command is a register write. -/
theorem hatrackAndSurfaceWritesComplete : Obligations.HatrackAndSurfaceWritesComplete :=
  ⟨fun _ _ => exec_written rfl, fun _ _ _ => exec_written rfl, fun _ _ _ => exec_written rfl,
    fun _ _ _ => exec_written rfl, fun _ _ _ => exec_written rfl, fun _ _ _ => exec_written rfl,
    fun _ _ => exec_written rfl, fun _ _ => exec_written rfl, fun _ _ _ => exec_written rfl, fun _ _ => exec_written rfl,
    fun _ _ => exec_written rfl, fun _ _ => exec_written rfl, fun _ _ => exec_written rfl⟩

/-- Settles O53: every command is a register write. -/
theorem portAndDriveWritesComplete : Obligations.PortAndDriveWritesComplete :=
  ⟨fun _ _ _ => exec_written rfl, fun _ _ _ => exec_written rfl, fun _ _ _ => exec_written rfl,
    fun _ _ _ => exec_written rfl, fun _ _ _ => exec_written rfl, fun _ _ => exec_written rfl,
    fun _ _ _ _ => exec_written rfl, fun _ _ => exec_written rfl, fun _ _ _ => exec_written rfl,
    fun _ _ _ => exec_written rfl, fun _ _ => exec_written rfl, fun _ _ _ => exec_written rfl⟩

/-- Settles O54: every command is a register write but CLOCK_READ, which is a read. -/
theorem clockCommandsComplete : Obligations.ClockCommandsComplete :=
  ⟨fun _ _ => exec_written rfl, fun _ _ => exec_written rfl, fun _ _ _ => exec_written rfl, fun _ _ _ => exec_written rfl,
    fun _ _ _ => exec_written rfl, fun _ _ _ => exec_written rfl, fun _ _ => exec_read rfl⟩

/-- Settles O55: every command is a register write. -/
theorem ringAndPairWritesComplete : Obligations.RingAndPairWritesComplete :=
  ⟨fun _ _ => exec_written rfl, fun _ _ _ => exec_written rfl, fun _ _ _ => exec_written rfl,
    fun _ _ _ => exec_written rfl, fun _ _ _ => exec_written rfl, fun _ _ => exec_written rfl,
    fun _ _ => exec_written rfl, fun _ _ => exec_written rfl, fun _ _ => exec_written rfl, fun _ _ _ => exec_written rfl,
    fun _ _ => exec_written rfl⟩

/-- Settles O56: every command is a register write. -/
theorem securityWritesComplete : Obligations.SecurityWritesComplete :=
  ⟨fun _ _ _ _ => exec_written rfl, fun _ _ => exec_written rfl, fun _ _ => exec_written rfl, fun _ _ => exec_written rfl,
    fun _ _ => exec_written rfl, fun _ _ => exec_written rfl, fun _ _ => exec_written rfl, fun _ _ => exec_written rfl,
    fun _ _ => exec_written rfl⟩

/-- Settles O57: every command is a register write. -/
theorem moduleWritesComplete : Obligations.ModuleWritesComplete :=
  ⟨fun _ _ => exec_written rfl, fun _ _ _ => exec_written rfl, fun _ _ _ => exec_written rfl, fun _ _ => exec_written rfl,
    fun _ _ _ => exec_written rfl, fun _ _ _ => exec_written rfl, fun _ _ _ => exec_written rfl,
    fun _ _ _ => exec_written rfl, fun _ _ => exec_written rfl⟩

end Sys2Proof.Machine
end

section
/-! PROOFS. How an event completes: its arm, with and without what follows in other blocks, and the places where it reaches the
module. -/

namespace Sys2Proof.Machine

variable {c : Instr} {s t u : State}

/-- A well-formed event leaves its effect, and what follows from it in other blocks. -/
theorem exec_settled (arm : exec c s = guarded c s (settle t)) (wf : c.wf = true) (effect : t = u) :
    exec c s = .next (settled s u) :=
  effect ▸ arm.trans (guarded_settled wf)

/-- A well-formed event from which nothing follows leaves its effect alone. -/
theorem exec_alone (arm : exec c s = guarded c s t) (wf : c.wf = true) (effect : t = u) :
    exec c s = .next (alone s u) :=
  effect ▸ arm.trans (guarded_alone wf)

/-! Where an event reaches the module -/

theorem whenUp_of_all {is : List Nat} (up : is.all s.islUp = true) : whenUp s is t = t := if_pos up

theorem whenUp_of_islUp {i : Nat} (up : s.islUp i = true) : whenUp s [i] t = t := whenUp_of_all (by simp [up])

theorem onIsl_of_islUp {p : Nat} {d : PageD} (page : findPage p = some d) (up : s.islUp d.isl = true) :
    onIsl s p t = t := by
  simp only [onIsl, page]
  exact whenUp_of_islUp up

theorem onLink_of_linkUp {p : Nat} (link : linkUp s p = true) : onLink s p t = t := if_pos link

theorem onDrive_of_driveUp (up : driveUp s = true) : onDrive s t = t := if_pos up

theorem onHb_of_hbIn {p : Nat} (takes : hbIn s p = true) : onHb s p t = t := if_pos takes

/-- R423: a frame that the module is to act on. -/
theorem ringFrame_of_arrived {p : Nat} {f : Ryu} (act : State → State) (takes : hbIn s p = true)
    (arrives : ryuArrive s p f = (t, true)) : ringFrame s p f act = act t := by
  rw [ringFrame, onHb_of_hbIn takes, arrives]
  rfl

/-- R262, R270: a node's reply that its port takes. -/
theorem nodeReply_of_nodeIn {p epoch : Nat} (act : State → State) (takes : nodeIn s p epoch = true) :
    nodeReply s p epoch act = act (replyFence s p epoch) := by
  rw [nodeIn, Bool.and_eq_true, decide_eq_true_eq] at takes
  obtain ⟨served, young⟩ := takes
  exact if_neg (by simp [served, young])

/-- R449: a Cuff frame that the member takes. -/
theorem cuffIn_of_takes {epoch : Nat} (act : State → State) (takes : cuffTakes s epoch = true) :
    cuffIn s epoch act = act s := if_pos takes

end Sys2Proof.Machine
end

section
/-! PROOFS. The control bus and the islands (chapters 1, 3 and 19.1): resets that end, fences, backoff, cut-offs, and O35. -/

namespace Sys2Proof.Machine

variable {s : State}

/-- R22: an island whose reset is over. -/
theorem islandResetEnd_of_over {i : Nat} (passed : resetOver s i = true) : islandResetEnd s i =
    raise (enginesBack (if i = 10 then meterCalRestore (reopened s i) else if 4 ≤ i ∧ i ≤ 8 then ptpTouch (reopened s i)
      else reopened s i) i) 0x01 i :=
  if_neg (by simp [passed])

/-- R563: a fence whose timer has run out. -/
theorem fenceTimeout_of_due {i : Nat} {age : FenceAge} (due : fenceDue s i age = true) : fenceTimeout s i age =
    raise (((fenceFired s i).setRegF R.ISL_FTO 16 4 i).count R.ISL_FTO 20 6 1) 0x01 14 :=
  if_pos due

/-- R564: a reply to no access of the state that an island in reset had issued. -/
theorem orphanCmd_of_none {i : Nat} (unknown : s.isl.outs.find? (fun o => o.orphan && reqIsland o.req == i) = none)
    (down : s.islUp i = false) (resets : (sget s.isl.resetAt i).isSome = true) :
    orphanCmd s i = s.count R.ISL_FTO 26 6 1 := by
  rw [orphanCmd, unknown]
  exact if_neg (by simp [down, Option.isSome_iff_ne_none.1 resets])

/-- R564: a write that waits for a requester in reset. -/
theorem orphanCmd_of_write {i : Nat} {o : OutReq} {v : Word} (value : o.val = some v)
    (waits : s.isl.outs.find? (fun o => o.orphan && reqIsland o.req == i) = some o) : orphanCmd s i =
    (noteReply (busWrite { s with isl := { s.isl with outs := s.isl.outs.erase o } } o.req o.addr v).1 o.addr).count
      R.ISL_FTO 26 6 1 := by
  simp only [orphanCmd, waits, value]

/-- R76: a backoff that has run down. -/
theorem backoffExpiry_of_over {r t : Nat} (backs : sget s.arb.backoff r = some t) (passed : t ≤ s.up) : backoffExpiry s r =
    { s with arb := { s.arb with backoff := sdel s.arb.backoff r, contest := s.arb.contest ||| 2 ^ r } } := by
  rw [backoffExpiry, backs]
  exact if_neg (Nat.not_lt.2 passed)

/-- R81: what a cut-off does to the access in progress, after it has been recorded. -/
def cutAccess (s : State) (r addr : Nat) : CutWord → State
  | .burst => { s with arb := { s.arb with waiting := s.arb.waiting ||| 2 ^ r, cut := s.arb.cut ||| 2 ^ r } }
  | .write v => answered (busWriteR s r addr v) r
  | .read => answered (busReadR s r addr) r
  | .waits v => waitAtFence s r addr v

/-- R81: the tenure of the owner has reached its limit. -/
theorem tenureCutoff_of_over {r addr : Nat} (w : CutWord) (owns : s.arb.owner = some r)
    (passed : elapsed s s.arb.tenureStart (5 * s.regF R.CB_HOLD 0 16) = true) :
    tenureCutoff s r addr w = cutAccess (cutRecorded s r addr) r addr w := by
  rw [tenureCutoff, if_neg (by simp [owns, passed])]
  cases w <;> rfl

/-- R91: a sequence whose hold limit has come. -/
theorem lockHoldExpiry_of_over {r : Nat} {q : LockSeq} (opened : sget s.ctl.seqs r = some q)
    (passed : elapsed s q.acq (q.lockUs * 1000) = true) : lockHoldExpiry s r = seqAbort s r 2 := by
  rw [lockHoldExpiry, opened]
  exact if_pos passed

/-- Settles O35: each event by what it does where its condition holds. -/
theorem busEventsComplete : Obligations.BusEventsComplete :=
  ⟨fun _ _ wf passed => exec_settled rfl wf (islandResetEnd_of_over passed),
    fun _ _ _ wf due => exec_settled rfl wf (fenceTimeout_of_due due),
    fun _ _ wf down resets unknown => exec_settled rfl wf (orphanCmd_of_none unknown down resets),
    fun _ _ _ _ => exec_busGrant_winner,
    fun _ _ _ wf backs passed => exec_alone rfl wf (backoffExpiry_of_over backs passed),
    fun _ _ _ wf owns passed => exec_settled rfl wf (tenureCutoff_of_over .burst owns passed),
    fun _ _ _ v wf owns passed => exec_settled rfl wf (tenureCutoff_of_over (.write v) owns passed),
    fun _ _ _ wf owns passed => exec_settled rfl wf (tenureCutoff_of_over .read owns passed),
    fun _ _ _ v wf owns passed => exec_settled rfl wf (tenureCutoff_of_over (.waits v) owns passed),
    fun _ _ _ wf opened passed => exec_alone rfl wf (lockHoldExpiry_of_over opened passed),
    fun _ _ _ _ wf waits value => exec_settled rfl wf (orphanCmd_of_write value waits)⟩

end Sys2Proof.Machine
end

section
/-! PROOFS. Access paths (2.5, 2.6): frames of the host port and remote accesses, and O36. -/

namespace Sys2Proof.Machine

variable {s : State}

@[simp] theorem cutOf_none (s : State) (req : Nat) : cutOf s req none = none := ite_self none

/-! Frames whose CRC matches (R60) -/

theorem hostWr_of_crc {addr crc : Nat} {v : Word} (good : crc = crc16 (hostHead 0x02 addr ++ wordBytes [v]))
    (free : awaited s 1 addr (some v) = true) : hostWr s addr v crc = hostWritten s addr [v] none := by
  simp [hostWr, hostWritten, good, free]

theorem hostWrb_of_crc {addr crc : Nat} {ws : List Word} (cut : Option Nat)
    (good : crc = crc16 (hostHead 0x03 addr ++ beBytes 1 (ws.length - 1) ++ wordBytes ws))
    (free : mayBurst s 1 = true) : hostWrb s addr ws cut crc = hostWritten s addr ws cut := by
  simp [hostWrb, hostWritten, good, free]

theorem hostRd_of_crc {addr crc : Nat} (good : crc = crc16 (hostHead 0x0B addr)) (free : awaited s 1 addr none = true) :
    hostRd s addr crc = hostRead s addr 1 none := by
  simp [hostRd, hostRead, good, free]

theorem hostRdb_of_crc {addr n crc : Nat} (cut : Option Nat) (good : crc = crc16 (hostHead 0x0C addr ++ beBytes 1 n))
    (free : mayBurst s 1 = true) : hostRdb s addr n cut crc = hostRead s addr (n + 1) cut := by
  simp [hostRdb, hostRead, good, free]

theorem hostUnknown_eq (s : State) (cmd : Byte) (body : List Byte) (crc : Nat) :
    hostUnknown s cmd body crc = hostStatus s (if crc = crc16 (cmd :: body) then 0x42 else 0x41) := by
  rw [hostUnknown, ite_not]

/-- R63: a write frame that ends early after an access has started. -/
theorem hostAbort_of_started {addr : Nat} {ws : List Word} (started : ws ≠ []) (free : mayBurst s 1 = true) :
    hostAbort s addr ws = hostDrive (answered (burstWrite s 1 addr ws none).1 1) [] :=
  if_pos (by simp [started, free])

/-- R67: a request that has waited for 2 ms. -/
theorem raTimeout_of_elapsed {r p : Nat} {q : RaReq} (waits : sget s.hb.ras (raKey r p) = some q)
    (late : elapsed s q.sent 2000000 = true) : raTimeout s r p = raDone s (raKey r p) 0x43 := by
  rw [raTimeout, waits]
  exact if_pos late

/-- Settles O36: each path by what it does with a frame that it takes. -/
theorem accessPathsComplete : Obligations.AccessPathsComplete :=
  ⟨fun _ _ _ _ wf crc free => exec_settled rfl wf (hostWr_of_crc crc free),
    fun _ _ _ _ cut wf crc free => exec_settled rfl wf (hostWrb_of_crc cut crc free),
    fun _ _ _ wf crc free => exec_settled rfl wf (hostRd_of_crc crc free),
    fun _ _ _ _ cut wf crc free => exec_settled rfl wf (hostRdb_of_crc cut crc free),
    fun s cmd body crc wf => exec_alone rfl wf (hostUnknown_eq s cmd body crc),
    fun _ _ _ wf started free => exec_settled rfl wf (hostAbort_of_started started free),
    fun _ _ _ _ _ _ _ _ _ _ _ wf takes arrives => exec_settled rfl wf (ringFrame_of_arrived _ takes arrives),
    fun _ _ _ _ _ _ _ _ _ _ _ wf takes arrives => exec_settled rfl wf (ringFrame_of_arrived _ takes arrives),
    fun _ _ _ _ wf waits late => exec_alone rfl wf (raTimeout_of_elapsed waits late)⟩

end Sys2Proof.Machine
end

section
/-! PROOFS. Events of the Hatrack (chapter 4): ticks, dispatch slots, expiry and faults, and O37. -/

namespace Sys2Proof.Machine

variable {s : State}

/-- R115: a tick that has not come yet. -/
theorem tickRelease_of_new (up : s.islUp 2 = true) (new : s.htk.lastTick ≠ some (tickNow s)) :
    tickRelease s = tickReleased s :=
  if_neg (by simp [up, new])

/-- R120: a slot that has not come yet. -/
theorem dispatchSlot_of_new (up : s.islUp 2 = true) (new : s.htk.lastSlot ≠ some (s.up / 20)) :
    dispatchSlot s = dispatched s :=
  if_neg (by simp [up, new])

/-- R123: the head of a flow that waits is past its deadline. -/
theorem itemExpire_of_expired {f : Nat} {h : Item} (up : s.islUp 2 = true) (head : (s.flow f).queue.head? = some h)
    (waits : (s.flow f).state = .waiting ∨ (s.flow f).state = .ready ∨ (s.flow f).state = .reserved)
    (late : headExpired s h = true) : itemExpire s f = expireHead (unreserve s f) f := by
  simp only [itemExpire, head]
  exact if_pos ⟨up, late, waits⟩

/-! Executors that fail (R129, R133) -/

/-- The reset of an engine that serves an item. -/
theorem engReset_of_svc {e : Nat} {v : Svc} (cause : Nat) (serves : svcOf s (.engine e) = some v) :
    engReset s e cause = faultItem (engFault (engDownNow s e) e cause) v := by
  rw [engReset, serves]

theorem execFault_of_engine {e : Nat} {v : Svc} (serves : svcOf s (.engine e) = some v) :
    execFault s (.engine e) = faultItem (engFault (engDownNow s e) e 1) v := by
  rw [execFault, serves]
  exact engReset_of_svc 1 serves

theorem execFault_of_not_engine {x : Exec} {v : Svc} (serves : svcOf s x = some v) (other : ∀ e, x ≠ .engine e) :
    execFault s x = faultItem s v := by
  rw [execFault, serves]
  cases x with
  | engine e => exact absurd rfl (other e)
  | framer | fold | lining | cal | cue => rfl

theorem itemWatchdog_of_not_engine {x : Exec} {v : Svc} (serves : svcOf s x = some v)
    (late : elapsed s v.start (s.regF R.HTK_WDOG 0 16 * 1000) = true) (other : ∀ e, x ≠ .engine e) :
    itemWatchdog s x = faultItem (raise s 0x04 6) v := by
  simp only [itemWatchdog, serves, late]
  cases x with
  | engine e => exact absurd rfl (other e)
  | framer | fold | lining | cal | cue => rfl

/-- Settles O37: each event by what it does where its condition holds. -/
theorem hatrackEventsComplete : Obligations.HatrackEventsComplete :=
  ⟨fun _ up new => exec_settled rfl rfl (tickRelease_of_new up new),
    fun _ up new => exec_settled rfl rfl (dispatchSlot_of_new up new),
    fun _ up => exec_alone rfl rfl (whenUp_of_islUp up),
    fun _ _ _ wf up head waits late => exec_settled rfl wf (itemExpire_of_expired up head waits late),
    fun _ _ _ wf serves other => exec_settled rfl wf (execFault_of_not_engine serves other),
    fun _ _ _ wf serves => exec_settled rfl wf (execFault_of_engine serves),
    fun _ _ _ wf serves late other => exec_settled rfl wf (itemWatchdog_of_not_engine serves late other)⟩

end Sys2Proof.Machine
end

section
/-! PROOFS. Executors that complete their items (chapters 4 to 8 and 18): what each completion does with the item that it serves,
and O38. -/

namespace Sys2Proof.Machine

variable {s t : State} {v : Svc}

theorem itemComplete_of_error {x : Exec} (q : Int) (serves : svcOf s x = some v) :
    itemComplete s x true q = failItem s v 2 := by
  simp [itemComplete, serves]

theorem itemComplete_of_fold (q : Int) (serves : svcOf s .fold = some v) :
    itemComplete s .fold false q = foldComplete s := by
  simp [itemComplete, serves]

/-! Renders (R214) -/

theorem renderComplete_of_rendered {e dg : Nat} {ue : Ue} (serves : svcOf s (.engine e) = some v)
    (kind : v.item.kind = kRender) (renders : renderItem s v.item v.reads ue = (t, some dg)) :
    renderComplete s e ue = completeItem (renderDone t v.item dg) v := by
  simp [renderComplete, serves, kind, renders]

theorem renderComplete_of_failed {e : Nat} {ue : Ue} (serves : svcOf s (.engine e) = some v)
    (kind : v.item.kind = kRender) (fails : renderItem s v.item v.reads ue = (t, none)) :
    renderComplete s e ue = failItem t v 2 := by
  simp [renderComplete, serves, kind, fails]

/-! Framers (R112, R280) -/

/-- A push that hands over a frame for every credit it holds. -/
theorem pushHandoff_of_framed {p : Nat} (serves : svcOf s (.framer p) = some v) (kind : v.item.kind = kPush)
    (speaks : suppressed s v.item = false) (port : p < 16)
    (framed : v.credits ≤ (dataFrames s v.item (fClass s v.flow) v.credits).length) :
    pushHandoff s p = completeItem ((dataFrames s v.item (fClass s v.flow) v.credits).foldl
      (fun t f => handFrame t p f) s) v := by
  simp [pushHandoff, serves, kind, speaks, port, Nat.not_lt.2 framed]

/-- The frame of a poll. -/
def pollFrame (v : Svc) (cls : Nat) : TxFrame :=
  ctlFrame 4 (v.item.f 6 12 12) v.flow cls 0 (beBytes 1 (v.item.f 6 24 4) ++ beBytes 3 0) (v.item.f 7 0 16) (v.credits != 0)

theorem nodePoll_of_poll {p : Nat} (serves : svcOf s (.framer p) = some v) (kind : v.item.kind = kPoll)
    (speaks : suppressed s v.item = false) (poll : v.item.f 6 24 4 ≠ 3) :
    nodePoll s p = completeItem (handFrame s p (pollFrame v (fClass s v.flow))) v := by
  simp [nodePoll, serves, kind, speaks, poll, pollFrame]

/-- The frame of an enumeration on port `p`. -/
def enumFrame (s : State) (p : Nat) (v : Svc) : TxFrame :=
  ctlFrame 6 (v.item.f 6 12 12) v.flow (fClass s v.flow) 0
    (beBytes 2 (s.regF (R.PP_ENUM p) 0 10) ++ beBytes 1 (s.regF (R.PP_ENUM p) 10 1) ++ beBytes 1 0)
    (s.regF (R.PP_ENUM p) 0 10) (v.credits != 0)

theorem nodePoll_of_enum {p : Nat} (serves : svcOf s (.framer p) = some v) (kind : v.item.kind = kPoll)
    (speaks : suppressed s v.item = false) (enum : v.item.f 6 24 4 = 3) (all : v.item.f 6 12 12 = 4095) :
    nodePoll s p = completeItem (handFrame s p (enumFrame s p v)) v := by
  simp [nodePoll, serves, kind, speaks, enum, all, enumFrame]

/-! Steps of a calibration (R543) -/

theorem calStepComplete_of_error (serves : svcOf s .cal = some v) : calStepComplete s none = failItem s v 2 := by
  simp [calStepComplete, serves]

theorem calStepComplete_of_runA (r : Int) (serves : svcOf s .cal = some v) (own : v ∉ s.htk.orphans)
    (op : v.item.f 6 8 2 = 0) (measurable : qtyMeasurable s (v.item.f 6 0 8) true = true)
    (state : ((completeItem s v).qty (v.item.f 6 0 8)).state = 1) : calStepComplete s (some r) =
    calNext ((completeItem s v).setQty (v.item.f 6 0 8)
      { (completeItem s v).qty (v.item.f 6 0 8) with runA := r, state := 2 }) (v.item.f 6 0 8) 1 0 (now32 s + 10000000) := by
  simp [calStepComplete, serves, own, op, measurable, state]

theorem calStepComplete_of_runB (r : Int) (serves : svcOf s .cal = some v) (own : v ∉ s.htk.orphans)
    (op : v.item.f 6 8 2 = 1) (measurable : qtyMeasurable s (v.item.f 6 0 8) true = true)
    (state : ((completeItem s v).qty (v.item.f 6 0 8)).state = 2) : calStepComplete s (some r) =
    calJudge ((completeItem s v).setQty (v.item.f 6 0 8)
      { (completeItem s v).qty (v.item.f 6 0 8) with runB := r }) (v.item.f 6 0 8) := by
  simp [calStepComplete, serves, own, op, measurable, state]

theorem calStepComplete_of_tap (r : Int) (serves : svcOf s .cal = some v) (own : v ∉ s.htk.orphans)
    (op : v.item.f 6 8 2 = 2) (state : ((completeItem s v).qty (v.item.f 6 0 8)).state = 3) :
    calStepComplete s (some r) = calTap (completeItem s v) (v.item.f 6 0 8) v.item := by
  simp [calStepComplete, serves, own, op, state]

/-! Cues (R246, R248) -/

/-- The actions of an enabled cue: under a lock where LOCK is 1. -/
def cueActed (s : State) (cue : Nat) : State × Bool :=
  if s.entF tTDMQ cue 0 1 1 = 1 then cueLocked s (cueActions s cue) else cueWrites s (cueActions s cue)

theorem cueRun_of_disabled (free : s.arb.waiting.testBit 5 = false) (serves : svcOf s .cue = some v)
    (off : s.entF tTDMQ (v.item.f 6 0 12) 0 0 1 = 0) : cueRun s = cueChain (completeItem s v) v.item := by
  simp [cueRun, free, serves, off]

theorem cueRun_of_enabled {b : Bool} (free : s.arb.waiting.testBit 5 = false) (serves : svcOf s .cue = some v)
    (on : s.entF tTDMQ (v.item.f 6 0 12) 0 0 1 = 1) (acts : cueActed s (v.item.f 6 0 12) = (t, b)) :
    cueRun s = if b then cueChain (completeItem t v) v.item else failItem t v 2 := by
  unfold cueActed at acts
  simp [cueRun, free, serves, on, acts]

theorem cueActed_of_unlocked {cue : Nat} (lock : s.entF tTDMQ cue 0 1 1 = 0) :
    cueActed s cue = cueWrites s (cueActions s cue) :=
  if_neg (by simp [lock])

theorem cueActed_of_locked {cue : Nat} (lock : s.entF tTDMQ cue 0 1 1 = 1) :
    cueActed s cue = cueLocked s (cueActions s cue) :=
  if_pos lock

/-- Settles O38: each executor by what it does with the item that it serves. -/
theorem completionsComplete : Obligations.CompletionsComplete :=
  ⟨fun _ _ q _ wf serves => exec_settled rfl wf (itemComplete_of_error q serves),
    fun _ q _ wf serves => exec_settled rfl wf (itemComplete_of_fold q serves),
    fun _ _ _ _ _ _ wf serves kind renders => exec_settled rfl wf (renderComplete_of_rendered serves kind renders),
    fun _ _ _ _ _ wf serves kind fails => exec_settled rfl wf (renderComplete_of_failed serves kind fails),
    fun _ _ _ wf serves kind speaks port framed =>
      exec_settled rfl wf (pushHandoff_of_framed serves kind speaks port framed),
    fun _ _ _ wf _ _ => exec_settled rfl wf rfl,
    fun _ _ _ wf _ _ => exec_settled rfl wf rfl,
    fun _ _ _ => exec_settled rfl rfl rfl,
    fun _ _ serves => exec_settled rfl rfl (calStepComplete_of_error serves),
    fun _ r _ serves own op measurable state =>
      exec_settled rfl rfl (calStepComplete_of_runA r serves own op measurable state),
    fun _ r _ serves own op measurable state =>
      exec_settled rfl rfl (calStepComplete_of_runB r serves own op measurable state),
    fun _ r _ serves own op state => exec_settled rfl rfl (calStepComplete_of_tap r serves own op state),
    fun _ _ _ wf serves kind speaks poll => exec_settled rfl wf (nodePoll_of_poll serves kind speaks poll),
    fun _ _ _ wf serves kind speaks enum all => exec_settled rfl wf (nodePoll_of_enum serves kind speaks enum all),
    fun _ _ free serves off => exec_settled rfl rfl (cueRun_of_disabled free serves off),
    fun _ _ _ free serves on lock acts =>
      exec_settled rfl rfl (cueRun_of_enabled free serves on ((cueActed_of_unlocked lock).trans acts)),
    fun _ _ _ free serves on lock acts =>
      exec_settled rfl rfl (cueRun_of_enabled free serves on ((cueActed_of_locked lock).trans acts)),
    fun _ _ _ free serves on lock acts =>
      exec_settled rfl rfl (cueRun_of_enabled free serves on ((cueActed_of_unlocked lock).trans acts)),
    fun _ _ _ _ wf _ => exec_settled rfl wf rfl⟩

end Sys2Proof.Machine
end

section
/-! PROOFS. Frames and packets that the ingest parsers take (chapter 5): Perfer-IN, ST 2110 and E1.31, and O39. -/

namespace Sys2Proof.Machine

variable {s t : State}

/-! Perfer-IN (R159, R161) -/

/-- The rows that a REGION message writes. -/
def regionOp (s : State) (m : List Byte) : IngOp :=
  .region (beAt m 3 1) (beAt m 4 4) (regionRows (layBase s (beAt m 2 1) (beAt m 3 1)) (layPlanes s (beAt m 2 1))
    (beAt m 16 1) (beAt m 8 2) (beAt m 10 2) (beAt m 12 2) (beAt m 14 2) (m.drop 20))

/-- A region for a slot that is being filled. -/
theorem perferRegion_of_taken {u len id : Nat} {m : List Byte} (on : parserOn s R.LAY_PIN u = true)
    (ok : regionOk s m = true) (filling : (slotAt s (beAt m 2 1) (beAt m 3 1)).st = 1)
    (buffers : poolTake s u len = some (t, id)) : perferRegion s u len m =
    carryFrame t u (beAt m 2 1) (beAt m 4 4) ⟨some id, regionOp s m⟩ false := by
  simp [perferRegion, on, ok, filling, buffers, regionOp]

theorem perferCommit_of_taken {u len id : Nat} {m : List Byte} (on : parserOn s R.LAY_PIN u = true)
    (ok : commitOk s m = true) (buffers : poolTake s u len = some (t, id)) : perferCommit s u len m =
    carryFrame t u (beAt m 2 1) (beAt m 4 4)
      ⟨some id, .commit (beAt m 3 1) (beAt m 4 4) (beAt m 8 2 + beAt m 10 2 * 65536)⟩ true := by
  simp [perferCommit, on, ok, buffers]

theorem ingestItemClose_of_due {u n : Nat} {o : OpenItem} (opened : openOf s u n = some o)
    (due : elapsed s o.since 20000 = true) :
    ingestItemClose s u n = closeItem (closeItems s o.port (· != o)) o 0 := by
  rw [ingestItemClose, opened]
  exact if_pos due

/-! Streams (R166, R170) -/

/-- A packet of the locked source for the frame that is open. -/
theorem st2110Packet_of_open {n len ssrc seq ts : Nat} {mk : Bool} {rs : List Srd} {f : VFrame}
    (on : (s.en 0x08 && s.en 0x09 && s.islUp 4 && s.regB (R.LAY_SCTL n) 0) = true)
    (ok : srdsOk (s.regF (R.LAY_SCTL n) 10 2) (s.regF (R.LAY_SCTL n) 12 2) (layW s (s.regF (R.LAY_SCTL n) 2 8))
      (layH s (s.regF (R.LAY_SCTL n) 2 8)) rs = true)
    (locked : (s.stream n).ssrc = some ssrc) (current : (s.stream n).cur = some f) (stamp : f.ts = ts)
    (room : frameBufs len ≤ poolFree s (s.regF (R.LAY_SCTL n) 1 1)) : st2110Packet s n len ssrc seq ts mk rs =
    videoWrite (s.setStream n { s.stream n with ssrc := some ssrc, live := true, lastPkt := s.up }) n len seq ts mk rs := by
  simp [st2110Packet, on, ok, locked, current, stamp, room]

theorem streamLoss_of_silent {n : Nat} (live : (s.stream n).live = true)
    (silent : elapsed s (s.stream n).lastPkt (3 * 1000000000 * (streamRate s n).2 / (streamRate s n).1) = true) :
    streamLoss s n = raise ((endFrame s n).setStream n
      { (endFrame s n).stream n with live := false, ssrc := none, nextSeq := none }) 0x09 4 :=
  if_pos (by simp [live, silent])

/-! E1.31 (R172 to R176) -/

/-- The state that a data packet of a universe meets: the sources of the universe that are silent are lost. -/
def univFresh (s : State) (univ : Nat) : State :=
  ((univEntries s).filter fun e => univNum s e == univ).foldl e131SourceTimeout s

theorem e131Data_of_no_entry {u len univ cid prio seq start : Nat} {dest : Option Nat} {preview term : Bool}
    {slots : List Byte} {v : State} (fresh : v = univFresh s univ)
    (on : (v.en 0x08 && v.en 0x09 && v.islUp 4 && v.regB R.LAY_E131CTL u) = true) (addressed : e131Dest v dest = true)
    (absent : (univEntries v).find? (fun e => univNum v e == univ) = none) :
    e131Data s u len dest univ cid prio seq preview term start slots = v.count (R.FST_NOSRC u) 0 32 1 := by
  subst fresh
  unfold univFresh at on addressed absent ⊢
  simp [e131Data, on, addressed, absent]

/-- A packet of the first source of an entry that has no sync address. -/
theorem e131Data_of_stored {u len univ cid prio seq e id : Nat} {dest : Option Nat} {slots : List Byte} {v : State}
    (fresh : v = univFresh s univ) (on : (v.en 0x08 && v.en 0x09 && v.islUp 4 && v.regB R.LAY_E131CTL u) = true)
    (addressed : e131Dest v dest = true) (entry : (univEntries v).find? (fun e => univNum v e == univ) = some e)
    (first : (univSrcs v e).seen = []) (buffers : poolTake v u len = some (t, id))
    (taken : (univSrcs (sourceTaken v t u id e cid prio seq) e).taken = some cid)
    (now : (sourceTaken v t u id e cid prio seq).entF tLAYU e 3 0 16 = 0) :
    e131Data s u len dest univ cid prio seq false false 0 slots = storedNow (sourceTaken v t u id e cid prio seq) e slots := by
  subst fresh
  unfold univFresh sourceTaken at *
  simp [e131Data, on, addressed, entry, first, buffers, taken, now, storedNow]

theorem e131Sync_of_taken {u len a id : Nat}
    (on : (s.en 0x08 && s.en 0x09 && s.islUp 4 && s.regB R.LAY_E131CTL u) = true) (address : a ≠ 0)
    (buffers : poolTake s u len = some (t, id)) : e131Sync s u len a = syncTaken (poolRelease t u id) a := by
  simp [e131Sync, on, address, buffers, syncTaken]

/-- R173: the source that an entry takes has been silent for 2.5 s. -/
theorem e131SourceTimeout_of_lost {e : Nat} (lost : (univSrcs s e).seen.any
      (fun y => elapsed s y.last 2500000000 && (univSrcs s e).taken == some y.cid) = true) : e131SourceTimeout s e =
    raise (setUnivSrcs s e ⟨(univSrcs s e).seen.filter fun y => !elapsed s y.last 2500000000, none⟩) 0x09 6 := by
  simp [e131SourceTimeout, loseSources, lost]

theorem e131SyncTimeout_of_silent {a : Nat} {y : SyncRt} (known : sget s.ing.syncs a = some y) (held : y.lost = false)
    (silent : elapsed s y.last 2500000000 = true) : e131SyncTimeout s a =
    raise { s with ing := { s.ing with syncs := sset s.ing.syncs a { y with lost := true } } } 0x09 5 := by
  rw [e131SyncTimeout, known]
  exact if_pos (by simp [held, silent])

theorem e131Scatter_of_running {d prep kEnd : Nat} (running : (s.dom d).running = true)
    (ahead : prep = s.regF R.LAY_E131CTL 16 13 * 1000) (last : kEnd = (latchFrom s d (nowNs s + prep + 1)).k) :
    e131Scatter s d = ((enabledLayers s).filter fun n => laySrc s n == 2 && layDom s n == d).foldl
      (fun t n => if scatterNext s n d kEnd < kEnd then
        scatterLayer t n (scatterNext s n d kEnd) ((epochOf s d (scatterNext s n d kEnd)).l - prep) else t) s := by
  subst ahead last
  exact if_neg (by simp [running])

/-- Settles O39: each parser by what it does with what it takes, each timeout by what it does where it has run out. -/
theorem ingestEventsComplete : Obligations.IngestEventsComplete :=
  ⟨fun _ _ _ _ _ _ wf on ok filling buffers => exec_settled rfl wf (perferRegion_of_taken on ok filling buffers),
    fun _ _ _ _ _ _ wf on ok buffers => exec_settled rfl wf (perferCommit_of_taken on ok buffers),
    fun _ _ _ _ _ _ _ _ _ wf on ok locked current stamp room =>
      exec_settled rfl wf (st2110Packet_of_open on ok locked current stamp room),
    fun _ _ _ _ _ _ _ _ _ _ _ _ _ wf fresh on addressed absent =>
      exec_settled rfl wf (e131Data_of_no_entry fresh on addressed absent),
    fun _ _ _ _ _ _ _ _ _ _ _ _ _ wf fresh on addressed entry first buffers taken now =>
      exec_settled rfl wf (e131Data_of_stored fresh on addressed entry first buffers taken now),
    fun _ _ _ _ _ _ wf on address buffers => exec_settled rfl wf (e131Sync_of_taken on address buffers),
    fun _ _ _ _ wf opened due => exec_settled rfl wf (ingestItemClose_of_due opened due),
    fun _ _ wf live silent => exec_settled rfl wf (streamLoss_of_silent live silent),
    fun _ _ wf lost => exec_alone rfl wf (e131SourceTimeout_of_lost lost),
    fun _ _ _ wf known held silent => exec_alone rfl wf (e131SyncTimeout_of_silent known held silent),
    fun _ _ _ _ wf _ running ahead last => exec_settled rfl wf (e131Scatter_of_running running ahead last)⟩

end Sys2Proof.Machine
end

section
/-! PROOFS. Latch points and echoes (7.3, 7.7), and O40. -/

namespace Sys2Proof.Machine

variable {s : State} {d : Nat} {e : EpochPt} {br : Bool}

/-- R227: a latch point that is due. -/
def latched (s : State) (d : Nat) (e : EpochPt) (br : Bool) : State := processLatch s d e br fun t => applySets t d e.k e.l

theorem latchPoint_of_due (standby : s.pair.role ≠ .standby) (due : dueEpoch s d (nowNs s) = some (e, br)) :
    latchPoint s d = if s.pair.role = .active then
      streamSend (latched s d e br) (.epoch d e.k (epochLayers (latched s d e br) d)) else latched s d e br := by
  simp only [latchPoint, standby, if_false, latchUntil, due, latched]

/-- A module that is no active member. -/
theorem latchPoint_of_alone (standby : s.pair.role ≠ .standby) (active : s.pair.role ≠ .active)
    (due : dueEpoch s d (nowNs s) = some (e, br)) : latchPoint s d = latched s d e br :=
  (latchPoint_of_due standby due).trans (if_neg active)

/-- R454: the active member names the latch point to the standby. -/
theorem latchPoint_of_active {t : State} (active : s.pair.role = .active)
    (due : dueEpoch s d (nowNs s) = some (e, br)) (latches : t = latched s d e br) :
    latchPoint s d = streamSend t (.epoch d e.k (epochLayers t d)) :=
  latches ▸ (latchPoint_of_due (by simp [active]) due).trans (if_pos active)

/-- R254: the first echo whose limit has come. -/
theorem echoTimeout_of_late {n : Nat} {w : EchoWait}
    (late : (s.chk n).echoes.find? (fun w => decide (w.limit ≤ now32 s)) = some w) : echoTimeout s n =
    raise (s.setChk n { s.chk n with
      echoes := (s.chk n).echoes.erase w, elast := 3, echoBad := satAdd 16 (s.chk n).echoBad 1 }) 0x0E 1 := by
  rw [echoTimeout, late]

/-- Settles O40: a latch point by the role of the member after a hand-over that is due, echoes by their reply or limit. -/
theorem presentationEventsComplete : Obligations.PresentationEventsComplete := by
  refine ⟨?_, ?_, fun _ _ _ _ _ _ _ _ wf takes => exec_settled rfl wf (nodeReply_of_nodeIn _ takes),
    fun _ _ _ wf late => exec_settled rfl wf (echoTimeout_of_late late)⟩
  · rintro s d e br _ wf rfl standby active due
    exact exec_settled rfl wf (latchPoint_of_alone standby active due)
  · rintro s d e br _ t wf rfl active due latches
    exact exec_settled rfl wf (latchPoint_of_active active due latches)

end Sys2Proof.Machine
end

section
/-! PROOFS. Push ports and MACs (chapters 8 and 9, 16.9): frames sent and received, node replies, pauses, collisions, links, SFP
modules and SAKs, and O41. -/

namespace Sys2Proof.Machine

variable {s t : State}

/-! Frames sent (R277) -/

/-- The MAC of a page may begin a frame: it is idle and enabled, its link is up, and it neither backs off nor defers. -/
structure MacReady (s : State) (pg : Nat) (med : Medium) : Prop where
  idle : txBusy s pg = false
  link : linkUp s pg = true
  enabled : s.en pg = true
  backoff : (s.mac pg).backoff = none
  gap : isBus pg = false ∨ gapOver s med = true

/-- A frame of priority 0 goes before all others. -/
theorem frameTxStart_of_first {pg : Nat} {med : Medium} {f : MacFrame} (ready : MacReady s pg med)
    (first : firstPri s pg 0 = some f) : frameTxStart s pg med = beginMacFrame s pg f := by
  have gap : (isBus pg && !gapOver s med) = false := by rcases ready.gap with h | h <;> simp [h]
  simp [frameTxStart, ready.idle, ready.link, ready.enabled, ready.backoff, gap, first]

theorem txStart_of_uncalibrated {pg : Nat} {med : Medium} {f : MacFrame} (ready : MacReady s pg med)
    (first : firstPri s pg 0 = some f) (uncalibrated : calIndex pg = none) :
    txStart s pg med = beginMacFrame s pg f := by
  simp only [txStart, frameTxStart_of_first ready first, ready.idle, uncalibrated]
  cases txBusy (beginMacFrame s pg f) pg <;> rfl

/-- R305: the timestamp of a frame that leaves counts the preamble and the calibrated delay (logs 124, 151). -/
theorem txStart_of_calibrated {pg k : Nat} {med : Medium} {f : MacFrame} (ready : MacReady s pg med)
    (first : firstPri s pg 0 = some f) (calibrated : calIndex pg = some k) (begins : t = beginMacFrame s pg f)
    (busy : txBusy t pg = true) : txStart s pg med = t.setMac pg
      { t.mac pg with txTs := (((nowNs s + med.sub + preambleNs s pg : Nat) : Int) + calDelay s k).toNat } := by
  subst begins
  simp only [txStart, frameTxStart_of_first ready first, calibrated, ready.idle, busy]

/-! Node replies and their limits (R265 to R280) -/

theorem assignTimeout_of_late {p : Nat} {a : AssignWait}
    (late : (s.port p).assigns.find? (fun a => elapsed s a.left 10000000) = some a) : assignTimeout s p =
    (s.setPort p { s.port p with assigns := (s.port p).assigns.erase a }).count (R.PP_NOREPLY p) 0 32 1 := by
  rw [assignTimeout, late]

/-- The poll whose limit has come no longer waits, and is counted. -/
def pollMissed (s : State) (p : Nat) (w : PollWait) : State :=
  (s.setPort p { s.port p with polls := (s.port p).polls.erase w }).count (R.PP_NOREPLY p) 0 32 1

/-- The first poll of a port whose limit has come. -/
def latePoll (s : State) (p : Nat) : Option PollWait :=
  (s.port p).polls.find? fun w => elapsed s w.sent (w.timeout * 1000)

theorem pollTimeout_of_broadcast {p : Nat} {w : PollWait} (late : latePoll s p = some w) (all : w.node = 4095) :
    pollTimeout s p = pollMissed s p w := by
  unfold latePoll at late
  simp [pollTimeout, late, all, pollMissed]

theorem pollTimeout_of_present {p : Nat} {w : PollWait} (late : latePoll s p = some w) (one : w.node ≠ 4095)
    (missed : t = pollMissed s p w) (other : (t.node p w.node).misses ≠ 2) : pollTimeout s p =
    t.setNode p w.node { t.node p w.node with misses := min 3 ((t.node p w.node).misses + 1) } := by
  subst missed
  unfold latePoll at late
  unfold pollMissed at other ⊢
  have stays : ¬(min 3 (((pollMissed s p w).node p w.node).misses + 1) = 3 ∧
      ((pollMissed s p w).node p w.node).misses < 3) := fun ⟨third, fewer⟩ => other (by unfold pollMissed at *; omega)
  unfold pollMissed at stays
  simp only [pollTimeout, late, one, stays, if_false]

/-- R280: the third miss. -/
theorem pollTimeout_of_absent {p : Nat} {w : PollWait} (late : latePoll s p = some w) (one : w.node ≠ 4095)
    (missed : t = pollMissed s p w) (second : (t.node p w.node).misses = 2) : pollTimeout s p =
    raise (t.setNode p w.node { t.node p w.node with misses := 3, state := 2 }) (ppPage p) 5 := by
  subst missed
  unfold latePoll at late
  unfold pollMissed at second ⊢
  simp [pollTimeout, late, one, second]

theorem enumDone_of_due {p n : Nat} (due : (s.port p).enumDue.find? (fun t => decide (t ≤ s.up)) = some n) :
    enumDone s p = raise (s.setPort p { s.port p with enumDue := (s.port p).enumDue.erase n }) (ppPage p) 9 := by
  rw [enumDone, due]

/-! Frames received (R290, R291) -/

theorem frameReceive_of_runt {pg : Nat} {f : RxFrame} (link : linkUp s pg = true) (runt : f.len < 64) :
    frameReceive s pg f = (ringReturn (rxStamp s pg f) pg f.back).count (R.MAC_RXRUNT pg) 0 32 1 := by
  simp [frameReceive, rxOuter, link, runt]

theorem frameReceive_of_passed {pg : Nat} {f : RxFrame} (link : linkUp s pg = true)
    (passed : rxOuter (ringReturn (rxStamp s pg f) pg f.back) pg f = (t, true)) (own : isRyu s pg f.bytes = false) :
    frameReceive s pg f = (rxInner t pg f).1 := by
  simp [frameReceive, link, passed, own]

/-! Pauses (R297 to R300) -/

theorem pauseReceive_of_idle {pg q : Nat} (full : isBus pg = false) (heeds : s.regB (R.MAC_PAUSE pg) 0 = true)
    (idle : txBusy s pg = false) (fast : s.regF (R.MAC_CFG pg) 14 2 = 0) :
    pauseReceive s pg q = holdFrom (s.count (R.MAC_RXPAUSE pg) 0 32 1) pg (s.up + q * 512 / 25) := by
  simp [pauseReceive, full, heeds, idle, fast]

theorem pauseHoldEnd_of_over {pg : Nat} {h : Hold} (holds : (s.mac pg).hold = some h) (ended : h.until_ ≤ s.up) :
    pauseHoldEnd s pg = s.setMac pg { s.mac pg with hold := none, heldNs := (s.mac pg).heldNs + (h.until_ - h.from_) } := by
  simp [pauseHoldEnd, holdRan, holds, ended]

theorem pauseLong_of_reached {pg : Nat} {h : Hold} (holds : (s.mac pg).hold = some h) (first : h.long = false)
    (watched : s.regF (R.MAC_PAUSE pg) 16 16 ≠ 0)
    (reached : s.regF (R.MAC_PAUSE pg) 16 16 * 1000 ≤ min s.up h.until_ - h.start) :
    pauseLong s pg = raiseMac (s.setMac pg { s.mac pg with hold := some { h with long := true } }) pg 2 := by
  simp only [pauseLong, holds]
  exact if_pos ⟨watched, by simp [first], reached⟩

theorem pauseRepeat_of_due {pg : Nat} (pausing : (s.mac pg).pausing = true) (sends : s.regB (R.MAC_PAUSE pg) 1 = true)
    (due : elapsed s (s.mac pg).pauseAt 500000 = true) (low : poolFree s (pg - 0x10) < 2 * pauseX s (pg - 0x10)) :
    pauseRepeat s pg = pauseSend s pg 0xFFFF :=
  if_pos (by simp [pausing, sends, due, low])

/-! Collisions (R309, R310) -/

/-- A collision of a bus in the slot time: the frame waits, or is dropped at the sixteenth attempt. -/
theorem busCollision_of_early {pg : Nat} (bus : isBus pg = true) (busy : txBusy s pg = true)
    (early : s.up - (s.mac pg).txAt ≤ 51200) (sends : (s.mac pg).backoff = none) : busCollision s pg =
    if 16 ≤ ((s.count (R.MAC_COLL pg) 0 32 1).mac pg).tries + 1 then
      raiseMac ((dropInHand (s.count (R.MAC_COLL pg) 0 32 1) pg).count (R.MAC_EXCOLL pg) 0 32 1) pg 8
    else collided s pg :=
  if_neg (by simp [bus, busy, early, sends])

theorem lateCollision_of_late {pg : Nat} (bus : isBus pg = true) (busy : txBusy s pg = true)
    (late : 51200 < s.up - (s.mac pg).txAt) (sends : (s.mac pg).backoff = none) : lateCollision s pg =
    raiseMac (((dropInHand s pg).count (R.MAC_COLL pg) 0 32 1).count (R.MAC_LATECOLL pg) 0 32 1) pg 7 :=
  if_neg (by simp [bus, busy, Nat.not_le.2 late, sends])

/-! Links and SFP modules (R314 to R318) -/

theorem linkDownCmd_of_other {pg : Nat} (u0 : pg ≠ 0x10) (u1 : pg ≠ 0x11) :
    linkDownCmd s pg = ptpTouch (linkGoesDown s pg) := by
  simp [linkDownCmd, u0, u1]

theorem linkDownCmd_of_uplink {pg : Nat} (uplink : pg = 0x10 ∨ pg = 0x11) (link : (s.mac pg).link = true) :
    linkDownCmd s pg = ptpTouch (uplinkDown (linkGoesDown s pg)) := by
  simp [linkDownCmd, uplink, link]

theorem sfpDiag_of_inserted {pg : Nat} {b : List Byte} (sfp : (s.mac pg).sfp = true) (diag : (s.mac pg).diag = true) :
    sfpDiag s pg b = sfpStore s pg 64 b :=
  if_pos (by simp [sfp, diag])

theorem txFault_of_rise {pg : Nat} {los : Bool} (cage : hasCage pg = true) (low : (s.mac pg).txFault = false) :
    txFault s pg true los = raiseMac (s.setMac pg { s.mac pg with txFault := true, rxLos := los }) pg 6 := by
  simp [txFault, cage, low]

/-! SAKs of a port (R513, R514) -/

/-- R514: the packet numbers of the SA come to an end, or it has been in use for REKEY seconds. -/
def rekeyDue (s : State) (p : Nat) (a : SaTx) : Bool :=
  decide ((if (s.mac (secPage p)).xpn then 0xC000000000000000 else 0xC0000000) ≤ a.pn) ||
    (s.regF (R.SEC_CFG p) 16 16 != 0 && (match sget s.gnt.rekey p with
      | some t => elapsed s t (s.regF (R.SEC_CFG p) 16 16 * 1000000000)
      | none => false))

theorem sakRekey_of_no_start {p peer : Nat} (unkeyed : (s.mac (secPage p)).txSa = none) (agreed : secState s p ≠ 2) :
    sakRekey s p peer = s.setRegB (R.SEC_STAT p) 3 (decide (s.regF (R.SEC_CFG p) 8 8 ≤ peer)) := by
  simp [sakRekey, unkeyed, agreed]

theorem sakRekey_of_first {p peer : Nat} (unkeyed : (s.mac (secPage p)).txSa = none)
    (serves : s.regF (R.SEC_CFG p) 8 8 ≤ peer) (agreed : secState s p = 2) (server : t = s.setRegB (R.SEC_STAT p) 3 true) :
    sakRekey s p peer = startSak t p (9 + 2 * p) 0 := by
  subst server
  simp [sakRekey, unkeyed, serves, agreed]

theorem sakRekey_of_due {p peer : Nat} {a : SaTx} (uses : (s.mac (secPage p)).txSa = some a)
    (serves : s.regF (R.SEC_CFG p) 8 8 ≤ peer) (secured : secState s p = 3)
    (server : t = s.setRegB (R.SEC_STAT p) 3 true) (due : rekeyDue s p a = true) :
    sakRekey s p peer = startSak t p (sakNext s p a.an) ((a.an + 1) % 4) := by
  subst server
  have starts : (!decide (s.regF (R.SEC_CFG p) 8 8 ≤ peer) || !rekeyDue s p a || !(secState s p == 3)) ≠ true := by
    simp [serves, secured, due]
  simp only [sakRekey, uses]
  refine (if_neg starts).trans ?_
  rw [decide_eq_true serves]
  rfl

theorem rekeyDue_of_limit {p : Nat} {a : SaTx}
    (limit : (if (s.mac (secPage p)).xpn then 0xC000000000000000 else 0xC0000000) ≤ a.pn) : rekeyDue s p a = true := by
  simp [rekeyDue, limit]

theorem rekeyDue_of_period {p last : Nat} {a : SaTx} (periodic : s.regF (R.SEC_CFG p) 16 16 ≠ 0)
    (started : sget s.gnt.rekey p = some last)
    (late : elapsed s last (s.regF (R.SEC_CFG p) 16 16 * 1000000000) = true) : rekeyDue s p a = true := by
  simp [rekeyDue, periodic, started, late]

/-- Settles O41: each event by what it does where its condition holds; logs 124 and 151 for the timestamp of a frame that leaves,
log 169 for the first SAK. -/
theorem pushAndMacEventsComplete : Obligations.PushAndMacEventsComplete :=
  ⟨fun _ _ _ _ wf idle link enabled backoff gap first uncalibrated =>
      exec_settled rfl wf (txStart_of_uncalibrated ⟨idle, link, enabled, backoff, gap⟩ first uncalibrated),
    fun _ _ _ _ _ _ wf idle link enabled backoff full first calibrated begins busy =>
      exec_settled rfl wf (txStart_of_calibrated ⟨idle, link, enabled, backoff, .inl full⟩ first calibrated begins busy),
    fun _ _ wf _ => exec_settled rfl wf rfl,
    fun _ _ _ _ _ _ _ _ _ _ _ wf takes => exec_settled rfl wf (nodeReply_of_nodeIn _ takes),
    fun _ _ _ _ _ _ wf takes active => exec_settled rfl wf ((nodeReply_of_nodeIn _ takes).trans (if_neg active)),
    fun _ _ _ _ _ wf takes active => exec_settled rfl wf ((nodeReply_of_nodeIn _ takes).trans (if_neg active)),
    fun _ _ _ wf late => exec_alone rfl wf (assignTimeout_of_late late),
    fun _ _ _ wf late all => exec_settled rfl wf (pollTimeout_of_broadcast late all),
    fun _ _ _ _ wf late one missed other => exec_settled rfl wf (pollTimeout_of_present late one missed other),
    fun _ _ _ _ wf late one missed second => exec_settled rfl wf (pollTimeout_of_absent late one missed second),
    fun _ _ _ wf due => exec_settled rfl wf (enumDone_of_due due),
    fun _ _ _ wf link runt => exec_settled rfl wf (frameReceive_of_runt link runt),
    fun _ _ _ _ wf link passed own => exec_settled rfl wf (frameReceive_of_passed link passed own),
    fun _ _ _ wf link full heeds idle fast =>
      exec_alone rfl wf ((onLink_of_linkUp link).trans (pauseReceive_of_idle full heeds idle fast)),
    fun _ _ _ wf holds ended => exec_alone rfl wf (pauseHoldEnd_of_over holds ended),
    fun _ _ _ wf holds first watched reached => exec_settled rfl wf (pauseLong_of_reached holds first watched reached),
    fun _ _ wf pausing sends due low => exec_settled rfl wf (pauseRepeat_of_due pausing sends due low),
    fun _ _ wf bus busy early sends few =>
      exec_settled rfl wf ((busCollision_of_early bus busy early sends).trans (if_neg (Nat.not_le.2 few))),
    fun _ _ wf bus busy early sends many =>
      exec_settled rfl wf ((busCollision_of_early bus busy early sends).trans (if_pos many)),
    fun _ _ wf bus busy late sends => exec_settled rfl wf (lateCollision_of_late bus busy late sends),
    fun _ _ _ _ wf _ _ _ => exec_settled rfl wf rfl,
    fun _ _ _ wf page up => exec_settled rfl wf (onIsl_of_islUp page up),
    fun _ _ wf u0 u1 => exec_settled rfl wf (linkDownCmd_of_other u0 u1),
    fun _ _ wf uplink link => exec_settled rfl wf (linkDownCmd_of_uplink uplink link),
    fun _ _ _ _ _ wf page up _ => exec_settled rfl wf (onIsl_of_islUp page up),
    fun _ _ _ wf page up _ => exec_settled rfl wf (onIsl_of_islUp page up),
    fun _ _ _ _ wf page up sfp diag => exec_alone rfl wf ((onIsl_of_islUp page up).trans (sfpDiag_of_inserted sfp diag)),
    fun _ _ _ _ wf page up cage low => exec_settled rfl wf ((onIsl_of_islUp page up).trans (txFault_of_rise cage low)),
    fun _ _ _ wf up unkeyed agreed => exec_settled rfl wf ((whenUp_of_islUp up).trans (sakRekey_of_no_start unkeyed agreed)),
    fun _ _ _ _ _ wf up uses serves limit server secured => exec_settled rfl wf ((whenUp_of_islUp up).trans
      (sakRekey_of_due uses serves secured server (rekeyDue_of_limit limit))),
    fun _ _ _ _ _ _ wf up uses serves periodic started late server secured =>
      exec_settled rfl wf ((whenUp_of_islUp up).trans
        (sakRekey_of_due uses serves secured server (rekeyDue_of_period periodic started late))),
    fun _ _ _ _ wf up unkeyed serves agreed server => exec_settled rfl wf ((whenUp_of_islUp up).trans
      (sakRekey_of_first unkeyed serves agreed server))⟩

end Sys2Proof.Machine
end

section
/-! PROOFS. The local drive (chapter 10): images, measurements, protection and matrix ports, and O42. -/

namespace Sys2Proof.Machine

variable {s m : State}

/-! Images (R327, R329) -/

theorem lPushRead_of_reset {v : Svc} (serves : svcOf s (.framer 16) = some v) (down : s.islUp 3 = false) :
    lPushRead s = completeItem (raise ((abortCount s 3 1).count R.DRV_LCNT2 0 16 1) 0x30 9) v := by
  simp [lPushRead, serves, down]

theorem imageApply_of_due {i : Nat × SMap Nat} (due : dueImage s (now32 s) = some i) : imageApply s (now32 s) =
    applyWords { railMove s with drv := { (railMove s).drv with img := (railMove s).drv.img.erase i } } i.2 := by
  rw [imageApply, due]

/-! Measurements (R336, log 179) -/

/-- What every measurement of a string that is on stores. -/
def strMeasured (s : State) (n vr im : Nat) : State :=
  ((railMove s).setRegF (R.DRV_RAILS (n / 16)) 16 14 (railSense s (n / 16) vr)).setStr n
    { s.str n with imeas := refCurrent s 0x34 im }

/-- An on-interval too short for a forward voltage, with the sink in regulation. -/
theorem stringMeasurement_of_short {n vr vs im tk : Nat} (on : (strOn s n && s.drv.dark == 0) = true) (short : tk < 500)
    (regulates : 30 ≤ vs) : stringMeasurement s n vr vs im tk = strMeasured s n vr im := by
  simp [stringMeasurement, on, Nat.not_le.2 short, Nat.not_lt.2 regulates, strMeasured]

theorem stringMeasurement_of_long {n vr vs im tk : Nat} (on : (strOn s n && s.drv.dark == 0) = true) (long : 500 ≤ tk)
    (regulates : 30 ≤ vs) (stores : m = strMeasured s n vr im) : stringMeasurement s n vr vs im tk =
    (m.setStr n { m.str n with vf := railSense s (n / 16) vr - vs }).setRail (n / 16)
      { m.rail (n / 16) with due := some (subEnd s) } := by
  subst stores
  simp [stringMeasurement, on, long, Nat.not_lt.2 regulates, strMeasured]

/-- R339: the sink falls short of its current. -/
theorem stringMeasurement_of_low {n vr vs im tk : Nat} (on : (strOn s n && s.drv.dark == 0) = true) (short : tk < 500)
    (falls : vs < 30) (low : refCurrent s 0x34 im * 100 * 256 < 95 * (s.str n).iset * factor s)
    (stores : m = strMeasured s n vr im) :
    stringMeasurement s n vr vs im tk = raise (m.count R.DRV_LCNT2 16 16 1) 0x30 2 := by
  subst stores
  simp [stringMeasurement, on, Nat.not_le.2 short, falls, low, strMeasured]

/-! Protection (R340, R341) -/

theorem stringFault_of_new {n : Nat} (short : Bool) (new : (s.str n).fault = 0) : stringFault s n short =
    raise (railUpdate ((railMove s).setStr n
      { (railMove s).str n with fault := if short then 3 else 2, word := 0, wait := false })) 0x30 (b2n short) :=
  if_neg (by simp [new])

theorem railFault_of_new {r : Nat} (rail : r < 4) (new : (s.rail r).fault = false) : railFault s r =
    raise (railUpdate ((railMove s).setRail r { (railMove s).rail r with fault := true, wait := false })) 0x30 4 :=
  if_neg (by simp [Nat.not_le.2 rail, new])

/-! Matrix ports (R350, R351) -/

theorem mxFrameCut_of_late {p t : Nat} (scans : (s.mxp p).scanning = true) (clamped : (s.mxp p).clamped = true)
    (presents : s.drv.p = some t) (next : s.drv.next ≤ nowNs s)
    (late : s.drv.next < (s.mxp p).start + 32 * (s.mxp p).pass) : mxFrameCut s p =
    raise ((s.count (R.MX_CNT p) 0 16 1).setMx p { s.mxp p with scanning := false, left := 0 }) (0x32 + p) 4 := by
  simp [mxFrameCut, scans, clamped, presents, next, late]

theorem mxColumnFault_of_scanning {p k : Nat} (short : Bool) (column : k < 192) (scans : (s.mxp p).scanning = true) :
    mxColumnFault s p k short =
    raise (s.setRegB (if short then R.MX_CSHORT p (k / 32) else R.MX_COPEN p (k / 32)) (k % 32) true) (0x32 + p)
      (1 + b2n short) :=
  if_neg (by simp [Nat.not_le.2 column, scans])

theorem mxLineShort_of_line {p l : Nat} (line : l < 32) : mxLineShort s p l =
    raise (mxStop (s.setRegB (R.MX_LSHORT p) l true) p) (0x32 + p) 3 :=
  if_neg (Nat.not_le.2 line)

/-! Operands -/

theorem lt_of_wf_railFault {r : Nat} (wf : (Instr.railFault r).wf = true) : r < 4 := of_decide_eq_true wf

theorem lt_of_wf_mxColumnFault {p k : Nat} {short : Bool} (wf : (Instr.mxColumnFault p k short).wf = true) : k < 192 := by
  simp only [Instr.wf, Bool.and_eq_true, decide_eq_true_eq] at wf
  exact wf.2

theorem lt_of_wf_mxLineShort {p l : Nat} (wf : (Instr.mxLineShort p l).wf = true) : l < 32 := by
  simp only [Instr.wf, Bool.and_eq_true, decide_eq_true_eq] at wf
  exact wf.2

/-- A well-formed event of the drive that is fitted and runs. -/
theorem exec_onDrive {c : Instr} {s t u : State} (arm : exec c s = guarded c s (settle (onDrive s t))) (wf : c.wf = true)
    (up : driveUp s = true) (effect : t = u) : exec c s = .next (settled s u) :=
  exec_settled arm wf ((onDrive_of_driveUp up).trans effect)

/-- Settles O42: each event by what it does where its condition holds; log 179 for the calibrated values. -/
theorem driveEventsComplete : Obligations.DriveEventsComplete :=
  ⟨fun _ _ serves down => exec_settled rfl rfl (lPushRead_of_reset serves down),
    fun _ _ _ _ => exec_settled rfl rfl rfl,
    fun _ _ up due => exec_onDrive rfl rfl up (imageApply_of_due due),
    fun _ _ _ wf up _ _ _ _ => exec_onDrive rfl wf up rfl,
    fun _ _ _ _ _ _ wf up on short regulates => exec_onDrive rfl wf up (stringMeasurement_of_short on short regulates),
    fun _ _ _ _ _ _ _ wf up on long regulates stores =>
      exec_onDrive rfl wf up (stringMeasurement_of_long on long regulates stores),
    fun _ _ _ _ _ _ _ wf up on short falls low stores =>
      exec_onDrive rfl wf up (stringMeasurement_of_low on short falls low stores),
    fun _ _ short wf up new => exec_onDrive rfl wf up (stringFault_of_new short new),
    fun _ _ wf up new => exec_onDrive rfl wf up (railFault_of_new (lt_of_wf_railFault wf) new),
    fun _ _ wf up _ _ => exec_onDrive rfl wf up rfl,
    fun _ _ _ wf up scans clamped presents next late =>
      exec_onDrive rfl wf up (mxFrameCut_of_late scans clamped presents next late),
    fun _ _ _ short wf up scans =>
      exec_onDrive rfl wf up (mxColumnFault_of_scanning short (lt_of_wf_mxColumnFault wf) scans),
    fun _ _ _ wf up => exec_onDrive rfl wf up (mxLineShort_of_line (lt_of_wf_mxLineShort wf)),
    fun _ up => exec_onDrive rfl rfl up rfl⟩

end Sys2Proof.Machine
end

section
/-! PROOFS. Metering (chapter 11): line cycles and pulses, and O43. -/

namespace Sys2Proof.Machine

variable {s : State}

/-- A well-formed event of an island that runs. -/
theorem exec_whenUp {c : Instr} {s t u : State} {i : Nat} (arm : exec c s = guarded c s (settle (whenUp s [i] t)))
    (wf : c.wf = true) (up : s.islUp i = true) (effect : t = u) : exec c s = .next (settled s u) :=
  exec_settled arm wf ((whenUp_of_islUp up).trans effect)

/-- A well-formed event of an island that runs, from which nothing follows in other blocks. -/
theorem exec_whenUp_alone {c : Instr} {s t u : State} {i : Nat} (arm : exec c s = guarded c s (whenUp s [i] t))
    (wf : c.wf = true) (up : s.islUp i = true) (effect : t = u) : exec c s = .next (alone s u) :=
  exec_alone arm wf ((whenUp_of_islUp up).trans effect)

/-! Line cycles (R359 to R363) -/

/-- The crossing at `t` ends the cycle in progress and begins the next. -/
def crossed (s : State) (t : Nat) : State := { s with mtr := { s.mtr with cross := some t, newCross := none } }

theorem lineCycle_of_first {t : Nat} (new : s.mtr.newCross = some t) (first : s.mtr.cross = none) :
    lineCycle s = crossed s t := by
  simp only [lineCycle, new, first, crossed]

/-- What a cycle of a present reference voltage within 45 to 66 Hz stores: frequency, fundamentals and total. -/
def cycleStored (s : State) (t0 t : Nat) : State :=
  { s with mtr := { s.mtr with
      cross := some t, newCross := none, freq := 1000000000000 / (t - t0),
      cyc := [cycleFund s t0 t 0, cycleFund s t0 t 1, cycleFund s t0 t 2, cycleTotal s t0 t] } }

/-- The energies of a cycle: those of the phases that count, and of the total. -/
def cycleEnergy (s : State) (t0 t : Nat) : List (Nat × Nat) :=
  ((cyclePhases s t0 t).map fun p => cycleIncs (8 * p) (t - t0) (cycleFund s t0 t p)).flatten ++
    cycleIncs 24 (t - t0) (cycleTotal s t0 t)

theorem lineCycle_of_valid {t t0 : Nat} (new : s.mtr.newCross = some t) (before : s.mtr.cross = some t0)
    (slow : 1000000000 ≤ 66 * (t - t0)) (fast : 45 * (t - t0) ≤ 1000000000)
    (reference : (refPhase s s.mtr.win).isSome = true) : lineCycle s =
    if s.mtr.run then cycleEnergies (cycleStored s t0 t) t (cycleEnergy s t0 t) else cycleStored s t0 t := by
  simp only [lineCycle, new, before]
  exact if_neg (by simp [slow, fast, reference])

theorem lineCycle_of_out_of_range {t t0 : Nat} (new : s.mtr.newCross = some t) (before : s.mtr.cross = some t0)
    (out : 66 * (t - t0) < 1000000000 ∨ 1000000000 < 45 * (t - t0)) : lineCycle s = freqLost (crossed s t) := by
  simp only [lineCycle, new, before]
  refine if_pos ?_
  rcases out with out | out <;> simp [Nat.not_le.2 out]

/-! Pulses (R374) -/

/-- Output `k` with one queued pulse less: its pulse for WIDTH ms, and as long a gap after it. -/
def nextPulse (s : State) (k : Nat) : PulseRt :=
  ⟨(lget s.mtr.po k ⟨0, 0, 0⟩).queued - 1, s.up + s.regF (R.MTR_PO k) 8 8 * 1000000,
    s.up + 2 * (s.regF (R.MTR_PO k) 8 8 * 1000000)⟩

theorem pulseEmit_of_queued {k : Nat} (output : k < 2) (queued : 0 < (lget s.mtr.po k ⟨0, 0, 0⟩).queued)
    (ready : (lget s.mtr.po k ⟨0, 0, 0⟩).ready ≤ s.up) (run : s.mtr.run = true) (live : s.mtr.freeze = none) :
    pulseEmit s k = setPo s k (nextPulse s k) :=
  if_pos ⟨queued, ready, run, by simp [live], output⟩

/-- Settles O43: each event by what it does where its condition holds. -/
theorem meterEventsComplete : Obligations.MeterEventsComplete :=
  ⟨fun _ _ wf up => exec_whenUp rfl wf up rfl,
    fun _ up => exec_whenUp rfl rfl up rfl,
    fun _ _ up new first => exec_whenUp rfl rfl up (lineCycle_of_first new first),
    fun _ _ _ up new before slow fast reference idle => exec_whenUp rfl rfl up
      ((lineCycle_of_valid new before slow fast reference).trans (if_neg (by simp [idle]))),
    fun _ _ _ up new before slow fast reference run => exec_whenUp rfl rfl up
      ((lineCycle_of_valid new before slow fast reference).trans (if_pos run)),
    fun _ _ _ up new before out => exec_whenUp rfl rfl up (lineCycle_of_out_of_range new before out),
    fun _ _ up _ _ _ => exec_whenUp rfl rfl up rfl,
    fun _ _ wf up queued ready run live =>
      exec_whenUp_alone rfl wf up (pulseEmit_of_queued (of_decide_eq_true wf) queued ready run live)⟩

end Sys2Proof.Machine
end

section
/-! PROOFS. The local clock (12.1 to 12.4), and O44. -/

namespace Sys2Proof.Machine

variable {s : State}

theorem slewEnd_of_last_tick {x : Slew} (slew : s.clkr.slew = some x) (last : x.left.natAbs ≤ x.rate)
    (idle : s.clkr.ops = []) : slewEnd s = clockTick s := by
  simp only [slewEnd, slew]
  exact if_pos ⟨last, idle⟩

/-- Where the firmware writes nothing, what the time island has done stays as it is. -/
theorem firmwareActs_nil (t : State) : firmwareActs (t, []) = t := by
  simp [firmwareActs, mgmtWrites]

/-! The source in use (R401, R402) -/

theorem sourceChange_of_not_good (lost : srcGood s = false) : sourceChange s = takeSource s :=
  if_pos (by simp [lost])

theorem sourceChange_of_revert {k : Nat} (good : srcGood s = true) (revert : revertSource s = some k)
    (other : k ≠ s.clkr.src) : sourceChange s = useSource s k := by
  simp only [sourceChange, revert]
  exact (if_neg (by simp [good])).trans (if_neg other)

theorem sourceLoss_of_other (used : s.clkr.src ≠ 0) (lost : srcGood s = false)
    (other : (bestSource s).isSome = true) : sourceLoss s = (takeSource s, []) :=
  (if_neg (by simp [used, lost])).trans (if_pos other)

/-- No source is in use any more. -/
def sourceGone (s : State) : State := { s with clkr := { s.clkr with src := 0, good := 0, bad := 0, meas := none } }

theorem sourceLoss_of_free_running (used : s.clkr.src ≠ 0) (lost : srcGood s = false) (alone : bestSource s = none)
    (free : s.clkr.state = 0) : sourceLoss s = (raise (sourceGone s) 0x28 5, []) :=
  (if_neg (by simp [used, lost])).trans ((if_neg (by simp [alone])).trans (if_neg (by simp [free])))

theorem holdExpired_of_elapsed (holdover : s.clkr.state = 3) (fresh : s.clkr.expired = false)
    (due : elapsed s s.clkr.holdStart (s.regF R.CLK_SERVO 16 16 * 1000000000) = true) : holdExpired s =
    raise { s with clkr := { s.clkr with inspec := false, expired := true } } 0x28 4 :=
  if_pos ⟨holdover, by simp [fresh], due⟩

/-- R399: the clock's seconds go to the counter. -/
theorem secondsSync_of_new_second (valid : s.clkr.valid = true) (tick : secondTick (nowNs s) = true)
    (new : s.clkr.lastSec ≠ secOf (nowNs s)) : secondsSync s =
    { s with clkr := { s.clkr with rtc := secOf (nowNs s) * 1000000000, rtcAt := s.up, lastSec := secOf (nowNs s) } } :=
  if_pos (by simp [valid, tick, new])

/-- Settles O44: each event by what it does where its condition holds. -/
theorem clockEventsComplete : Obligations.ClockEventsComplete :=
  ⟨fun _ _ up slew last idle => exec_whenUp rfl rfl up (slewEnd_of_last_tick slew last idle),
    fun _ _ _ up _ => exec_whenUp rfl rfl up rfl,
    fun _ up lost => exec_whenUp rfl rfl up (sourceChange_of_not_good lost),
    fun _ _ up good revert other => exec_whenUp rfl rfl up (sourceChange_of_revert good revert other),
    fun _ up used lost other => exec_whenUp rfl rfl up
      ((congrArg firmwareActs (sourceLoss_of_other used lost other)).trans (firmwareActs_nil _)),
    fun _ up used lost alone free => exec_whenUp rfl rfl up
      ((congrArg firmwareActs (sourceLoss_of_free_running used lost alone free)).trans (firmwareActs_nil _)),
    fun _ up holdover fresh due => exec_whenUp rfl rfl up (holdExpired_of_elapsed holdover fresh due),
    fun _ up valid tick new => exec_whenUp_alone rfl rfl up (secondsSync_of_new_second valid tick new)⟩

end Sys2Proof.Machine
end

section
/-! PROOFS. PTP and the timing inputs (12.5, 12.6), and O45. -/

namespace Sys2Proof.Machine

variable {s : State}

/-! PTP messages (R406 to R408) -/

theorem ptpReceive_of_disabled {p dom : Nat} {m : PtpMsg} (disabled : (s.pport p).state = 0) :
    ptpReceive s p dom m = ptpBad s p :=
  if_pos (by simp [disabled])

theorem ptpReceive_sync_of_receiver {p q t : Nat} (receiver : (s.pport p).state = 3) (host : isN p = false) :
    ptpReceive s p (ptpDomain s p) (.sync q t) =
      s.setPport p { s.pport p with sync1 := some (q, rxTime s p t), sync := satAdd 16 (s.pport p).sync 1 } := by
  simp [ptpReceive, receiver, host]

theorem ptpDelayReqSend_of_due {p : Nat} (receives : p < 5) (receiver : (s.pport p).state = 3)
    (due : elapsed s (s.pport p).lastReq (max 125000000 (s.pport p).reqInt) = true) :
    ptpDelayReqSend s p = delayReqSent s p :=
  if_neg (by simp [receives, receiver, due])

/-- The time transmitters that a port has heard within three announce intervals. -/
def heardForeign (s : State) (p : Nat) : List Foreign :=
  (s.pport p).foreign.filter fun f => !elapsed s f.last (3 * f.interval)

theorem announceTimeout_of_silent {p : Nat} (receives : p < 5)
    (silent : (s.pport p).foreign.any (fun f => elapsed s f.last (3 * f.interval)) = true) : announceTimeout s p =
    raise (ptpSettle (s.setPport p { s.pport p with foreign := heardForeign s p })) 0x29 1 :=
  (if_neg (Nat.not_le.2 receives)).trans (if_pos silent)

/-! PPS (R411, R412). The output delay's sign is the model's choice (log entry 151). -/

/-- The time by which PPS_OUT is driven: the local clock, less OFS, ahead by the output delay. -/
def ppsTime (s : State) : Nat := ((nowNs s : Int) - toSigned 16 (s.regF R.TIO_PPSOUT 16 16) + calDelay s 0x20).toNat

theorem ppsOut_of_high {t : Nat} (time : t = ppsTime s) (high : s.tio.ppsOut = true)
    (ends : s.regF R.TIO_PPSOUT 2 10 * 1000000 ≤ nsOf t ∨ s.tio.ppsSec ≠ some (secOf t)) :
    ppsOut s = { s with tio := { s.tio with ppsOut := false } } := by
  subst time
  exact (if_pos high).trans (if_pos ends)

theorem ppsOut_of_low {t : Nat} (time : t = ppsTime s) (low : s.tio.ppsOut = false) (runs : ppsRuns s = true)
    (tick : secondTick t = true) (new : s.tio.ppsSec ≠ some (secOf t)) :
    ppsOut s = { s with tio := { s.tio with ppsOut := true, ppsSec := some (secOf t) } } := by
  subst time
  rw [ppsTime] at tick new
  exact (if_neg (by simp [low])).trans (if_pos (by simp [runs, tick, new]))

/-- PPS_IN has no edge any more. -/
def ppsGone (s : State) : State := { s with tio := { s.tio with ppsLast := none, ppsGood := 0, ppsOk := false } }

theorem ppsLost_of_late {l : Nat} (last : s.tio.ppsLast = some l) (late : l + 1100000000 ≤ nowNs s) :
    ppsLost s = availTouch (if s.tio.ppsOk then raise (ppsGone s) 0x2A 5 else ppsGone s) := by
  simp only [ppsLost, last]
  exact if_pos late

/-! LTC and word clock (R413 to R415, Table 12-3) -/

theorem ltcMissing_of_late {g : Grid} (lock : s.tio.ltc.lock = true) (pred : s.tio.ltc.pred = some g)
    (late : g.pt (s.tio.ltc.idx + 5) ≤ inputTime s R.TIO_LTC (nowNs s)) : ltcMissing s =
    srcLost (raise { s with tio := { s.tio with ltc := { s.tio.ltc with lock := false, times := [] } } } 0x2A 1) 1 := by
  simp only [ltcMissing, lock, pred]
  exact if_pos late

theorem wclkMissing_of_late {g : Grid} (lock : s.tio.wclk.lock = true) (pred : s.tio.wclk.pred = some g)
    (late : g.pt (s.tio.wclk.idx + 4) ≤ inputTime s R.TIO_WCLK (nowNs s)) : wclkMissing s =
    srcLost (raise { s with tio := { s.tio with wclk := { s.tio.wclk with lock := false, times := [] } } } 0x2A 4) 2 := by
  simp only [wclkMissing, lock, pred]
  exact if_pos late

/-- Settles O45: each event by what it does where its condition holds. -/
theorem ptpAndTimingEventsComplete : Obligations.PtpAndTimingEventsComplete :=
  ⟨fun _ _ _ _ wf up disabled => exec_whenUp rfl wf up (ptpReceive_of_disabled disabled),
    fun _ _ _ _ _ wf up receiver domain host => exec_whenUp rfl wf up
      (domain ▸ ptpReceive_sync_of_receiver receiver host),
    fun _ _ wf up _ _ _ _ => exec_whenUp rfl wf up rfl,
    fun _ _ wf up _ _ _ _ _ => exec_whenUp rfl wf up rfl,
    fun _ _ wf up receives receiver due => exec_whenUp rfl wf up (ptpDelayReqSend_of_due receives receiver due),
    fun _ _ wf up receives silent => exec_whenUp rfl wf up (announceTimeout_of_silent receives silent),
    fun _ _ up time high ends => exec_whenUp_alone rfl rfl up (ppsOut_of_high time high ends),
    fun _ _ up time low runs tick new => exec_whenUp_alone rfl rfl up (ppsOut_of_low time low runs tick new),
    fun _ _ _ up _ _ => exec_whenUp rfl rfl up rfl,
    fun _ _ up last late lost => exec_whenUp rfl rfl up
      ((ppsLost_of_late last late).trans (congrArg availTouch (if_neg (by simp [lost])))),
    fun _ _ up last late ok => exec_whenUp rfl rfl up
      ((ppsLost_of_late last late).trans (congrArg availTouch (if_pos ok))),
    fun _ _ _ _ _ _ wf up _ => exec_whenUp rfl wf up rfl,
    fun _ _ up lock pred late => exec_whenUp rfl rfl up (ltcMissing_of_late lock pred late),
    fun _ _ up _ => exec_whenUp rfl rfl up rfl,
    fun _ _ up lock pred late => exec_whenUp rfl rfl up (wclkMissing_of_late lock pred late)⟩

end Sys2Proof.Machine
end

section
/-! PROOFS. The Hatband (chapter 13), and O46. The kind of the port that a HELLO came from is an
operand (log entry 65). -/

namespace Sys2Proof.Machine

variable {s : State}

/-- A well-formed event of a Hatband port that takes frames. -/
theorem exec_onHb {c : Instr} {t u : State} {p : Nat} (arm : exec c s = guarded c s (settle (onHb s p t)))
    (wf : c.wf = true) (takes : hbIn s p = true) (effect : t = u) : exec c s = .next (settled s u) :=
  exec_settled arm wf ((onHb_of_hbIn takes).trans effect)

/-- A well-formed frame of the ring that the module is to act on. -/
theorem exec_ringFrame {c : Instr} {t u : State} {p : Nat} {f : Ryu} {act : State → State}
    (arm : exec c s = guarded c s (settle (ringFrame s p f act))) (wf : c.wf = true) (takes : hbIn s p = true)
    (arrives : ryuArrive s p f = (t, true)) (effect : act t = u) : exec c s = .next (settled s u) :=
  exec_settled arm wf ((ringFrame_of_arrived act takes arrives).trans effect)

/-! HELLO (R425, R426) -/

/-- A HELLO of port `p`. -/
def helloSent (s : State) (p : Nat) : State :=
  ryuNbr (s.setHbp p { s.hbp p with sent := some s.up }) p 0x01
    (beBytes 8 s.hw.serial ++ beBytes 1 (b2n (heard s (s.hbp p).hello)) ++ beBytes 1 0)

theorem helloSend_of_first {p : Nat} (port : p < 2) (takes : hbIn s p = true) (first : (s.hbp p).sent = none) :
    helloSend s p = helloSent s p := by
  rw [hbIn, Bool.and_eq_true, Bool.and_eq_true] at takes
  obtain ⟨⟨-, on⟩, link⟩ := takes
  exact if_neg (by simp [port, on, link, first])

theorem helloRx_of_miswired {p src ser : Nat} {ok : Bool} : helloRx s p p src ser ok = s.count (R.HB_MISWIRE p) 0 32 1 :=
  if_pos rfl

theorem helloLoss_of_unheard {p : Nat} (unheard : heard s (s.hbp p).rxok = false) : helloLoss s p = hbEval s p :=
  if_neg (by simp [unheard])

/-! Membership (R428 to R431) -/

theorem announceSend_of_first (first : s.hb.annSent = none) : announceSend s = announceNow s := by
  simp [announceSend, first]

/-- A JOIN of an own address. -/
def joinSent (s : State) : State :=
  ryuNew { s with hb := { s.hb with joins := s.hb.joins + 1, joinAt := some s.up } } 0x03 255 0
    (beBytes 8 s.hw.serial ++ beBytes 1 (s.regF (R.HB_ADDR 0) 8 8) ++ beBytes 1 0)

theorem joinSend_of_first (wanted : s.regB (R.HB_CTL 0) 0 = true) (linked : hbUp s 0 = true)
    (joining : addrState s = 1) (first : s.hb.joinAt = none) : joinSend s = joinSent s := by
  simp [joinSend, joinSent, wanted, linked, joining, first]

theorem selfAssign_of_preferred (joining : addrState s = 1) (unanswered : 3 ≤ s.hb.joins)
    (quiet : s.hb.annHeard = none) (since : elapsed s s.hb.joinSince 300000000 = true)
    (preferred : s.regF (R.HB_ADDR 0) 8 8 ≠ 0) : selfAssign s = takeAddr s (s.regF (R.HB_ADDR 0) 8 8) := by
  simp [selfAssign, joining, unanswered, quiet, since, preferred]

theorem presentExpire_of_unlisted {a : Nat} (present : ringSt s a = 2) (unlisted : sget s.hb.ring a = none)
    (unaddressed : addrState s ≠ 2) (passive : svcActive s = false) :
    presentExpire s a = setRing s a (ringSerial s a) 1 (ringSvc s a) := by
  simp [presentExpire, present, unlisted, unaddressed, passive]

/-- The oldest noted rise goes out as an EVENT. -/
theorem eventSend_of_cons {e : EvTx} {es : List EvTx} (noted : s.evt.relay = e :: es) : eventSend s =
    ryuNew { s with evt := { s.evt with relay := es } } 0x10 e.dst (ownAddr s)
      (beBytes 1 e.group ++ beBytes 1 0 ++ beBytes 4 e.bits ++ beBytes 4 (nsOf e.time) ++ beBytes 6 (secOf e.time)) := by
  simp only [eventSend, noted]

/-! Update segments (R439) -/

/-- The chunk that waits for an UPD_ACK of port `p`, if there is one. -/
def updWaiting (s : State) (p img ch : Nat) : Option UpdTx :=
  s.hb.updTx.find? fun x => x.port == p && x.img == img && x.chunk == ch

theorem updAckTimeout_of_third {p img ch : Nat} {x : UpdTx} (waits : updWaiting s p img ch = some x)
    (due : elapsed s x.sent 20000000 = true) (third : 3 ≤ x.sends) : updAckTimeout s p img ch =
    raise (updAckRx (s.count (R.HB_UPDRTY p) 0 32 1) p img ch) (hbPg p) 3 := by
  rw [updWaiting] at waits
  simp only [updAckTimeout, waits]
  exact (if_neg (by simp [due])).trans (if_pos third)

/-- The chunk `x` has been sent once more. -/
def updResent (s t : State) (x : UpdTx) : State :=
  { t with hb := { t.hb with
      updTx := t.hb.updTx.map fun y => if y = x then { y with sends := y.sends + 1, sent := s.up } else y } }

theorem updAckTimeout_of_earlier {p img ch : Nat} {x : UpdTx} {t : State} (waits : updWaiting s p img ch = some x)
    (due : elapsed s x.sent 20000000 = true) (early : x.sends < 3)
    (resent : t = updSegments (s.count (R.HB_UPDRTY p) 0 32 1) p img ch x.data) :
    updAckTimeout s p img ch = updResent s t x := by
  rw [updWaiting] at waits
  simp only [updAckTimeout, waits, ← resent]
  exact (if_neg (by simp [due])).trans (if_neg (Nat.not_le.2 early))

/-- Settles O46: each event by what it does where its condition holds. -/
theorem hatbandEventsComplete : Obligations.HatbandEventsComplete :=
  ⟨fun _ _ wf takes first => exec_onHb rfl wf takes (helloSend_of_first (of_decide_eq_true wf) takes first),
    fun _ _ _ _ _ _ wf takes same => exec_onHb rfl wf takes (same ▸ helloRx_of_miswired),
    fun _ _ _ _ _ _ wf takes _ => exec_onHb rfl wf takes rfl,
    fun _ _ wf up unheard => exec_whenUp rfl wf up (helloLoss_of_unheard unheard),
    fun _ _ _ _ _ _ _ _ wf takes arrives => exec_ringFrame rfl wf takes arrives rfl,
    fun _ up first => exec_whenUp rfl rfl up (announceSend_of_first first),
    fun _ _ _ _ _ _ _ _ _ _ wf _ => exec_settled rfl wf rfl,
    fun _ up wanted linked joining _ first => exec_whenUp rfl rfl up
      (joinSend_of_first wanted linked joining first),
    fun _ _ _ _ _ _ _ _ _ wf takes arrives => exec_ringFrame rfl wf takes arrives rfl,
    fun _ _ _ _ _ _ _ _ _ wf takes arrives => exec_ringFrame rfl wf takes arrives rfl,
    fun _ up joining unanswered quiet since preferred => exec_whenUp rfl rfl up
      (selfAssign_of_preferred joining unanswered quiet since preferred),
    fun _ _ wf up present unlisted unaddressed passive => exec_whenUp rfl wf up
      (presentExpire_of_unlisted present unlisted unaddressed passive),
    fun _ _ _ _ _ _ _ wf takes arrives => exec_ringFrame rfl wf takes arrives rfl,
    fun _ _ _ _ _ _ _ wf takes arrives => exec_ringFrame rfl wf takes arrives rfl,
    fun _ _ _ up noted => exec_whenUp rfl rfl up (eventSend_of_cons noted),
    fun _ _ _ _ _ _ _ _ _ _ wf takes arrives => exec_ringFrame rfl wf takes arrives rfl,
    fun _ _ _ _ _ _ wf takes => exec_onHb rfl wf takes rfl,
    fun _ _ _ _ _ wf takes => exec_alone rfl wf (onHb_of_hbIn takes),
    fun _ _ _ _ _ wf up waits due third => exec_whenUp rfl wf up (updAckTimeout_of_third waits due third),
    fun _ _ _ _ _ _ wf up waits due early resent => exec_whenUp rfl wf up
      (updAckTimeout_of_earlier waits due early resent)⟩

end Sys2Proof.Machine
end

section
/-! PROOFS. The pair (chapter 14), and O47. What a refused yield, a refused record and a late
DIGEST leave is the model's reading (log entries 74 and 75). -/

namespace Sys2Proof.Machine

variable {s : State}

/-- A well-formed Cuff frame that the member takes. -/
theorem exec_cuffIn {c : Instr} {u : State} {epoch : Nat} {act : State → State}
    (arm : exec c s = guarded c s (settle (cuffIn s epoch act))) (wf : c.wf = true) (takes : cuffTakes s epoch = true)
    (effect : act s = u) : exec c s = .next (settled s u) :=
  exec_settled arm wf ((cuffIn_of_takes act takes).trans effect)

/-! Heartbeats on the Cuff (R445) -/

theorem heartbeatCmd_of_partner {id ser ro he fe : Nat} (takes : cuffTakes s fe = true)
    (partner : id = pairId s ∧ ser = peerSerial s) :
    heartbeatCmd s (.cuff id ser) ro he fe = heartbeatRx s false fe ro he := by
  rw [heartbeatCmd, cuffIn_of_takes _ takes]
  exact if_pos partner

theorem heartbeatCmd_of_foreign {id ser ro he fe : Nat} (takes : cuffTakes s fe = true)
    (foreign : ¬(id = pairId s ∧ ser = peerSerial s)) :
    heartbeatCmd s (.cuff id ser) ro he fe = heartbeatForeign s := by
  rw [heartbeatCmd, cuffIn_of_takes _ takes]
  exact if_neg foreign

/-! Messages of the stream (R452 to R458) -/

/-- R457: a message of the stream that is in order, or that opens a gap, is acted on and acknowledged. -/
theorem streamed_of_arrived {q : Nat} {t : State} (act : State → State) (arrives : streamIn s q = (t, true)) :
    (if (streamIn s q).2 then act (streamIn s q).1 else (streamIn s q).1) = act t := by
  rw [arrives]
  exact if_pos rfl

/-- What a MIRROR message does to the member that takes it. -/
def mirrorTaken (seq : Nat) (es : List MirEntry) (s : State) : State :=
  let r := if s.arb.waiting.testBit 4 then (s, false) else streamIn s seq
  if r.2 then ackSend (es.foldl (fun u e => mirrorEntry u seq e) r.1) else r.1

theorem mirrorTaken_of_arrived {q : Nat} {es : List MirEntry} {t : State} (ready : s.arb.waiting.testBit 4 = false)
    (arrives : streamIn s q = (t, true)) :
    mirrorTaken q es s = ackSend (es.foldl (fun u e => mirrorEntry u q e) t) := by
  simp [mirrorTaken, ready, arrives]

/-- The messages that an acknowledgement of `q` leaves unacknowledged. -/
def unackedAfter (s : State) (q : Nat) : List Unacked :=
  s.pair.unacked.filter fun u => decide (2 ^ 31 ≤ (q + 2 ^ 32 - u.seq) % 2 ^ 32)

theorem ackRx_of_active {q : Nat} (active : s.pair.role = .active) : ackRx s q =
    appendSettle (calmCheck (mirLag { s with pair := { s.pair with unacked := unackedAfter s q } })) :=
  if_neg (not_not.2 active)

theorem ackTimeout_of_late (active : s.pair.role = .active)
    (late : s.pair.unacked.any (fun u => elapsed s u.sent (s.regF R.MIR_TIMING 0 11 * 1000)) = true) :
    ackTimeout s = appendSettle (goAsync s) :=
  if_neg (by simp [active, late])

theorem ackTimeout_of_waiting {q t : Nat} (active : s.pair.role = .active) (waits : s.lin.waiting = some (q, t))
    (late : elapsed s t (s.regF R.MIR_TIMING 0 11 * 1000) = true) : ackTimeout s = appendSettle (goAsync s) :=
  if_neg (by simp [active, waits, late])

/-- R454: the standby processes a latch point without its EPOCH message. -/
theorem epochTimeout_of_due {d : Nat} {e : EpochPt} {br : Bool} (standby : s.pair.role = .standby)
    (after : s.regF R.MIR_TIMING 0 11 * 1000 ≤ nowNs s)
    (due : dueEpoch s d (nowNs s - s.regF R.MIR_TIMING 0 11 * 1000) = some (e, br)) : epochTimeout s d =
    processLatch (pruneShadow { s with pair := { s.pair with synced := false } } d e.k) d e br
      fun t => standbySets t d e false [] := by
  simp only [epochTimeout, due]
  exact if_neg (by simp [standby, after])

/-! Roles (Table 14-1) -/

theorem partnerLoss_of_active (silent : partnerHeard s = false) (partner : s.pair.partner = true)
    (active : s.pair.role = .active) : partnerLoss s = raise
      { s with pair := { s.pair with partner := false, yield := s.pair.yield.filter fun y => !y.ok } } 0x24 2 := by
  simp [partnerLoss, silent, partner, active]

theorem seekTimeout_of_served {t : State} (seeking : s.pair.role = .seeking)
    (due : elapsed s s.pair.since (s.regF R.MIR_TIMING 16 16 * 1000000) = true) (serves : serve s = (t, true)) :
    seekTimeout s = raise t 0x24 2 := by
  simp only [seekTimeout, serves]
  exact if_pos ⟨seeking, due⟩

/-! Yields (R464, R465, R468) -/

theorem yieldTimeout_of_due {y : Yield} (asked : s.pair.yield = some y) (mine : y.mine = true)
    (unanswered : y.ok = false) (due : elapsed s y.sent 1000000 = true) :
    yieldTimeout s = yieldBlocked s y.cause := by
  simp [yieldTimeout, asked, mine, unanswered, due]

theorem yieldTimeout_of_not_due {y : Yield} (asked : s.pair.yield = some y)
    (fresh : elapsed s y.sent 1000000 = false) : yieldTimeout s = s := by
  simp [yieldTimeout, asked, fresh]

theorem yieldAck_of_accepted {y : Yield} (asked : s.pair.yield = some y) (mine : y.mine = true)
    (unanswered : y.ok = false) (fresh : elapsed s y.sent 1000000 = false) :
    yieldAck s 0 = { s with pair := { s.pair with yield := some { y with ok := true } } } := by
  simp [yieldAck, yieldTimeout_of_not_due asked fresh, asked, mine, unanswered]

theorem yieldRetry_of_holding {t k : Nat} (retry : s.pair.retry = some (t, k)) (due : t ≤ s.up)
    (holds : causeHolds { s with pair := { s.pair with retry := none } } k = true) :
    yieldRetry s = yieldStart { s with pair := { s.pair with retry := none } } k := by
  simp only [yieldRetry, retry]
  exact (if_neg (Nat.not_lt.2 due)).trans (if_pos holds)

theorem handover_of_mine {y : Yield} (asked : s.pair.yield = some y) (accepted : y.ok = true) (due : y.h ≤ nowNs s)
    (mine : y.mine = true) :
    handover s = enterStandby (setTkover (catchUpActive s (y.h - 1)) y.cause 0) := by
  simp only [handover, asked]
  exact (if_neg (by simp [accepted, due])).trans (if_pos mine)

theorem reclaim_of_fit {t : Nat} (fit : s.pair.fit = some t) (preferred : prefers s = true)
    (due : elapsed s t (s.regF R.MIR_REVERT 0 17 * 1000000000) = true) : reclaim s =
    yieldSend { s with pair := { s.pair with fit := some s.up } } (yieldPoint s).1 (yieldPoint s).2 2 := by
  simp only [reclaim, fit]
  exact if_pos (by simp [preferred, due])

/-! Self-diagnosis (R462) -/

theorem diagFail_of_condition {n : Nat} (check : n < 7) (on : s.regB R.MIR_DIAG n = true) (fails : diagCond s n = true)
    (first : s.pair.failing.testBit n = false) : diagFail s n = yieldStart (darkEnter (raise
      { s with pair := { s.pair with failing := s.pair.failing + 2 ^ n, clear := sdel s.pair.clear n } } 0x24 7) 5) 1 :=
  if_neg (by simp [check, on, fails, first])

theorem diagPass_of_clear {n t : Nat} (clear : sget s.pair.clear n = some t) (failing : s.pair.failing.testBit n = true)
    (due : elapsed s t 10000000000 = true) : diagPass s n =
    { s with pair := { s.pair with failing := s.pair.failing - 2 ^ n, clear := sdel s.pair.clear n } } := by
  simp only [diagPass, clear]
  exact if_pos (by simp [failing, due])

/-- Settles O47: each event by what it does where its condition holds. -/
theorem pairEventsComplete : Obligations.PairEventsComplete :=
  ⟨fun _ up _ _ _ => exec_whenUp rfl rfl up rfl,
    fun _ _ _ _ _ _ wf takes name serial => exec_settled rfl wf (heartbeatCmd_of_partner takes ⟨name, serial⟩),
    fun _ _ _ _ _ _ wf takes foreign => exec_settled rfl wf
      (heartbeatCmd_of_foreign takes (not_and_or.2 foreign)),
    fun _ up silent partner active => exec_whenUp rfl rfl up (partnerLoss_of_active silent partner active),
    fun _ _ up seeking due serves => exec_whenUp rfl rfl up (seekTimeout_of_served seeking due serves),
    fun _ _ _ _ _ wf takes ready arrives => exec_cuffIn rfl wf takes (mirrorTaken_of_arrived ready arrives),
    fun _ _ _ wf takes active => exec_cuffIn rfl wf takes (ackRx_of_active active),
    fun _ up active late => exec_whenUp rfl rfl up (ackTimeout_of_late active late),
    fun _ _ _ up active waits late => exec_whenUp rfl rfl up (ackTimeout_of_waiting active waits late),
    fun _ _ _ d k ls _ wf takes _ arrives => exec_cuffIn rfl wf takes
      (streamed_of_arrived (fun t => ackSend (epochRx t d k ls)) arrives),
    fun _ _ _ _ wf up standby after due => exec_whenUp rfl wf up (epochTimeout_of_due standby after due),
    fun _ _ _ _ _ wf takes _ => exec_cuffIn rfl wf takes rfl,
    fun _ _ _ _ wf takes asked mine unanswered fresh accepted => exec_cuffIn rfl wf takes
      (accepted ▸ yieldAck_of_accepted asked mine unanswered fresh),
    fun _ _ up asked mine unanswered due => exec_whenUp rfl rfl up (yieldTimeout_of_due asked mine unanswered due),
    fun _ _ _ up retry due holds => exec_whenUp rfl rfl up (yieldRetry_of_holding retry due holds),
    fun _ _ up asked accepted due mine => exec_whenUp rfl rfl up (handover_of_mine asked accepted due mine),
    fun _ _ up _ _ _ _ => exec_whenUp rfl rfl up rfl,
    fun _ _ _ _ wf takes _ => exec_cuffIn rfl wf takes rfl,
    fun _ _ _ wf takes _ => exec_cuffIn rfl wf takes rfl,
    fun _ _ _ st _ wf takes _ arrives => exec_cuffIn rfl wf takes
      (streamed_of_arrived (fun t => ackSend (resyncEnd t st)) arrives),
    fun _ _ up fit preferred due => exec_whenUp rfl rfl up (reclaim_of_fit fit preferred due),
    fun _ _ wf up on fails first => exec_whenUp rfl wf up (diagFail_of_condition (of_decide_eq_true wf) on fails first),
    fun _ _ _ wf up clear failing due => exec_whenUp rfl wf up (diagPass_of_clear clear failing due),
    fun _ up => exec_whenUp rfl rfl up rfl⟩

end Sys2Proof.Machine
end

section
/-! PROOFS. The Lining (chapter 15), and O48. -/

namespace Sys2Proof.Machine

variable {s : State}

/-! Appends (R486, R487) -/

theorem appendComplete_of_failed {v : Svc} {r : LRec} {rs : List LRec} {n : Nat} (serves : svcOf s .lining = some v)
    (oldest : s.lin.inAppend = r :: rs) (idle : s.lin.waiting = none) (failed : (appendTry s r n).2 ≠ 0) :
    appendComplete s n =
      failItem (raise (appendLost (linFail (appendTry s r n).1 (appendTry s r n).2 r) r) 0x40 0) v 2 := by
  simp only [appendComplete, serves, oldest]
  exact (if_neg (by simp [idle])).trans (if_pos failed)

/-- The oldest append has left its place. -/
def appended (t : State) (rs : List LRec) : State := { t with lin := { t.lin with inAppend := rs } }

theorem appendComplete_of_partner {v : Svc} {r : LRec} {rs : List LRec} {n : Nat} (serves : svcOf s .lining = some v)
    (oldest : s.lin.inAppend = r :: rs) (idle : s.lin.waiting = none) (written : (appendTry s r n).2 = 0)
    (partner : r.partner = true) :
    appendComplete s n = completeItem (recDurable (appended (appendTry s r n).1 rs) r) v := by
  simp only [appendComplete, serves, oldest]
  exact (if_neg (by simp [idle])).trans ((if_neg (not_not.2 written)).trans (if_pos (by simp [partner])))

/-! Checkpoints (R488 to R490) and erases (R481, R482) -/

theorem ckptComplete_of_abandoned {b : Bool} {k : Ckpt} (run : s.lin.run = some (b, k)) :
    ckptComplete s false = raise { s with lin := { s.lin with run := none } } 0x40 4 := by
  simp only [ckptComplete, run]
  exact if_pos rfl

theorem sectorErase_of_retired {i n : Nat} (ready : s.lin.state = 1) (free : reclaimable s (s.sect i) = true)
    (fails : 2 ≤ n) : sectorErase s i n = raise (setSect s i { s.sect i with state := 3 }) 0x40 5 :=
  (if_neg (by simp [ready, free])).trans (if_pos fails)

theorem sectorErase_of_erased {i n : Nat} (ready : s.lin.state = 1) (free : reclaimable s (s.sect i) = true)
    (erased : n < 2) (young : (s.sect i).erases + 1 ≠ 90000) : sectorErase s i n =
    setSect s i { sector0 with erases := (s.sect i).erases + 1, gen := (s.sect i).gen } :=
  (if_neg (by simp [ready, free])).trans ((if_neg (Nat.not_le.2 erased)).trans (if_neg young))

/-- Settles O48: each event by what it does where its condition holds. -/
theorem liningEventsComplete : Obligations.LiningEventsComplete :=
  ⟨fun _ _ _ bus lining _ _ _ => exec_settled rfl rfl (whenUp_of_all (by simp [bus, lining])),
    fun _ _ _ _ _ wf serves oldest idle failed => exec_settled rfl wf
      (appendComplete_of_failed serves oldest idle failed),
    fun _ _ _ _ _ wf serves oldest idle written partner => exec_settled rfl wf
      (appendComplete_of_partner serves oldest idle written partner),
    fun _ up due => exec_whenUp rfl rfl up (if_pos due),
    fun _ _ _ up run => exec_whenUp rfl rfl up (ckptComplete_of_abandoned run),
    fun _ _ _ up _ => exec_whenUp rfl rfl up rfl,
    fun _ _ _ wf up ready free fails => exec_whenUp rfl wf up (sectorErase_of_retired ready free fails),
    fun _ _ _ wf up ready free erased young => exec_whenUp rfl wf up (sectorErase_of_erased ready free erased young),
    fun _ _ _ wf up _ _ => exec_whenUp rfl wf up rfl⟩

end Sys2Proof.Machine
end

section
/-! PROOFS. The Gauntlet and updates (chapters 16 and 17), and O49. -/

namespace Sys2Proof.Machine

variable {s : State}

/-! Sensors and the cell -/

theorem glitchTrip_of_occurs {n : Nat} (sensor : 6 ≤ n ∧ n < 9) (watches : gntWatches s = true)
    (new : s.regB R.GNT_SENSE n = false) : glitchTrip s n true =
    trip (s.setRegB R.GNT_SENSE n true) n ((s.setRegB R.GNT_SENSE n true).regF R.GNT_SENSE 0 9) := by
  obtain ⟨low, high⟩ := sensor
  exact (if_neg (by simp [low, Nat.le_of_lt_succ high, watches])).trans (if_pos (by simp [new]))

theorem cellFail_of_off (off : s.pwr.phase = 0) : cellFail s = keyTouch
    { s with gnt := { s.gnt with slots := eraseAll.foldl sdel s.gnt.slots, log := [], cellLost := true } } :=
  if_neg (not_not.2 off)

/-! Owner-signed commands (R508) -/

theorem cmdFail_of_status {k : CmdRun} (runs : s.gnt.cmd = some k) (fails : cmdStatus s k.bytes ≠ 0) :
    cmdFail s = cmdEnd s (beAt k.bytes 3 1) (cmdStatus s k.bytes) := by
  simp only [cmdFail, runs]
  exact if_neg fails

/-- A running command of the code takes effect and ends where it passes every check. -/
theorem cmdRun_of_code {k : CmdRun} {code : Nat} {eff : State → List Byte → State} (runs : s.gnt.cmd = some k)
    (kind : beAt k.bytes 3 1 = code) :
    cmdRun s code eff = if cmdStatus s k.bytes = 0 then cmdEnd (eff s k.bytes) code 0 else s := by
  simp [cmdRun, runs, kind]

/-! APPLY (R529) -/

theorem applyComplete_of_flash_failure {m : List Byte} (staged : storedMan s = some m) (applying : s.upd.state = 3) :
    applyComplete s 1 = applyFail (updStat s 0 9) := by
  simp [applyComplete, staged, applying]

theorem applyComplete_of_difference {m b : List Byte} (staged : storedMan s = some m) (applying : s.upd.state = 3)
    (built : buildImage s m = some b) : applyComplete s 2 = applyFail (updStat s 0 7) := by
  simp [applyComplete, staged, applying, built]

/-- The inactive slot holds the image `b` of the manifest `m`. -/
def applied (s : State) (m b : List Byte) : State :=
  { s with upd := { s.upd with
      state := 4, applyAt := none, slots := sset s.upd.slots (inactive s) ⟨beAt m 8 4, beAt m 12 4, b, m, false⟩ } }

theorem applyComplete_of_built {m b : List Byte} (staged : storedMan s = some m) (applying : s.upd.state = 3)
    (built : buildImage s m = some b) : applyComplete s 0 =
    if Config.sha384 b = beAt m 76 48 then raise (applied s m b) 0x48 2 else applyFail (updStat s 0 7) := by
  simp only [applyComplete, staged, built]
  refine (if_neg (not_not.2 applying)).trans ((if_neg Nat.zero_ne_one).trans ?_)
  by_cases sound : Config.sha384 b = beAt m 76 48
  · exact (if_neg (by simp [sound])).trans (if_pos sound).symm
  · exact (if_pos (.inr sound)).trans (if_neg sound).symm

/-! Activation (R530 to R535) -/

theorem activationStart_of_due {t : Nat} (time : s.upd.actAt = some t) (applied : s.upd.state = 4)
    (due : t ≤ tickNow s) (own : s.upd.yielding = false) (unfit : partnerFit s = false)
    (accepted : updRefusal s true = 0) : activationStart s = pauseStart s := by
  simp only [activationStart, time]
  exact (if_neg (by simp [applied, due])).trans
    ((if_neg (by simp [unfit])).trans ((if_neg (by simp [own])).trans (if_neg (not_not.2 accepted))))

theorem activatedCmd_of_image (image : s.regB R.GNT_BOOT 2 = false) : activatedCmd s = activated s :=
  if_neg (by simp [image])

/-- Settles O49: each event by what it does where its condition holds. -/
theorem securityEventsComplete : Obligations.SecurityEventsComplete :=
  ⟨fun _ _ wf _ => exec_settled rfl wf rfl,
    fun _ _ wf watches new => exec_settled rfl wf (glitchTrip_of_occurs (by simpa [Instr.wf] using wf) watches new),
    fun _ _ runs fails => exec_settled rfl rfl (cmdFail_of_status runs fails),
    fun _ _ runs kind => exec_settled rfl rfl (cmdRun_of_code runs kind),
    fun _ _ runs kind => exec_settled rfl rfl (cmdRun_of_code runs kind),
    fun _ _ runs kind => exec_settled rfl rfl (cmdRun_of_code runs kind),
    fun _ _ runs kind => exec_settled rfl rfl (cmdRun_of_code runs kind),
    fun _ _ runs kind => exec_settled rfl rfl (cmdRun_of_code runs kind),
    fun _ _ runs kind => exec_settled rfl rfl (cmdRun_of_code runs kind),
    fun _ => exec_settled rfl rfl rfl,
    fun _ off => exec_alone rfl rfl (cellFail_of_off off),
    fun _ _ wf up staged applying => exec_whenUp rfl wf up (applyComplete_of_flash_failure staged applying),
    fun _ _ _ wf up staged applying built => exec_whenUp rfl wf up
      (applyComplete_of_difference staged applying built),
    fun _ _ _ wf up staged applying built => exec_whenUp rfl wf up (applyComplete_of_built staged applying built),
    fun _ _ up time applied due own unfit accepted => exec_whenUp rfl rfl up
      (activationStart_of_due time applied due own unfit accepted),
    fun _ up image => exec_whenUp rfl rfl up (activatedCmd_of_image image),
    fun _ _ up _ _ => exec_whenUp rfl rfl up rfl⟩

end Sys2Proof.Machine
end

section
/-! PROOFS. Self-calibration, self-test, faults, supply and start-up (chapters 18 to 20), and O50. The end of a scrub pass and a
cage's draw are as log entry 131 reads them, the periods of a quantity as 176 does. -/

namespace Sys2Proof.Machine

variable {s : State}

/-! Self-test and alerts (R547, R553, R554, R558) -/

theorem calDue_of_cause {q : Nat} {off : Bool} (cause : calCause s q = true) : calDue s q off =
    calTry ((calMake s q).setQty q { (calMake s q).qty q with tried := calTurns s q }) q off := by
  rw [calDue, if_pos cause]

theorem scrubError_of_corrected {w : Nat} (ahead : s.regF R.BST_SPOS 0 28 ≤ w) : scrubError s w false =
    raise (((s.setReg R.BST_SPOS (w32 ((w + 1) % 2 ^ 28))).count R.BST_SCNT 0 16 1).count R.FST_ECC 0 16 1) 0x08 3 :=
  (if_neg (Nat.not_lt.2 ahead)).trans (if_neg Bool.false_ne_true)

theorem alertRelease_of_unwanted (driven : s.evt.alert = true) (unwanted : alertWanted s = false) :
    alertRelease s = { s with evt := { s.evt with alert := false, alertRel := some s.up } } :=
  if_pos (by simp [driven, unwanted])

/-! Start-up (R587 to R589) -/

theorem letGo_of_unheated {b : Int} (unheated : s.pwr.thermalOff = false) : letGo s b = release s :=
  if_neg (by simp [unheated])

theorem letGo_of_cool {b : Int} (cool : b < 700) : letGo s b = release s :=
  if_neg (by simp [Int.not_le.2 cool])

theorem letGo_of_warm {b : Int} (hot : s.pwr.thermalOff = true) (warm : 700 ≤ b) :
    letGo s b = { s with pwr := { s.pwr with tripSince := some s.up } } :=
  if_pos (by simp [hot, warm])

theorem powerOn_of_supply {v h : Nat} {off : Bool} {b : Int} (dark : s.pwr.phase = 0) (volts : 3550 ≤ v)
    (held : 10000000 ≤ h) (rested : 10000000 ≤ s.up) (high : (deviceReset s (b2n off) 1).pwr.rstLow = false)
    (cool : (deviceReset s (b2n off) 1).pwr.thermalOff = false) :
    powerOn s v h off b = release (deviceReset s (b2n off) 1) :=
  (if_neg (by omega)).trans ((if_neg (by simp [high])).trans (letGo_of_unheated cool))

theorem islandStart_of_plain {i : Nat} (on : s.pwr.phase = 2) (next : (startOrder s)[s.pwr.started]? = some i)
    (unbooted : i ≠ 3) (unclocked : i ≠ 9) : islandStart s = raise
      { s with isl := { s.isl with up := s.isl.up ||| 2 ^ i }, pwr := { s.pwr with started := s.pwr.started + 1 } } 0x01 i := by
  simp [islandStart, on, next, unbooted, unclocked]

/-! Supply (R582, R585, R586, R591) -/

/-- The supply bands and the J1 readings of one sample. -/
def banded (s : State) (low36 low40 overv : Bool) (v i : Nat) : State :=
  { s with pwr := { s.pwr with low36 := low36, low40 := low40, overv := overv } }.setReg R.PWR_J1 (w32 (v + i * 65536))

theorem supplyBand_of_normal {v i h : Nat} (low : 3600 ≤ v) (high : v ≤ 7550) :
    supplyBand s v i h = banded s false (decide (v < 4000)) false v i := by
  simp [supplyBand, banded, Nat.not_lt.2 low, Nat.not_lt.2 high]

theorem supplyBand_of_low {v i h : Nat} (low : v < 3600) (held : 100000000 ≤ h) (new : s.pwr.low36 = false) :
    supplyBand s v i h = raise (banded s true true false v i) 0x50 0 := by
  simp [supplyBand, banded, low, held, new, show v < 4000 by omega, show ¬7550 < v by omega]

theorem supplyBand_of_high {v i h : Nat} (high : 7550 < v) (held : 1000000 ≤ h) (new : s.pwr.overv = false) :
    supplyBand s v i h = raise (banded s false false true v i) 0x50 1 := by
  simp [supplyBand, banded, high, held, new, show ¬v < 3600 by omega, show ¬v < 4000 by omega]

theorem powerOffEnd_of_late {k t : Nat} (warned : s.pwr.pfw = some (k, t)) (late : elapsed s t 75000000 = true) :
    powerOffEnd s = deviceReset (lastRecord s t) 2 0 := by
  simp only [powerOffEnd, warned]
  exact if_pos (by simp [late])

theorem logicPowerLoss_of_warned {k t : Nat} (warned : s.pwr.pfw = some (k, t)) (drained : s.pwr.charged = false) :
    logicPowerLoss s = deviceReset (lastRecord s t) 0 0 := by
  simp only [logicPowerLoss, warned]
  exact if_neg (by simp [drained])

/-- The bank's readings of one measurement. -/
def heldUp (s : State) (charged : Bool) (v cp : Nat) : State :=
  { s with pwr := { s.pwr with charged := charged } }.setReg R.PWR_HOLDUP (w32 (v % 2 ^ 14 + cp * 65536))

theorem holdupMeasure_of_charged {v cp : Nat} (volts : 6800 ≤ v) (fit : 380 ≤ cp) (charged : s.pwr.charged = true) :
    holdupMeasure s v cp = heldUp s true v cp := by
  simp [holdupMeasure, heldUp, volts, fit, charged, Nat.not_lt.2 fit]

theorem holdupMeasure_of_newly_charged {v cp : Nat} (volts : 6800 ≤ v) (fit : 380 ≤ cp)
    (drained : s.pwr.charged = false) : holdupMeasure s v cp = raise (heldUp s true v cp) 0x50 4 := by
  simp [holdupMeasure, heldUp, volts, fit, drained, Nat.not_lt.2 fit]

theorem holdupMeasure_of_worn {v cp : Nat} (worn : cp < 380) :
    holdupMeasure s v cp = raise (heldUp s false v cp) 0x50 2 := by
  simp [holdupMeasure, heldUp, worn, Nat.not_le.2 worn]

theorem cageOvercurrent_of_excess {k mw h : Nat} (cage : k < 13) (held : 1000000 ≤ h) (excess : 6 * cageLimit k < 5 * mw) :
    cageOvercurrent s k mw h = linkGoesDown (raise (s.setRegB R.PWR_CAGE k true) 0x50 3) (cagePage k) :=
  if_neg (by omega)

theorem cageOvercurrentCmd_of_excess {k mw h : Nat} (cage : k < 13) (held : 1000000 ≤ h)
    (excess : 6 * cageLimit k < 5 * mw) (up0 : cagePage k ≠ 0x10) (up1 : cagePage k ≠ 0x11) :
    cageOvercurrentCmd s k mw h =
      ptpTouch (linkGoesDown (raise (s.setRegB R.PWR_CAGE k true) 0x50 3) (cagePage k)) := by
  rw [cageOvercurrentCmd, cageOvercurrent_of_excess cage held excess]
  exact congrArg ptpTouch (if_neg (by simp [up0, up1]))

/-! Heat and resets (R574, R589, R593, R595) -/

theorem thermalTrip_of_elapsed {t : Nat} (hot : s.pwr.tripSince = some t) (on : s.pwr.phase = 2)
    (due : elapsed s t 1000000000 = true) : thermalTrip s = powerFail s 3 := by
  simp only [thermalTrip, hot]
  exact if_pos ⟨on, due⟩

theorem thermalRestartCheck_of_due {b : Int} {t : Nat} (tripped : s.pwr.tripSince = some t) (held : s.pwr.phase = 1)
    (high : s.pwr.rstLow = false) (hot : s.pwr.thermalOff = true) (due : elapsed s t 10000000000 = true) :
    thermalRestartCheck s b = letGo s b := by
  simp only [thermalRestartCheck, tripped]
  exact if_neg (by simp [held, high, hot, due])

theorem rstLow_of_held {h : Nat} (held : 1000 ≤ h) (on : s.pwr.phase = 2) (steady : s.pwr.pfw = none) :
    rstLow s h = deviceReset { s with pwr := { s.pwr with rstLow := true } } 3 1 := by
  simp only [rstLow, steady]
  exact (if_neg (Nat.not_lt.2 held)).trans (if_neg (not_not.2 on))

theorem rstHigh_of_unheated {b : Int} (held : s.pwr.phase = 1) (cool : s.pwr.thermalOff = false) :
    rstHigh s b = release { s with pwr := { s.pwr with rstLow := false } } :=
  (if_neg (not_not.2 held)).trans (letGo_of_unheated cool)

theorem firmwareWatchdog_of_first (on : s.pwr.phase = 2) (steady : s.pwr.pfw = none) (first : s.pwr.orderly = none) :
    firmwareWatchdog s = orderlyStart s 5 := by
  simp only [firmwareWatchdog, first]
  exact if_neg (by simp [on, steady])

theorem sensorFail_of_missing {t : Temps} {h : Nat} (missing : t.b0 = none) :
    sensorFail s t h = raise (thermSample s t) 0x51 2 := by
  simp only [sensorFail, missing]
  exact if_pos trivial

/-- Settles O50: each event by what it does where its condition holds. -/
theorem moduleEventsComplete : Obligations.ModuleEventsComplete :=
  ⟨fun _ _ _ wf up cause => exec_whenUp rfl wf up (calDue_of_cause cause),
    fun _ _ _ wf up _ _ => exec_whenUp rfl wf up rfl,
    fun _ _ wf bus self _ _ => exec_settled rfl wf (whenUp_of_all (by simp [bus, self])),
    fun _ _ wf up ahead => exec_whenUp rfl wf up (scrubError_of_corrected ahead),
    fun _ _ wf up => exec_whenUp rfl wf up rfl,
    fun _ up due => exec_whenUp rfl rfl up (if_pos due),
    fun _ up driven unwanted => exec_whenUp_alone rfl rfl up (alertRelease_of_unwanted driven unwanted),
    fun _ _ _ _ _ off volts held rested high cool => exec_settled rfl rfl
      (powerOn_of_supply off volts held rested high cool),
    fun _ _ on next unbooted unclocked => exec_settled rfl rfl (islandStart_of_plain on next unbooted unclocked),
    fun _ _ _ => exec_settled rfl rfl rfl,
    fun _ _ _ _ low high => exec_settled rfl rfl (supplyBand_of_normal low high),
    fun _ _ _ _ low held new => exec_settled rfl rfl (supplyBand_of_low low held new),
    fun _ _ _ _ high held new => exec_settled rfl rfl (supplyBand_of_high high held new),
    fun _ _ _ low held => exec_settled rfl rfl (if_pos ⟨low, held⟩),
    fun _ _ _ high held => exec_settled rfl rfl (if_pos ⟨high, held⟩),
    fun _ _ hot on due => exec_settled rfl rfl (thermalTrip_of_elapsed hot on due),
    fun _ _ _ warned late => exec_alone rfl rfl (powerOffEnd_of_late warned late),
    fun _ _ _ tripped held high hot due warm => exec_alone rfl rfl
      ((thermalRestartCheck_of_due tripped held high hot due).trans (letGo_of_warm hot warm)),
    fun _ _ _ tripped held high hot due cool => exec_alone rfl rfl
      ((thermalRestartCheck_of_due tripped held high hot due).trans (letGo_of_cool cool)),
    fun _ _ held on steady => exec_alone rfl rfl (rstLow_of_held held on steady),
    fun _ _ held cool => exec_alone rfl rfl (rstHigh_of_unheated held cool),
    fun _ on steady first => exec_settled rfl rfl (firmwareWatchdog_of_first on steady first),
    fun _ _ _ _ wf held excess up0 up1 => exec_settled rfl wf
      (cageOvercurrentCmd_of_excess (of_decide_eq_true wf) held excess up0 up1),
    fun _ _ _ volts fit charged => exec_settled rfl rfl (holdupMeasure_of_charged volts fit charged),
    fun _ _ _ volts fit drained => exec_settled rfl rfl (holdupMeasure_of_newly_charged volts fit drained),
    fun _ _ _ worn => exec_settled rfl rfl (holdupMeasure_of_worn worn),
    fun _ _ up => exec_whenUp rfl rfl up rfl,
    fun _ _ _ up missing => exec_whenUp rfl rfl up (sensorFail_of_missing missing),
    fun _ _ _ warned drained => exec_alone rfl rfl (logicPowerLoss_of_warned warned drained)⟩

end Sys2Proof.Machine
end
